-- ==== Sys2Proof/Word.lean ====
section
/-! DEFINITION. The words of the Hespin 2408's chain and the numbers of its things (00_scope.md, Conventions). -/

namespace Sys2Proof

/-- One byte of a chain frame. -/
abbrev Byte := BitVec 8

/-- A two-byte number of a frame, sent high byte first (R153). -/
abbrev Half := BitVec 16

/-- A channel number, 0 to 23 (R3). -/
abbrev Chan := Fin 24

/-- A switch input number, 0 to 31 (R64). -/
abbrev InputNo := Fin 32

/-- A rule number, 0 to 31 (R75). -/
abbrev RuleNo := Fin 32

/-- A rule group number, 0 to 7 (R78). -/
abbrev GroupNo := Fin 8

/-- A train context number, 0 to 11 (R91). -/
abbrev TrainNo := Fin 12

/-- A reel bank number, 0 to 3 (R107). -/
abbrev BankNo := Fin 4

/-- A counter unit number, 0 to 3 (R118). -/
abbrev UnitNo := Fin 4

/-- A lamp ring number, 0 to 3 (R148). -/
abbrev RingNo := Fin 4

/-- A lamp number, 0 to 63 (R140). -/
abbrev LampNo := Fin 64

end Sys2Proof
end

