-- ==== Sys2Proof/Config.lean ====
section
/-! DEFINITION. What an implementation fixes and the values the manual leaves open. The two opaque constants
are free values: nothing in Lean can evaluate them, so a claim holds whatever they are. -/

namespace Sys2Proof

/-- Microseconds in a millisecond: the model's clock counts microseconds, the finest unit the manual uses
(R126; log entry 1). -/
def Config.msTime : Nat := 1000

/-- FREE VALUE. Whether a time of so many microseconds that is no whole number of milliseconds is reported
rounded up in an answer: the manual states "the milliseconds left" and no rounding (R63, R90, R106, R152; log entry 7). -/
opaque Config.msRoundsUp : Nat → Bool

/-- FREE VALUE. The byte sent in an answer's field to which the manual gives no content in the case at hand, by a
number that tells such fields apart (R106, R124, R125; log entry 8). -/
opaque Config.openByte : Nat → Byte

/-- The most entries the Admission Queue holds (R41). -/
def Config.queueSize : Nat := 16

/-- The largest planned count of a train (R91, R99). -/
def Config.maxPlanned : Nat := 1023

end Sys2Proof
end

