-- ==== Sys2Proof/Syntax.lean ====
section
/-! DEFINITION. The commands of the node: one constructor of `Instr` per row of spec/opcode_table.json.
Parameters that arrive in a frame are kept as the bytes and two-byte numbers of R161's layouts; the ranges the
rules check are checked by the meanings, not here. -/

namespace Sys2Proof

/-- What a frame's row carries besides its payload: its destination and tag bytes, and `damage`, the exclusive-or
of the payload check received with the check of the payload received, so that the payload check passes exactly when it is 0
(R153, R155; log entry 3). -/
structure Head where
  dest   : Byte
  tag    : Byte
  damage : Half := 0
  deriving DecidableEq, Repr

/-- The consumers of an edge that act on it, each as an event of its own (R69). -/
inductive Consumer where
  | ruleEngine | channelDrivers | unitLogic | nodeState
  deriving DecidableEq, Repr

/-- One sample of the 32 inputs (R65): the raw level of input `i` is high when bit `i` of `levels` is set. `order` says which
edges made at this sample reach which consumer first: the manual leaves the order free (R69), so the command chooses it; the
deliveries it does not name follow in ascending input number (log entry 4). -/
structure Sample where
  levels : BitVec 32
  order  : List (InputNo × Consumer) := []
  deriving DecidableEq, Repr

/-- The node settings record as it is laid out, kind 1 (R161). -/
structure SettingsRec where
  budget : Byte
  reserve : Byte
  silence : Half
  settle : Half
  sagThreshold : Byte
  supplyFloor : Byte
  leakThreshold : Byte
  warmTemp : Byte
  tripTemp : Byte
  warmCap : Byte
  master : Byte
  quietMaster : Byte
  blink : Half
  warmLamp : Byte
  attention : Half
  deriving DecidableEq, Repr

/-- The coil record as it is laid out, kind 2 (R161). -/
structure CoilRec where
  channel : Byte
  enabled : Byte
  power : Byte
  kick : Byte
  kickMin : Byte
  hold : Byte
  holdLimit : Half
  recovery : Byte
  heatLimit : Half
  alert : Half
  shift : Byte
  rate : Byte
  openFloor : Byte
  shortCeiling : Byte
  deriving DecidableEq, Repr

/-- The input record as it is laid out, kind 3 (R161). -/
structure InputRec where
  input : Byte
  polarity : Byte
  debounce : Byte
  deriving DecidableEq, Repr

/-- The rule as it is laid out, kind 4 (R161); `p0` to `p3` are the action's four parameter bytes. -/
structure RuleRec where
  rule : Byte
  trigger : Byte
  edge : Byte
  action : Byte
  group : Byte
  holdoff : Half
  persistent : Byte
  p0 : Byte
  p1 : Byte
  p2 : Byte
  p3 : Byte
  deriving DecidableEq, Repr

/-- The bank record as it is laid out, kind 5 (R161); `reels` are the channel and zero switch of reels 0 to 4. -/
structure BankRec where
  bank : Byte
  width : Byte
  startIv : Half
  floorIv : Half
  ramp : Byte
  idle : Byte
  reels : List (Byte × Byte)
  deriving DecidableEq, Repr

/-- The counter-unit record as it is laid out, kind 6 (R161). -/
structure UnitRec where
  unit : Byte
  inUse : Byte
  up : Byte
  down : Byte
  top : Byte
  zero : Byte
  maximum : Byte
  settle : Half
  startIv : Half
  floorIv : Half
  ramp : Byte
  idle : Byte
  deriving DecidableEq, Repr

/-- The ring record as it is laid out, kind 7 (R161); `members` are its 16 member bytes. -/
structure RingRec where
  ring : Byte
  length : Byte
  chase : Half
  members : List Byte
  deriving DecidableEq, Repr

/-- The commands and events of spec/opcode_table.json, one constructor a row. A row that is a frame carries its
`Head`; a query row carries its number byte and every payload byte after it (`rest`: the place of the status and the
answer); a timer's row names whose timer it is; a reading's row carries the reading. -/
inductive Instr where
  | powerOnReset (straps : BitVec 4) (levels : BitVec 32)
  | frame (bytes : List Byte)
  | frameAbandoned (bytes : List Byte)
  | go (f : Head)
  | quiet (f : Head) (mask : BitVec 32)
  | reset (f : Head)
  | pulse (f : Head) (channel override : Byte)
  | release (f : Head) (channel : Byte)
  | arm (f : Head) (mask : Byte)
  | disarm (f : Head) (mask : Byte)
  | run (f : Head) (channel count : Byte) (startIv floorIv : Half) (ramp idle : Byte)
  | cancel (f : Head) (target number : Byte)
  | add (f : Head) (bank : Byte) (value : BitVec 24)
  | zero (f : Head) (bank : Byte)
  | step (f : Head) (unit count : Byte)
  | lock (f : Head) (channel : Byte)
  | unlock (f : Head) (channel : Byte)
  | setLamps (f : Head) (first count : Byte) (levels : List Byte)
  | setModes (f : Head) (first count : Byte) (modes : List Byte)
  | move (f : Head) (ring count : Byte)
  | acknowledge (f : Head) (mask : Half)
  | clearCounts (f : Head) (mask : BitVec 32)
  | loadNodeSettings (f : Head) (r : SettingsRec)
  | loadCoil (f : Head) (r : CoilRec)
  | loadInput (f : Head) (r : InputRec)
  | loadRule (f : Head) (r : RuleRec)
  | loadBank (f : Head) (r : BankRec)
  | loadUnit (f : Head) (r : UnitRec)
  | loadRing (f : Head) (r : RingRec)
  | queryNodeSettings (f : Head) (number : Byte) (rest : List Byte)
  | queryCoil (f : Head) (number : Byte) (rest : List Byte)
  | queryInput (f : Head) (number : Byte) (rest : List Byte)
  | queryRule (f : Head) (number : Byte) (rest : List Byte)
  | queryBank (f : Head) (number : Byte) (rest : List Byte)
  | queryCounterUnit (f : Head) (number : Byte) (rest : List Byte)
  | queryRing (f : Head) (number : Byte) (rest : List Byte)
  | queryChannelStatus (f : Head) (number : Byte) (rest : List Byte)
  | queryQueueSnapshot (f : Head) (number : Byte) (rest : List Byte)
  | queryTrainStatus (f : Head) (number : Byte) (rest : List Byte)
  | queryBankStatus (f : Head) (number : Byte) (rest : List Byte)
  | queryCounterStatus (f : Head) (number : Byte) (rest : List Byte)
  | queryIdentity (f : Head) (number : Byte) (rest : List Byte)
  | queryMonitor (f : Head) (number : Byte) (rest : List Byte)
  | queryLampImage (f : Head) (number : Byte) (rest : List Byte)
  | sweep (f : Head) (first count : Byte) (slots : List Byte) (during : List Sample)
  | silenceExpiry
  | settleExpiry
  | inputSample (x : Sample)
  | kickTimerExpiry (c : Chan)
  | holdLimitExpiry (c : Chan)
  | recoveryExpiry (c : Chan)
  | kickAccrual (c : Chan)
  | holdAccrual (c : Chan)
  | coolingTick
  | staleTimerExpiry (c : Chan) (cls : Fin 4)
  | intervalExpiry (t : TrainNo)
  | verifyExpiry (t : TrainNo)
  | trainSettleExpiry (t : TrainNo)
  | holdoffExpiry (r : RuleNo)
  | driveSample (reading : Byte)
  | shortLock (reading : Byte)
  | openLock (c : Chan)
  | undrivenSample (c : Chan) (reading : Byte)
  | leakTrip (c : Chan) (reading : Byte)
  | supplyReading (reading : Byte)
  | sagSet (reading : Byte)
  | sagClear (reading : Byte)
  | supplyFloorTrip (reading : Byte)
  | temperatureReading (reading : Byte)
  | heatTrip (reading : Byte)
  | strobeSlot
  | blinkHalfChange
  | chaseExpiry (r : RingNo)
  deriving DecidableEq, Repr

end Sys2Proof
end

