-- ==== Sys2Proof/WellFormed.lean ====
section
/-! DEFINITION. Which commands are well formed: the lists they carry have the lengths R153 and R161 give them. -/

namespace Sys2Proof

/-- A sample names no delivery twice. -/
def Sample.wf (x : Sample) : Bool := decide x.order.Nodup

/-- The lists of a command fit the frame that carries it: a frame has at most 248 bytes and its payload at most 240 (R153),
a bank record five reels and a ring record sixteen members (R161), and a run of lamps as many bytes as it counts
(R146, R147). -/
def Instr.wf : Instr → Bool
  | .frame bytes => 1 ≤ bytes.length && bytes.length ≤ 248
  | .frameAbandoned bytes => 1 ≤ bytes.length && bytes.length ≤ 248
  | .setLamps _ _ count levels => levels.length == count.toNat && levels.length ≤ 237
  | .setModes _ _ count modes => modes.length == count.toNat && modes.length ≤ 237
  | .loadBank _ r => r.reels.length == 5
  | .loadRing _ r => r.members.length == 16
  | .queryNodeSettings _ _ rest => rest.length ≤ 238
  | .queryCoil _ _ rest => rest.length ≤ 238
  | .queryInput _ _ rest => rest.length ≤ 238
  | .queryRule _ _ rest => rest.length ≤ 238
  | .queryBank _ _ rest => rest.length ≤ 238
  | .queryCounterUnit _ _ rest => rest.length ≤ 238
  | .queryRing _ _ rest => rest.length ≤ 238
  | .queryChannelStatus _ _ rest => rest.length ≤ 238
  | .queryQueueSnapshot _ _ rest => rest.length ≤ 238
  | .queryTrainStatus _ _ rest => rest.length ≤ 238
  | .queryBankStatus _ _ rest => rest.length ≤ 238
  | .queryCounterStatus _ _ rest => rest.length ≤ 238
  | .queryIdentity _ _ rest => rest.length ≤ 238
  | .queryMonitor _ _ rest => rest.length ≤ 238
  | .queryLampImage _ _ rest => rest.length ≤ 238
  | .sweep f _ count slots during =>
      f.dest == 0 && 1 ≤ count.toNat && count.toNat ≤ 7 && slots.length == 32 * count.toNat &&
        during.all Sample.wf
  | .inputSample x => x.wf
  | .powerOnReset _ _ => true
  | .go _ => true
  | .quiet _ _ => true
  | .reset _ => true
  | .pulse _ _ _ => true
  | .release _ _ => true
  | .arm _ _ => true
  | .disarm _ _ => true
  | .run _ _ _ _ _ _ _ => true
  | .cancel _ _ _ => true
  | .add _ _ _ => true
  | .zero _ _ => true
  | .step _ _ _ => true
  | .lock _ _ => true
  | .unlock _ _ => true
  | .move _ _ _ => true
  | .acknowledge _ _ => true
  | .clearCounts _ _ => true
  | .loadNodeSettings _ _ => true
  | .loadCoil _ _ => true
  | .loadInput _ _ => true
  | .loadRule _ _ => true
  | .loadUnit _ _ => true
  | .silenceExpiry => true
  | .settleExpiry => true
  | .kickTimerExpiry _ => true
  | .holdLimitExpiry _ => true
  | .recoveryExpiry _ => true
  | .kickAccrual _ => true
  | .holdAccrual _ => true
  | .coolingTick => true
  | .staleTimerExpiry _ _ => true
  | .intervalExpiry _ => true
  | .verifyExpiry _ => true
  | .trainSettleExpiry _ => true
  | .holdoffExpiry _ => true
  | .driveSample _ => true
  | .shortLock _ => true
  | .openLock _ => true
  | .undrivenSample _ _ => true
  | .leakTrip _ _ => true
  | .supplyReading _ => true
  | .sagSet _ => true
  | .sagClear _ => true
  | .supplyFloorTrip _ => true
  | .temperatureReading _ => true
  | .heatTrip _ => true
  | .strobeSlot => true
  | .blinkHalfChange => true
  | .chaseExpiry _ => true

end Sys2Proof
end

