-- ==== Sys2Proof/Decode.lean ====
section
/-! DEFINITION. Reading a frame's bytes as a command and writing a command's frame (R153 to R158, R161).
The rows of spec/opcode_table.json give no bits, so `decodeTableWord` reads none of them; the node's own decoding is of
chain frames, and is here. -/

namespace Sys2Proof

/-! ### Bytes and numbers: the high byte goes first (R153) -/

/-- The two bytes of a two-byte number. -/
def halfBytes (h : Half) : List Byte := [h.extractLsb' 8 8, h.extractLsb' 0 8]

/-- The three bytes of a three-byte number. -/
def value24Bytes (v : BitVec 24) : List Byte :=
  [v.extractLsb' 16 8, v.extractLsb' 8 8, v.extractLsb' 0 8]

/-- The four bytes of a four-byte mask: item 0 is the least significant bit of the last (R161). -/
def mask32Bytes (m : BitVec 32) : List Byte :=
  [m.extractLsb' 24 8, m.extractLsb' 16 8, m.extractLsb' 8 8, m.extractLsb' 0 8]

/-- A two-byte number from its bytes. -/
def joinHalf (a b : Byte) : Half := a ++ b

/-- A three-byte number from its bytes. -/
def join24 (a b c : Byte) : BitVec 24 := a ++ b ++ c

/-- A four-byte mask from its bytes. -/
def join32 (a b c d : Byte) : BitVec 32 := a ++ b ++ c ++ d

/-! ### The checks of a frame (R153): most significant bit first, no reflection, no final inversion -/

/-- One bit of the header check, polynomial x^8 + x^2 + x + 1. -/
def crc8Bit (c : Byte) : Byte := if c.msb then (c <<< 1) ^^^ 0x07#8 else c <<< 1

/-- One byte of the header check. -/
def crc8Byte (c b : Byte) : Byte :=
  crc8Bit (crc8Bit (crc8Bit (crc8Bit (crc8Bit (crc8Bit (crc8Bit (crc8Bit (c ^^^ b))))))))

/-- The header check: CRC-8 from 0. -/
def crc8 (bytes : List Byte) : Byte := bytes.foldl crc8Byte 0#8

/-- One bit of the payload check, polynomial 0x1021. -/
def crc16Bit (c : Half) : Half := if c.msb then (c <<< 1) ^^^ 0x1021#16 else c <<< 1

/-- One byte of the payload check. -/
def crc16Byte (c : Half) (b : Byte) : Half :=
  crc16Bit (crc16Bit (crc16Bit (crc16Bit (crc16Bit (crc16Bit (crc16Bit (crc16Bit
    (c ^^^ (b.setWidth 16 <<< 8)))))))))

/-- The payload check: CRC-16 from 0xFFFF. -/
def crc16 (bytes : List Byte) : Half := bytes.foldl crc16Byte 0xFFFF#16

/-! ### The layouts of R161, written -/

/-- The node settings record, kind 1. -/
def settingsBytes (r : SettingsRec) : List Byte :=
  [r.budget, r.reserve] ++ halfBytes r.silence ++ halfBytes r.settle ++
    [r.sagThreshold, r.supplyFloor, r.leakThreshold, r.warmTemp, r.tripTemp, r.warmCap, r.master, r.quietMaster] ++
    halfBytes r.blink ++ [r.warmLamp] ++ halfBytes r.attention

/-- The coil record, kind 2. -/
def coilBytes (r : CoilRec) : List Byte :=
  [r.channel, r.enabled, r.power, r.kick, r.kickMin, r.hold] ++ halfBytes r.holdLimit ++ [r.recovery] ++
    halfBytes r.heatLimit ++ halfBytes r.alert ++ [r.shift, r.rate, r.openFloor, r.shortCeiling]

/-- The input record, kind 3. -/
def inputBytes (r : InputRec) : List Byte := [r.input, r.polarity, r.debounce]

/-- The rule, kind 4. -/
def ruleBytes (r : RuleRec) : List Byte :=
  [r.rule, r.trigger, r.edge, r.action, r.group] ++ halfBytes r.holdoff ++
    [r.persistent, r.p0, r.p1, r.p2, r.p3]

/-- The bank record, kind 5. -/
def bankBytes (r : BankRec) : List Byte :=
  [r.bank, r.width] ++ halfBytes r.startIv ++ halfBytes r.floorIv ++ [r.ramp, r.idle] ++
    r.reels.flatMap fun x => [x.1, x.2]

/-- The counter-unit record, kind 6. -/
def unitBytes (r : UnitRec) : List Byte :=
  [r.unit, r.inUse, r.up, r.down, r.top, r.zero, r.maximum] ++ halfBytes r.settle ++ halfBytes r.startIv ++
    halfBytes r.floorIv ++ [r.ramp, r.idle]

/-- The ring record, kind 7. -/
def ringBytes (r : RingRec) : List Byte := [r.ring, r.length] ++ halfBytes r.chase ++ r.members

/-- The frame kind, header and payload of a row that is one frame; none for the rows that are raw bytes, events or
readings. -/
def framePayload : Instr → Option (Byte × Head × List Byte)
  | .go f => some (1, f, [1])
  | .quiet f m => some (1, f, 2 :: mask32Bytes m)
  | .reset f => some (1, f, [3])
  | .pulse f c k => some (1, f, [4, c, k])
  | .release f c => some (1, f, [5, c])
  | .arm f m => some (1, f, [6, m])
  | .disarm f m => some (1, f, [7, m])
  | .run f c n si fi d k => some (1, f, [8, c, n] ++ halfBytes si ++ halfBytes fi ++ [d, k])
  | .cancel f t n => some (1, f, [9, t, n])
  | .add f b v => some (1, f, [10, b] ++ value24Bytes v)
  | .zero f b => some (1, f, [11, b])
  | .step f u n => some (1, f, [12, u, n])
  | .lock f c => some (1, f, [13, c])
  | .unlock f c => some (1, f, [14, c])
  | .setLamps f a n ls => some (1, f, [15, a, n] ++ ls)
  | .setModes f a n ms => some (1, f, [16, a, n] ++ ms)
  | .move f r n => some (1, f, [17, r, n])
  | .acknowledge f m => some (1, f, 18 :: halfBytes m)
  | .clearCounts f m => some (1, f, 19 :: mask32Bytes m)
  | .loadNodeSettings f r => some (2, f, 1 :: settingsBytes r)
  | .loadCoil f r => some (2, f, 2 :: coilBytes r)
  | .loadInput f r => some (2, f, 3 :: inputBytes r)
  | .loadRule f r => some (2, f, 4 :: ruleBytes r)
  | .loadBank f r => some (2, f, 5 :: bankBytes r)
  | .loadUnit f r => some (2, f, 6 :: unitBytes r)
  | .loadRing f r => some (2, f, 7 :: ringBytes r)
  | .queryNodeSettings f n rest => some (3, f, [1, n] ++ rest)
  | .queryCoil f n rest => some (3, f, [2, n] ++ rest)
  | .queryInput f n rest => some (3, f, [3, n] ++ rest)
  | .queryRule f n rest => some (3, f, [4, n] ++ rest)
  | .queryBank f n rest => some (3, f, [5, n] ++ rest)
  | .queryCounterUnit f n rest => some (3, f, [6, n] ++ rest)
  | .queryRing f n rest => some (3, f, [7, n] ++ rest)
  | .queryChannelStatus f n rest => some (3, f, [8, n] ++ rest)
  | .queryQueueSnapshot f n rest => some (3, f, [9, n] ++ rest)
  | .queryTrainStatus f n rest => some (3, f, [10, n] ++ rest)
  | .queryBankStatus f n rest => some (3, f, [11, n] ++ rest)
  | .queryCounterStatus f n rest => some (3, f, [12, n] ++ rest)
  | .queryIdentity f n rest => some (3, f, [13, n] ++ rest)
  | .queryMonitor f n rest => some (3, f, [14, n] ++ rest)
  | .queryLampImage f n rest => some (3, f, [15, n] ++ rest)
  | .sweep f a c slots _ => some (5, f, [a, c] ++ slots)
  | .powerOnReset _ _ => none
  | .frame _ => none
  | .frameAbandoned _ => none
  | .silenceExpiry => none
  | .settleExpiry => none
  | .inputSample _ => none
  | .kickTimerExpiry _ => none
  | .holdLimitExpiry _ => none
  | .recoveryExpiry _ => none
  | .kickAccrual _ => none
  | .holdAccrual _ => none
  | .coolingTick => none
  | .staleTimerExpiry _ _ => none
  | .intervalExpiry _ => none
  | .verifyExpiry _ => none
  | .trainSettleExpiry _ => none
  | .holdoffExpiry _ => none
  | .driveSample _ => none
  | .shortLock _ => none
  | .openLock _ => none
  | .undrivenSample _ _ => none
  | .leakTrip _ _ => none
  | .supplyReading _ => none
  | .sagSet _ => none
  | .sagClear _ => none
  | .supplyFloorTrip _ => none
  | .temperatureReading _ => none
  | .heatTrip _ => none
  | .strobeSlot => none
  | .blinkHalfChange => none
  | .chaseExpiry _ => none

/-- The five header bytes a header check is taken over (R153). -/
def headerBytes (kind : Byte) (f : Head) (payload : List Byte) : List Byte :=
  [0xD2, f.dest, kind, f.tag, BitVec.ofNat 8 payload.length]

/-- A frame with a good header check, its payload check differing from the correct one by `f.damage` (R153). -/
def frameBytes (kind : Byte) (f : Head) (payload : List Byte) : List Byte :=
  let h := headerBytes kind f payload
  h ++ [crc8 h] ++ payload ++ halfBytes (crc16 payload ^^^ f.damage)

/-- The encoder: the frame of a row that is one frame, and no bytes for any other row. -/
def encodeFrame (i : Instr) : List Byte :=
  match framePayload i with
  | some (kind, f, payload) => frameBytes kind f payload
  | none => []

/-! ### The layouts of R161, read -/

/-- Why an order or load cannot be read (R156): `kind` for an unknown code or an empty payload, `range` for a payload whose length
is not the one its layout requires. -/
inductive Misread where
  | kind | range
  deriving DecidableEq, Repr

/-- The order of a payload (R156, R161). -/
def decodeOrder (f : Head) (payload : List Byte) : Except Misread Instr :=
  match payload with
  | [] => .error .kind
  | code :: ps =>
    match code.toNat with
    | 1 => match ps with
      | [] => .ok (.go f)
      | _ => .error .range
    | 2 => match ps with
      | [a, b, c, d] => .ok (.quiet f (join32 a b c d))
      | _ => .error .range
    | 3 => match ps with
      | [] => .ok (.reset f)
      | _ => .error .range
    | 4 => match ps with
      | [c, k] => .ok (.pulse f c k)
      | _ => .error .range
    | 5 => match ps with
      | [c] => .ok (.release f c)
      | _ => .error .range
    | 6 => match ps with
      | [m] => .ok (.arm f m)
      | _ => .error .range
    | 7 => match ps with
      | [m] => .ok (.disarm f m)
      | _ => .error .range
    | 8 => match ps with
      | [c, n, s1, s0, f1, f0, d, k] => .ok (.run f c n (joinHalf s1 s0) (joinHalf f1 f0) d k)
      | _ => .error .range
    | 9 => match ps with
      | [t, n] => .ok (.cancel f t n)
      | _ => .error .range
    | 10 => match ps with
      | [b, v2, v1, v0] => .ok (.add f b (join24 v2 v1 v0))
      | _ => .error .range
    | 11 => match ps with
      | [b] => .ok (.zero f b)
      | _ => .error .range
    | 12 => match ps with
      | [u, n] => .ok (.step f u n)
      | _ => .error .range
    | 13 => match ps with
      | [c] => .ok (.lock f c)
      | _ => .error .range
    | 14 => match ps with
      | [c] => .ok (.unlock f c)
      | _ => .error .range
    | 15 => match ps with
      | a :: n :: ls => if ls.length = n.toNat then .ok (.setLamps f a n ls) else .error .range
      | _ => .error .range
    | 16 => match ps with
      | a :: n :: ms => if ms.length = n.toNat then .ok (.setModes f a n ms) else .error .range
      | _ => .error .range
    | 17 => match ps with
      | [r, n] => .ok (.move f r n)
      | _ => .error .range
    | 18 => match ps with
      | [m1, m0] => .ok (.acknowledge f (joinHalf m1 m0))
      | _ => .error .range
    | 19 => match ps with
      | [a, b, c, d] => .ok (.clearCounts f (join32 a b c d))
      | _ => .error .range
    | _ => .error .kind

/-- The five channel and zero-switch pairs of a bank record. -/
def readPairs : List Byte → List (Byte × Byte)
  | a :: b :: rest => (a, b) :: readPairs rest
  | _ => []

/-- The load of a payload (R156, R161). -/
def decodeLoad (f : Head) (payload : List Byte) : Except Misread Instr :=
  match payload with
  | [] => .error .kind
  | code :: ps =>
    match code.toNat with
    | 1 => match ps with
      | [b, r, i1, i0, t1, t0, sg, fl, lk, wt, tt, cp, ma, qm, l1, l0, wl, a1, a0] =>
          .ok (.loadNodeSettings f ⟨b, r, joinHalf i1 i0, joinHalf t1 t0, sg, fl, lk, wt, tt, cp, ma, qm,
            joinHalf l1 l0, wl, joinHalf a1 a0⟩)
      | _ => .error .range
    | 2 => match ps with
      | [c, e, p, k, km, h, t1, t0, rc, l1, l0, a1, a0, s, ck, fl, sc] =>
          .ok (.loadCoil f ⟨c, e, p, k, km, h, joinHalf t1 t0, rc, joinHalf l1 l0, joinHalf a1 a0, s, ck, fl, sc⟩)
      | _ => .error .range
    | 3 => match ps with
      | [n, p, d] => .ok (.loadInput f ⟨n, p, d⟩)
      | _ => .error .range
    | 4 => match ps with
      | [r, t, e, a, g, o1, o0, p, p0, p1, p2, p3] =>
          .ok (.loadRule f ⟨r, t, e, a, g, joinHalf o1 o0, p, p0, p1, p2, p3⟩)
      | _ => .error .range
    | 5 => match ps with
      | b :: w :: s1 :: s0 :: f1 :: f0 :: d :: k :: rs =>
          if rs.length = 10 then .ok (.loadBank f ⟨b, w, joinHalf s1 s0, joinHalf f1 f0, d, k, readPairs rs⟩)
          else .error .range
      | _ => .error .range
    | 6 => match ps with
      | [u, n, up, dn, tp, z, m, t1, t0, s1, s0, f1, f0, d, k] =>
          .ok (.loadUnit f ⟨u, n, up, dn, tp, z, m, joinHalf t1 t0, joinHalf s1 s0, joinHalf f1 f0, d, k⟩)
      | _ => .error .range
    | 7 => match ps with
      | r :: n :: c1 :: c0 :: ms =>
          if ms.length = 16 then .ok (.loadRing f ⟨r, n, joinHalf c1 c0, ms⟩) else .error .range
      | _ => .error .range
    | _ => .error .kind

/-- The query of a payload (R157, R161): none where it has no selector or its kind is not in the table. -/
def decodeQuery (f : Head) (payload : List Byte) : Option Instr :=
  match payload with
  | kind :: n :: rest =>
    match kind.toNat with
    | 1 => some (.queryNodeSettings f n rest)
    | 2 => some (.queryCoil f n rest)
    | 3 => some (.queryInput f n rest)
    | 4 => some (.queryRule f n rest)
    | 5 => some (.queryBank f n rest)
    | 6 => some (.queryCounterUnit f n rest)
    | 7 => some (.queryRing f n rest)
    | 8 => some (.queryChannelStatus f n rest)
    | 9 => some (.queryQueueSnapshot f n rest)
    | 10 => some (.queryTrainStatus f n rest)
    | 11 => some (.queryBankStatus f n rest)
    | 12 => some (.queryCounterStatus f n rest)
    | 13 => some (.queryIdentity f n rest)
    | 14 => some (.queryMonitor f n rest)
    | 15 => some (.queryLampImage f n rest)
    | _ => none
  | _ => none

/-- Whether a SWEEP has the shape of R158: destination 0, a count of 1 to 7, and 32 bytes a slot. -/
def sweepShape (f : Head) (count : Byte) (slots : List Byte) : Bool :=
  f.dest == 0 && decide (1 ≤ count.toNat) && decide (count.toNat ≤ 7) && slots.length == 32 * count.toNat

/-- The sweep of a payload: none where its shape breaks R158. -/
def decodeSweep (f : Head) (payload : List Byte) : Option Instr :=
  match payload with
  | a :: c :: slots => if sweepShape f c slots then some (.sweep f a c slots []) else none
  | _ => none

/-- What reaches the port between two stretches of idle line (R153, R154). `noise`: no start byte. `cut`: a frame that stops before
its end. `badHeader`: the header check fails. `whole`: a frame with a good header check, all its bytes received, and the bytes
received after its end. -/
inductive Arrival where
  | noise
  | cut
  | badHeader
  | whole (kind : Byte) (f : Head) (payload extra : List Byte)
  deriving DecidableEq, Repr

/-- How the bytes between two stretches of idle line are recognised (R153, R154). -/
def arrival (bytes : List Byte) : Arrival :=
  match bytes with
  | [] => .noise
  | b0 :: rest =>
    if b0 ≠ 0xD2 then .noise
    else match rest with
      | dest :: kind :: tag :: len :: check :: body =>
        if check ≠ crc8 [b0, dest, kind, tag, len] ∨ 240 < len.toNat then .badHeader
        else match body.drop len.toNat with
          | c1 :: c0 :: extra =>
            let payload := body.take len.toNat
            .whole kind ⟨dest, tag, crc16 payload ^^^ joinHalf c1 c0⟩ payload extra
          | _ => .cut
      | _ => .cut

/-- The decoder: the row a frame's bytes stand for, where they are a whole frame that is an order, load, query or sweep
(R156, R157, R158). -/
def decodeFrame (bytes : List Byte) : Option Instr :=
  match arrival bytes with
  | .whole kind f payload [] =>
    match kind.toNat with
    | 1 => (decodeOrder f payload).toOption
    | 2 => (decodeLoad f payload).toOption
    | 3 => decodeQuery f payload
    | 5 => decodeSweep f payload
    | _ => none
  | _ => none

/-- The command that a word spells by the bits of spec/opcode_table.json: no row of the table gives bits, so no word
spells a command. -/
def decodeTableWord (_nbits _w : Nat) : Option Instr := none

end Sys2Proof
end

