-- ==== Sys2Proof/Machine/State.lean ====
section
/-! DEFINITION. Everything the spec gives the node, as plain data, and the node after power-on reset (R162).
Times are moments in microseconds on the model's clock `now` (log entry 1); a timer is the moment it expires. -/

namespace Sys2Proof.Machine

/-! ### Node State Control (R162) -/

/-- The six node states (R162). -/
inductive NodeState where
  | safe | arming | live | quiet | chainLost | tripped
  deriving DecidableEq, Repr

/-- The way the node last left QUIET (R162). -/
inductive WakeCause where
  | never | goOrder | resetOrder | input (n : InputNo)
  deriving DecidableEq, Repr

/-- What Node State Control holds (R162). -/
structure Node where
  st       : NodeState := .safe
  /-- The coil-supply relay: true while closed. -/
  relay    : Bool := false
  /-- The settle timer. -/
  settle   : Option Nat := none
  wakeMask : BitVec 32 := 0
  wake     : WakeCause := .never
  deriving DecidableEq, Repr

/-! ### Chain Port (R153, R155, R159, R160) -/

/-- The refusal reasons and answer statuses of R161. -/
inductive Reason where
  | disabled | claimed | busy | unknown | locked | atLimit | overflow | range | state | kind
  deriving DecidableEq, Repr

/-- The source of a refusal (R160): an order tag or a rule number. -/
inductive Asker where
  | order (tag : Byte) | rule (n : RuleNo)
  deriving DecidableEq, Repr

/-- What the Chain Port holds. -/
structure Port where
  /-- The node address, read from the straps at power-on reset (R153). -/
  address    : BitVec 4 := 1
  /-- The silence timer (R159). -/
  silence    : Option Nat := none
  /-- The chain-damage count, saturating at 255 (R155). -/
  damage     : Nat := 0
  /-- The refusal count, saturating at 255 (R160). -/
  refusals   : Nat := 0
  /-- The last refused source (R160). -/
  lastAsker  : Asker := .order 0
  /-- The last refusal reason (R160). -/
  lastReason : Option Reason := none
  /-- The bytes sent downstream for the frame that passed last (R153). -/
  downstream : List Byte := []
  deriving DecidableEq, Repr

/-! ### Input Filter (R64, R65, R71, R72) -/

/-- The debounce class of an input (R64). -/
inductive Debounce where
  | fast | normal | slow
  deriving DecidableEq, Repr

/-- One input: its record, its filter state and what it holds for the next report. -/
structure Input where
  /-- Polarity: true for closed-high (R64). -/
  closedHigh : Bool := false
  debounce   : Debounce := .normal
  /-- The debounced level: true for closed (R65). -/
  closed     : Bool := false
  /-- The run in progress, by the time of its first sample; none for a settled input (R65). -/
  since      : Option Nat := none
  /-- The raw level of the most recent sample, true for high: R67 re-seats an input from it. -/
  raw        : Bool := true
  /-- The closure count, 0 to 15, saturating (R71). -/
  count      : Nat := 0
  closeLatch : Bool := false
  openLatch  : Bool := false
  deriving DecidableEq, Repr

/-- What a pending record holds of one input (R72). -/
structure Report where
  count      : Nat
  closeLatch : Bool
  openLatch  : Bool
  deriving DecidableEq, Repr

/-! ### Rule Engine (R75, R78, R82) -/

/-- The end-of-stroke modes (R12). -/
inductive EosMode where
  | off | stop | rekick
  deriving DecidableEq, Repr

/-- A rule's action with its parameters (R75). -/
inductive Action where
  | inert
  | pulse (c : Chan) (kick : Nat)
  | flip (c : Chan) (eos : Option InputNo) (mode : EosMode) (allowance : Nat)
  | step (u : UnitNo) (count : Int)
  | add (b : BankNo) (value : Nat)
  deriving DecidableEq, Repr

/-- A rule (R75). -/
structure Rule where
  trigger    : InputNo := 0
  /-- The edge that fires the rule: true for Close. -/
  onClose    : Bool := true
  action     : Action := .inert
  group      : GroupNo := 0
  /-- The holdoff in milliseconds. -/
  holdoff    : Nat := 0
  persistent : Bool := false
  deriving DecidableEq, Repr

/-! ### Coil channels (R1, R3, R12) and the heat accounts (R24) -/

/-- A coil record (R1). -/
structure Coil where
  enabled      : Bool := false
  /-- Power class P. -/
  p            : Nat := 1
  /-- Kick time K in milliseconds. -/
  k            : Nat := 1
  /-- Minimum kick Kmin. -/
  kMin         : Nat := 1
  /-- Hold duty H in sixteenths. -/
  h            : Nat := 0
  /-- Hold limit in milliseconds, 0 for none. -/
  holdLimit    : Nat := 0
  /-- Recovery in milliseconds. -/
  recovery     : Nat := 0
  /-- Heat limit L, 0 for an unmetered channel. -/
  l            : Nat := 0
  /-- Alert level A. -/
  a            : Nat := 0
  /-- Cooling shift S. -/
  s            : Nat := 1
  /-- Kick heat rate Ck. -/
  ck           : Nat := 1
  openFloor    : Nat := 0
  shortCeiling : Nat := 1
  deriving DecidableEq, Repr

/-- Who made a drive request (R40). -/
inductive Source where
  | rule (n : RuleNo) | train (n : TrainNo) | order (tag : Byte)
  deriving DecidableEq, Repr

/-- The flip context of a Flip request, kept by the channel (R12). -/
structure FlipContext where
  trigger    : InputNo
  rule       : RuleNo
  group      : GroupNo
  persistent : Bool
  eos        : Option InputNo
  mode       : EosMode
  allowance  : Nat
  deriving DecidableEq, Repr

/-- The drive kind; a Flip carries its context, the re-kick allowance left and the hold-limit timer (R3, R13). -/
inductive DriveKind where
  | pulse
  | flip (ctx : FlipContext) (left : Nat) (limit : Option Nat)
  | stepPulse
  deriving DecidableEq, Repr

/-- The drive record (R3). `charged` counts the milliseconds of the kick or hold whose heat has been added (R26, R27). -/
structure Drive where
  kind       : DriveKind
  source     : Source
  persistent : Bool
  /-- The time the kick or hold began. -/
  began      : Nat
  charged    : Nat
  deriving DecidableEq, Repr

/-- A channel's state with the drive record and timer that belong to it (R3). -/
inductive Activity where
  | idle
  /-- A kick of granted length `k`, its timer expiring at `ends`. -/
  | kicking (d : Drive) (k ends : Nat)
  /-- A hold at the effective duty `heff`. -/
  | holding (d : Drive) (heff : Nat)
  /-- The recovery timer expires at `ends`. -/
  | recovering (ends : Nat)
  | locked
  deriving DecidableEq, Repr

/-- A channel's drive state and the flip context of its waiting Flip entry (R3, R12). -/
structure Channel where
  act     : Activity := .idle
  waiting : Option FlipContext := none
  deriving DecidableEq, Repr

/-- A channel's heat account and hold fraction carry (R24). -/
structure Heat where
  q : Nat := 0
  f : Nat := 0
  deriving DecidableEq, Repr

/-! ### Drive Scheduler (R40, R45, R49, R51) -/

/-- The priority classes, highest first (R41). -/
inductive Cls where
  | flip | rule | step | order
  deriving DecidableEq, Repr

/-- The drive an entry asks for (R40). -/
inductive EntryKind where
  | flip | rekick | pulse | stepPulse
  deriving DecidableEq, Repr

/-- Why an entry was not granted at the latest pass that concerned it (R40). -/
inductive Wait where
  | notReached | channelBusy | heatWait | budget
  deriving DecidableEq, Repr

/-- An Admission Queue entry (R40). -/
structure Entry where
  channel    : Chan
  cls        : Cls
  kind       : EntryKind
  source     : Source
  persistent : Bool
  joined     : Nat
  merged     : Nat
  kReq       : Nat
  wait       : Wait
  /-- The stale timer; none for class STEP (R47). -/
  stale      : Option Nat
  deriving DecidableEq, Repr

/-! ### Train Engine (R91, R100, R101) -/

/-- The direction of a counter-unit train (R91). -/
inductive Dir where
  | up | down
  deriving DecidableEq, Repr

/-- The owner of a train (R91). -/
inductive Owner where
  | reel (b : BankNo) (r : Nat) | counter (u : UnitNo) | bare
  deriving DecidableEq, Repr

/-- The states of a context that is not FREE (R92). -/
inductive TrainState where
  | settle | wait | pulse | gap | verify
  deriving DecidableEq, Repr

/-- The verify timer of a bank reel's context (R98). -/
inductive VerifyTimer where
  | stopped | running (ends : Nat) | expired
  deriving DecidableEq, Repr

/-- The interval profile, in milliseconds (R95). -/
structure Profile where
  start : Nat := 10
  floor : Nat := 10
  ramp  : Nat := 0
  idle  : Nat := 0
  deriving DecidableEq, Repr

/-- A train context that is not FREE (R91). -/
structure Train where
  state    : TrainState
  owner    : Owner
  channel  : Chan
  dir      : Dir := .up
  planned  : Nat
  issued   : Nat := 0
  profile  : Profile
  /-- The interval timer. -/
  interval : Option Nat := none
  /-- Kick in flight. -/
  inFlight : Bool := false
  held     : Bool := false
  verify   : VerifyTimer := .stopped
  /-- The settle timer. -/
  settle   : Option Nat := none
  deriving DecidableEq, Repr

/-! ### Unit Logic (R107, R108, R118, R119) -/

/-- The bank states (R108). -/
inductive BankState where
  | idle | adding | zeroing
  deriving DecidableEq, Repr

/-- A reel: its part of the bank record, and its position, none for Unknown (R107, R108). -/
structure Reel where
  channel  : Chan
  zero     : InputNo
  position : Option (Fin 10) := none
  deriving DecidableEq, Repr

/-- A bank record and model; the width is the number of reels, the ones reel first (R107, R108). -/
structure Bank where
  reels    : List Reel := []
  profile  : Profile := {}
  state    : BankState := .idle
  rollover : Nat := 0
  deriving DecidableEq, Repr

/-- A counter-unit record and model (R118, R119), with the pending opposite count and the settle record that the
Train Engine keeps for the unit (R100, R101). The channel and limit numbers are kept as loaded: a unit not in use may name any. -/
structure CounterUnit where
  inUse    : Bool := false
  up       : Byte := 0
  down     : Byte := 0
  top      : Byte := 0
  zero     : Byte := 0
  maximum  : Nat := 1
  /-- Settle time in milliseconds. -/
  settle   : Nat := 0
  profile  : Profile := {}
  /-- The position, none for Unknown. -/
  position : Option Nat := none
  opposite : Nat := 0
  /-- The settle record: direction and end of the unit's last train that issued a pulse. -/
  last     : Option (Dir × Nat) := none
  deriving DecidableEq, Repr

/-! ### Protection Monitor (R127, R132 to R137) -/

/-- The kick verdict (R127). -/
inductive Verdict where
  | noneYet | openSoFar | good
  deriving DecidableEq, Repr

/-- The lock causes other than none (R127). -/
inductive LockCause where
  | opened | shorted | manual
  deriving DecidableEq, Repr

/-- A channel's protection record (R127). -/
structure Guard where
  strikes  : Nat := 0
  verdict  : Verdict := .noneYet
  shortRun : Nat := 0
  leakRun  : Nat := 0
  cause    : Option LockCause := none
  deriving DecidableEq, Repr

/-- The trip causes other than none (R132). -/
inductive TripCause where
  | leak | supply | heat
  deriving DecidableEq, Repr

/-- What the Protection Monitor holds for the node as a whole. -/
structure Monitor where
  /-- The most recent supply reading (R133). -/
  supply    : Byte := 0
  lowRun    : Nat := 0
  goodRun   : Nat := 0
  /-- The Sag flag (R133). -/
  sag       : Bool := false
  /-- The floor run (R134). -/
  floorRun  : Nat := 0
  /-- The most recent temperature reading (R135). -/
  temp      : Byte := 0
  /-- The Warm flag (R135). -/
  warm      : Bool := false
  /-- The trip-temperature count, saturating at 255 (R136). -/
  hotCount  : Nat := 0
  /-- The trip record (R132). -/
  tripCause : Option TripCause := none
  tripChan  : Option Chan := none
  trips     : Nat := 0
  /-- The channel of the driven round's last sample (R126). -/
  lastDriven : Option Chan := none
  deriving DecidableEq, Repr

/-- The node's periodic timers, each as the moment of its next expiry (R28, R65, R126, R133, R135, R142). -/
structure Clocks where
  sample   : Nat := 250
  cooling  : Nat := 16000
  supply   : Nat := 1000
  temp     : Nat := 100000
  strobe   : Nat := 1000
  /-- The next sample time of the driven round. -/
  driven   : Nat := 0
  /-- The undriven round's turns before this moment are past. -/
  undriven : Nat := 0
  deriving DecidableEq, Repr

/-! ### Lamp Matrix (R140 to R148) -/

/-- The lamp modes (R140). -/
inductive LampMode where
  | steady | blinkA | blinkB
  deriving DecidableEq, Repr

/-- A lamp of the image (R140). -/
structure Lamp where
  level : Nat := 0
  mode  : LampMode := .steady
  deriving DecidableEq, Repr

/-- A ring record and its chase timer (R148, R151); the length is the number of members. -/
structure Ring where
  members : List LampNo := []
  /-- The chase period in milliseconds, 0 for no chase; 0 after power-on reset: DESIGN CHOICE, log entry 31. -/
  period  : Nat := 0
  timer   : Option Nat := none
  deriving DecidableEq, Repr

/-- The blink clock (R143): the half in force, when it ends, and the period in progress in milliseconds. -/
structure Blink where
  second : Bool := false
  ends   : Nat := 250000
  period : Nat := 500
  deriving DecidableEq, Repr

/-- The strobe scan (R142): the strobe of the next slot, and the present slot's strobe with the effective levels driven on
its eight returns, return 0 first; none before the first slot. -/
structure Scan where
  next  : Fin 8 := 0
  slot  : Option (Fin 8) := none
  drive : List Nat := []
  deriving DecidableEq, Repr

/-- The node settings record with its defaults (R50, R130, R133 to R136, R139, R141, R159, R163, R34). -/
structure Settings where
  budget        : Nat := 24
  reserve       : Nat := 8
  silence       : Nat := 250
  settle        : Nat := 200
  sagThreshold  : Nat := 84
  supplyFloor   : Nat := 48
  leakThreshold : Nat := 5
  warmTemp      : Nat := 70
  tripTemp      : Nat := 95
  warmCap       : Nat := 8
  master        : Nat := 15
  quietMaster   : Nat := 2
  blink         : Nat := 500
  warmLamp      : Nat := 0
  attention     : BitVec 16 := 0xFFFF
  deriving DecidableEq, Repr

/-! ### The whole node -/

/-- The state of the node. -/
structure State where
  /-- The commands that are waiting, first in, first out. -/
  pending : List Instr
  /-- The model's clock: microseconds since power-on reset (log entry 1). -/
  now     : Nat
  /-- The model's own mark that the event being taken calls for an arbiter pass (R55); clear between events (log entry 5). -/
  passDue : Bool
  node    : Node
  port    : Port
  inputs  : Vector Input 32
  /-- The pending record of a sweep in progress (R72). -/
  reported : Option (Vector Report 32)
  rules   : Vector Rule 32
  /-- The holdoff timers (R82). -/
  holdoffs : Vector (Option Nat) 32
  /-- The group arm mask (R78). -/
  armed   : BitVec 8
  coils   : Vector Coil 24
  chans   : Vector Channel 24
  heat    : Vector Heat 24
  guards  : Vector Guard 24
  /-- The Admission Queue, front first (R41). -/
  queue   : List Entry
  /-- The held list (R45). -/
  held    : List TrainNo
  /-- The budget in use U (R51). -/
  inUse   : Nat
  /-- The dropped count, saturating at 255 (R49). -/
  dropped : Nat
  /-- The train contexts; none for FREE (R91). -/
  trains  : Vector (Option Train) 12
  banks   : Vector Bank 4
  units   : Vector CounterUnit 4
  mon     : Monitor
  clocks  : Clocks
  /-- The 16 alarm latches, ChainDamage in bit 0 (R137, R161). -/
  latches : BitVec 16
  lamps   : Vector Lamp 64
  rings   : Vector Ring 4
  blink   : Blink
  scan    : Scan
  settings : Settings
  deriving DecidableEq, Repr

/-- Why the node stops with a fault: nothing does. Every command of the table has an effect the spec gives it, and the node's data
cannot end a run, so there is no constructor. -/
inductive Fault where
  deriving DecidableEq, Repr

/-- Why a command is refused by the model. -/
inductive Refusal where
  /-- Raised by an arm of `exec` for a command without a meaning; no arm raises it now. Safe: the run stops. -/
  | notModelled (mnemonic : String)
  deriving DecidableEq, Repr

/-- The node right after power-on reset (R162), strapped to address 1 with every input's raw level high
(log entry 2), its queue of commands empty. -/
def State.reset : State where
  pending := []
  now := 0
  passDue := false
  node := {}
  port := {}
  inputs := Vector.replicate 32 {}
  reported := none
  rules := Vector.replicate 32 {}
  holdoffs := Vector.replicate 32 none
  armed := 0
  coils := Vector.replicate 24 {}
  chans := Vector.replicate 24 {}
  heat := Vector.replicate 24 {}
  guards := Vector.replicate 24 {}
  queue := []
  held := []
  inUse := 0
  dropped := 0
  trains := Vector.replicate 12 none
  banks := Vector.replicate 4 {}
  units := Vector.replicate 4 {}
  mon := {}
  clocks := {}
  latches := 0
  lamps := Vector.replicate 64 {}
  rings := Vector.replicate 4 {}
  blink := {}
  scan := {}
  settings := {}

end Sys2Proof.Machine
end

