-- ==== Sys2Proof/Machine/Operands.lean ====
section
/-! DEFINITION. How the bytes of orders and loads become numbers, references and records, and how records become bytes
again: clamping of quantities, references that may name nothing, and the codes of R161. -/

namespace Sys2Proof.Machine

/-- A quantity outside its range is clamped to the nearer end (00_scope.md, Settings). -/
def clamp (lo hi x : Nat) : Nat := max lo (min x hi)

/-- A yes-or-no field: 0 for no; by the clamping of a load's numeric fields anything above 0 is yes (R161; log entry 9). -/
def yes (b : Byte) : Bool := b != 0

/-- A byte's number as a reference to one of `n` things, if there is such a thing. -/
def refOf (n : Nat) (b : Byte) : Option (Fin n) :=
  if h : b.toNat < n then some ⟨b.toNat, h⟩ else none

/-- A byte as a signed count in two's complement (R161). -/
def signed (b : Byte) : Int := b.toInt

/-- A signed step count clamped to −99 to 99 (R76, R120). -/
def stepCount (b : Byte) : Int := max (-99) (min (signed b) 99)

/-- Digit `i` of an add's value, the units digit first (R110). -/
def digit (v i : Nat) : Nat := v / 10 ^ i % 10

/-- Bit `i` of a mask of the 32 inputs (R161). -/
def inMask (m : BitVec 32) (i : InputNo) : Bool := m.getLsbD i.val

/-- A number sent in one byte. -/
def byteOf (n : Nat) : Byte := BitVec.ofNat 8 n

/-- A number sent in two bytes, high byte first. -/
def bytes2 (n : Nat) : List Byte := halfBytes (BitVec.ofNat 16 n)

/-- A yes-or-no field as sent (R161). -/
def flagByte (b : Bool) : Byte := if b then 1 else 0

/-- A number of a thing, or 255 for none (R161). -/
def refByte {n : Nat} (x : Option (Fin n)) : Byte :=
  match x with
  | some i => byteOf i.val
  | none => 255

/-! ### Codes (R161) -/

/-- The code of a refusal reason. -/
def reasonCode : Reason → Byte
  | .disabled => 1 | .claimed => 2 | .busy => 3 | .unknown => 4 | .locked => 5
  | .atLimit => 6 | .overflow => 7 | .range => 8 | .state => 9 | .kind => 10

/-- The code of a node state. -/
def nodeCode : NodeState → Byte
  | .safe => 0 | .arming => 1 | .live => 2 | .quiet => 3 | .chainLost => 4 | .tripped => 5

/-- The code of a channel state. -/
def actCode : Activity → Byte
  | .idle => 0 | .kicking _ _ _ => 1 | .holding _ _ => 2 | .recovering _ => 3 | .locked => 4

/-- The code of a class, which is also its place in the order of classes (R41). -/
def clsCode : Cls → Nat
  | .flip => 0 | .rule => 1 | .step => 2 | .order => 3

/-- The class of a code. -/
def clsOf (n : Fin 4) : Cls :=
  match n with
  | 0 => .flip
  | 1 => .rule
  | 2 => .step
  | 3 => .order

/-- The code of an entry's kind. -/
def kindCode : EntryKind → Byte
  | .flip => 0 | .rekick => 1 | .pulse => 2 | .stepPulse => 3

/-- The code of a wait reason. -/
def waitCode : Wait → Byte
  | .notReached => 0 | .channelBusy => 1 | .heatWait => 2 | .budget => 3

/-- The code of a train context's state. -/
def trainCode : TrainState → Byte
  | .settle => 1 | .wait => 2 | .pulse => 3 | .gap => 4 | .verify => 5

/-- The code of a direction. -/
def dirCode : Dir → Byte
  | .up => 0 | .down => 1

/-- The code of an end-of-stroke mode. -/
def eosCode : EosMode → Byte
  | .off => 0 | .stop => 1 | .rekick => 2

/-- The end-of-stroke mode of a code, if there is one. -/
def eosOf (b : Byte) : Option EosMode :=
  if b = 0 then some .off else if b = 1 then some .stop else if b = 2 then some .rekick else none

/-- The code of a debounce class. -/
def debounceCode : Debounce → Byte
  | .fast => 0 | .normal => 1 | .slow => 2

/-- The debounce class of a code, if there is one. -/
def debounceOf (b : Byte) : Option Debounce :=
  if b = 0 then some .fast else if b = 1 then some .normal else if b = 2 then some .slow else none

/-- The code of a lamp mode. -/
def modeCode : LampMode → Nat
  | .steady => 0 | .blinkA => 1 | .blinkB => 2

/-- The lamp mode of a code, if there is one. -/
def modeOf (b : Byte) : Option LampMode :=
  if b = 0 then some .steady else if b = 1 then some .blinkA else if b = 2 then some .blinkB else none

/-- The code of a lock cause. -/
def causeCode : Option LockCause → Byte
  | none => 0 | some .opened => 1 | some .shorted => 2 | some .manual => 3

/-- The code of a trip cause. -/
def tripCode : Option TripCause → Byte
  | none => 0 | some .leak => 1 | some .supply => 2 | some .heat => 3

/-- The code of a bank's state; a bank of width 0 is unused (R124). -/
def bankCode (b : Bank) : Nat :=
  if b.reels.isEmpty then 0
  else match b.state with
    | .idle => 1
    | .adding => 2
    | .zeroing => 3

/-- The code of the wake cause. -/
def wakeCode : WakeCause → Byte
  | .never => 0 | .goOrder => 1 | .resetOrder => 2 | .input n => byteOf (64 + n.val)

/-- The number of a source in a queue snapshot (R40). -/
def sourceByte : Source → Byte
  | .rule n => byteOf n.val | .train n => byteOf n.val | .order tag => tag

/-! ### Records as loaded -/

/-- The interval profile clamped as the Run order's: Is to 10–500, Imin to 10–Is as clamped, Δ to 0–255, k to 0–7 (R103). -/
def profileOf (startIv floorIv : Half) (ramp idle : Byte) : Profile :=
  let s := clamp 10 500 startIv.toNat
  { start := s, floor := clamp 10 s floorIv.toNat, ramp := ramp.toNat, idle := clamp 0 7 idle.toNat }

/-- The node settings record as clamped at its load: F after B, to 0–B as loaded (R50, R34, R130, R133 to R136, R139, R141, R159,
R163). -/
def settingsOf (r : SettingsRec) : Settings :=
  let b := clamp 1 255 r.budget.toNat
  { budget := b
    reserve := clamp 0 b r.reserve.toNat
    silence := clamp 20 2000 r.silence.toNat
    settle := clamp 20 1000 r.settle.toNat
    sagThreshold := r.sagThreshold.toNat
    supplyFloor := r.supplyFloor.toNat
    leakThreshold := clamp 1 255 r.leakThreshold.toNat
    warmTemp := clamp 50 90 r.warmTemp.toNat
    tripTemp := clamp 80 110 r.tripTemp.toNat
    warmCap := clamp 1 16 r.warmCap.toNat
    master := clamp 0 15 r.master.toNat
    quietMaster := clamp 0 15 r.quietMaster.toNat
    blink := clamp 100 2000 r.blink.toNat
    warmLamp := clamp 0 3 r.warmLamp.toNat
    attention := r.attention }

/-- The coil record as clamped at its load: Kmin after K, to 1–K, and A after L, to 0–L (R1). -/
def coilOf (r : CoilRec) : Coil :=
  let k := clamp 1 250 r.kick.toNat
  let l := r.heatLimit.toNat
  { enabled := yes r.enabled
    p := clamp 1 15 r.power.toNat
    k := k
    kMin := clamp 1 k r.kickMin.toNat
    h := clamp 0 16 r.hold.toNat
    holdLimit := clamp 0 60000 r.holdLimit.toNat
    recovery := clamp 0 250 r.recovery.toNat
    l := l
    a := clamp 0 l r.alert.toNat
    s := clamp 1 12 r.shift.toNat
    ck := clamp 1 255 r.rate.toNat
    openFloor := r.openFloor.toNat
    shortCeiling := clamp 1 255 r.shortCeiling.toNat }

/-- The action of a rule as loaded, its quantities clamped, or none where a reference or code of it does not exist or a
Flip's fields break R76. -/
def actionOf (r : RuleRec) : Option Action :=
  match r.action.toNat with
  | 0 => some .inert
  | 1 => (refOf 24 r.p0).map fun c => .pulse c (clamp 0 250 r.p1.toNat)
  | 2 =>
    match refOf 24 r.p0, eosOf r.p2 with
    | some c, some mode =>
      if r.edge ≠ 0 then none
      else if r.p1 = 255 then some (.flip c none mode (clamp 0 3 r.p3.toNat))
      else if r.p1 = r.trigger then none
      else (refOf 32 r.p1).map fun e => .flip c (some e) mode (clamp 0 3 r.p3.toNat)
    | _, _ => none
  | 3 => (refOf 4 r.p0).map fun u => .step u (stepCount r.p1)
  | 4 => (refOf 4 r.p0).map fun b => .add b (clamp 0 99999 (join24 r.p1 r.p2 r.p3).toNat)
  | _ => none

/-- Whether an action is a Pulse or a Flip, the actions that keep a persistent flag (R75, R77). -/
def Action.drives : Action → Bool
  | .pulse _ _ => true
  | .flip _ _ _ _ => true
  | _ => false

/-- The channel a Pulse or Flip action names (R76). -/
def Action.channel? : Action → Option Chan
  | .pulse c _ => some c
  | .flip c _ _ _ => some c
  | _ => none

/-- A rule as loaded, or none where the load is refused with Range for anything but its own number (R76). The
persistent flag is kept for Pulse and Flip actions alone (R77). -/
def ruleOf (r : RuleRec) : Option Rule :=
  match refOf 32 r.trigger, refOf 8 r.group, actionOf r with
  | some t, some g, some act =>
    if 1 < r.edge.toNat then none
    else some
      { trigger := t
        onClose := r.edge == 0
        action := act
        group := g
        holdoff := clamp 0 1000 r.holdoff.toNat
        persistent := yes r.persistent && act.drives }
  | _, _, _ => none

/-- The reels of a bank record, or none where one of them names a channel or an input that does not exist. Reels beyond
the width, clamped to 5, are ignored (R107). -/
def reelsOf (r : BankRec) : Option (List Reel) :=
  (r.reels.take (min r.width.toNat 5)).mapM fun x =>
    match refOf 24 x.1, refOf 32 x.2 with
    | some c, some z => some { channel := c, zero := z }
    | _, _ => none

/-- A counter-unit record as clamped at its load (R118). -/
def unitOf (r : UnitRec) : CounterUnit :=
  { inUse := yes r.inUse
    up := r.up
    down := r.down
    top := r.top
    zero := r.zero
    maximum := clamp 1 99 r.maximum.toNat
    settle := clamp 0 500 r.settle.toNat
    profile := profileOf r.startIv r.floorIv r.ramp r.idle }

/-- The chase period as clamped: 1 to 49 to 50, above 2000 to 2000 (R148). -/
def chaseOf (p : Half) : Nat := if p = 0 then 0 else clamp 50 2000 p.toNat

/-- The members of a ring record, or none where one of them is no lamp; fields beyond the length, clamped to 16, are
ignored (R148). -/
def membersOf (r : RingRec) : Option (List LampNo) :=
  (r.members.take (min r.length.toNat 16)).mapM (refOf 64)

/-! ### Records as sent in an answer (R161) -/

/-- The node settings record. -/
def settingsRec (x : Settings) : SettingsRec :=
  { budget := byteOf x.budget
    reserve := byteOf x.reserve
    silence := BitVec.ofNat 16 x.silence
    settle := BitVec.ofNat 16 x.settle
    sagThreshold := byteOf x.sagThreshold
    supplyFloor := byteOf x.supplyFloor
    leakThreshold := byteOf x.leakThreshold
    warmTemp := byteOf x.warmTemp
    tripTemp := byteOf x.tripTemp
    warmCap := byteOf x.warmCap
    master := byteOf x.master
    quietMaster := byteOf x.quietMaster
    blink := BitVec.ofNat 16 x.blink
    warmLamp := byteOf x.warmLamp
    attention := x.attention }

/-- A coil record. -/
def coilRec (c : Chan) (x : Coil) : CoilRec :=
  { channel := byteOf c.val
    enabled := flagByte x.enabled
    power := byteOf x.p
    kick := byteOf x.k
    kickMin := byteOf x.kMin
    hold := byteOf x.h
    holdLimit := BitVec.ofNat 16 x.holdLimit
    recovery := byteOf x.recovery
    heatLimit := BitVec.ofNat 16 x.l
    alert := BitVec.ofNat 16 x.a
    shift := byteOf x.s
    rate := byteOf x.ck
    openFloor := byteOf x.openFloor
    shortCeiling := byteOf x.shortCeiling }

/-- An input record. -/
def inputRec (i : InputNo) (x : Input) : InputRec :=
  { input := byteOf i.val, polarity := flagByte x.closedHigh, debounce := debounceCode x.debounce }

/-- The code of an action and its four parameter bytes; bytes an action does not use are 0. -/
def actionBytes : Action → Byte × Byte × Byte × Byte × Byte
  | .inert => (0, 0, 0, 0, 0)
  | .pulse c k => (1, byteOf c.val, byteOf k, 0, 0)
  | .flip c eos mode n => (2, byteOf c.val, refByte eos, eosCode mode, byteOf n)
  | .step u n => (3, byteOf u.val, BitVec.ofInt 8 n, 0, 0)
  | .add b v =>
    let w := BitVec.ofNat 24 v
    (4, byteOf b.val, w.extractLsb' 16 8, w.extractLsb' 8 8, w.extractLsb' 0 8)

/-- A rule. -/
def ruleRec (n : RuleNo) (x : Rule) : RuleRec :=
  let (act, p0, p1, p2, p3) := actionBytes x.action
  { rule := byteOf n.val
    trigger := byteOf x.trigger.val
    edge := if x.onClose then 0 else 1
    action := act
    group := byteOf x.group.val
    holdoff := BitVec.ofNat 16 x.holdoff
    persistent := flagByte x.persistent
    p0 := p0, p1 := p1, p2 := p2, p3 := p3 }

/-- A bank record; reel fields beyond the width are 0. -/
def bankRec (n : BankNo) (x : Bank) : BankRec :=
  { bank := byteOf n.val
    width := byteOf x.reels.length
    startIv := BitVec.ofNat 16 x.profile.start
    floorIv := BitVec.ofNat 16 x.profile.floor
    ramp := byteOf x.profile.ramp
    idle := byteOf x.profile.idle
    reels := (x.reels.map (fun (r : Reel) => (byteOf r.channel.val, byteOf r.zero.val)) ++ List.replicate 5 (0, 0)).take 5 }

/-- A counter-unit record. -/
def unitRec (n : UnitNo) (x : CounterUnit) : UnitRec :=
  { unit := byteOf n.val
    inUse := flagByte x.inUse
    up := x.up
    down := x.down
    top := x.top
    zero := x.zero
    maximum := byteOf x.maximum
    settle := BitVec.ofNat 16 x.settle
    startIv := BitVec.ofNat 16 x.profile.start
    floorIv := BitVec.ofNat 16 x.profile.floor
    ramp := byteOf x.profile.ramp
    idle := byteOf x.profile.idle }

/-- A ring record; member fields beyond the length are 0. -/
def ringRec (n : RingNo) (x : Ring) : RingRec :=
  { ring := byteOf n.val
    length := byteOf x.members.length
    chase := BitVec.ofNat 16 x.period
    members := (x.members.map (fun (l : LampNo) => byteOf l.val) ++ List.replicate 16 0).take 16 }

end Sys2Proof.Machine
end

