-- ==== Sys2Proof/Machine/Flags.lean ====
section
/-! DEFINITION. The alarm latches and the flags the node computes: attention, heat alert, the runs behind Sag, Warm and the
trips (R37, R133 to R139). -/

namespace Sys2Proof.Machine

/-- The 16 alarm latches in the order of the latch table (R137). -/
inductive Latch where
  | chainDamage | refused | dropped | heatAlert | heatCutoff | openAlert | locked | eosStuck
  | reelMismatch | reelStuck | rollover | atLimit | sag | warm | tripped | woke
  deriving DecidableEq, Repr

/-- The bit of a latch: ChainDamage is item 0 (R161). -/
def latchBit : Latch → Nat
  | .chainDamage => 0 | .refused => 1 | .dropped => 2 | .heatAlert => 3 | .heatCutoff => 4 | .openAlert => 5
  | .locked => 6 | .eosStuck => 7 | .reelMismatch => 8 | .reelStuck => 9 | .rollover => 10 | .atLimit => 11
  | .sag => 12 | .warm => 13 | .tripped => 14 | .woke => 15

/-- The mask that holds one latch. -/
def latchMask (x : Latch) : BitVec 16 := 1#16 <<< latchBit x

/-- Setting a latch; one already set stays set (R137). -/
def setLatch (x : Latch) (s : State) : State := { s with latches := s.latches ||| latchMask x }

/-- Setting a latch where a condition holds. -/
def setLatchIf (b : Bool) (x : Latch) (s : State) : State := if b then setLatch x s else s

/-- Clearing the latches of a mask (R138). -/
def clearLatches (m : BitVec 16) (s : State) : State := { s with latches := s.latches &&& ~~~m }

/-- The node is in attention while a latch of the attention mask is set (R139). -/
def attention (s : State) : Bool := s.latches &&& s.settings.attention != 0

/-- A channel is in heat alert while it is metered, its account is above 0 and at or above its alert level (R37). -/
def heatAlert (k : Coil) (q : Nat) : Bool := decide (0 < k.l) && decide (0 < q) && decide (k.a ≤ q)

/-- A count of 8 bits that stays at 255 (R49, R132, R136, R155, R160). -/
def saturate (n : Nat) : Nat := min 255 (n + 1)

/-- A supply reading is low when it is below the sag threshold (R133). -/
def supplyLow (s : State) (v : Byte) : Bool := decide (v.toNat < s.settings.sagThreshold)

/-- The low run after a reading (R133). -/
def lowRunAfter (s : State) (v : Byte) : Nat := if supplyLow s v then s.mon.lowRun + 1 else 0

/-- The good run after a reading (R133). -/
def goodRunAfter (s : State) (v : Byte) : Nat := if supplyLow s v then 0 else s.mon.goodRun + 1

/-- A reading sets the Sag flag when the flag is clear and it takes the low run to 4 (R133). -/
def sagSets (s : State) (v : Byte) : Bool := !s.mon.sag && supplyLow s v && lowRunAfter s v == 4

/-- A reading clears the Sag flag when the flag is set and it takes the good run to 20 (R133). -/
def sagClears (s : State) (v : Byte) : Bool := s.mon.sag && !supplyLow s v && goodRunAfter s v == 20

/-- The floor run after a reading: it counts readings below the floor taken in LIVE (R134). -/
def floorRunAfter (s : State) (v : Byte) : Nat :=
  if v.toNat < s.settings.supplyFloor ∧ s.node.st = .live then s.mon.floorRun + 1 else 0

/-- A reading hands a trip with cause Supply when it takes the floor run to 50 (R134). -/
def floorTrips (s : State) (v : Byte) : Bool := floorRunAfter s v == 50

/-- A temperature reading sets the Warm flag when the flag is clear and it is at or above the warm temperature (R135). -/
def warmSets (s : State) (v : Byte) : Bool := !s.mon.warm && decide (s.settings.warmTemp ≤ v.toNat)

/-- A temperature reading clears the Warm flag when the flag is set and it is below the warm temperature less 5 (R135). -/
def warmClears (s : State) (v : Byte) : Bool := s.mon.warm && decide (v.toNat + 5 < s.settings.warmTemp)

/-- The trip-temperature count after a reading (R136). -/
def hotCountAfter (s : State) (v : Byte) : Nat :=
  if s.settings.tripTemp ≤ v.toNat then saturate s.mon.hotCount else 0

/-- A temperature reading hands a trip with cause Heat when it leaves the count at 10 or more and the node is not
TRIPPED (R136). -/
def heatTrips (s : State) (v : Byte) : Bool := decide (10 ≤ hotCountAfter s v) && s.node.st != .tripped

/-- The budget in force (R52). -/
def budgetInForce (s : State) : Nat := if s.mon.sag then 3 * s.settings.budget / 4 else s.settings.budget

end Sys2Proof.Machine
end

