-- ==== Sys2Proof/Machine/Ops.lean ====
section
/-! DEFINITION. The named updates of the state and the small operations every block shares: the clock, the setters, the
refusal record and the lookups. A block has no exception entry; the nearest things, a lock and a trip, stand in Units and Node. -/

namespace Sys2Proof.Machine

/-! ### Setters, one for each collection -/

def State.setInput (i : InputNo) (x : Input) (s : State) : State := { s with inputs := s.inputs.set i x }
def State.setRule (r : RuleNo) (x : Rule) (s : State) : State := { s with rules := s.rules.set r x }
def State.setHoldoff (r : RuleNo) (x : Option Nat) (s : State) : State := { s with holdoffs := s.holdoffs.set r x }
def State.setCoil (c : Chan) (x : Coil) (s : State) : State := { s with coils := s.coils.set c x }
def State.setChan (c : Chan) (x : Channel) (s : State) : State := { s with chans := s.chans.set c x }
def State.setHeat (c : Chan) (x : Heat) (s : State) : State := { s with heat := s.heat.set c x }
def State.setGuard (c : Chan) (x : Guard) (s : State) : State := { s with guards := s.guards.set c x }
def State.setTrain (t : TrainNo) (x : Option Train) (s : State) : State := { s with trains := s.trains.set t x }
def State.setBank (b : BankNo) (x : Bank) (s : State) : State := { s with banks := s.banks.set b x }
def State.setUnit (u : UnitNo) (x : CounterUnit) (s : State) : State := { s with units := s.units.set u x }
def State.setLamp (l : LampNo) (x : Lamp) (s : State) : State := { s with lamps := s.lamps.set l x }
def State.setRing (r : RingNo) (x : Ring) (s : State) : State := { s with rings := s.rings.set r x }
def State.setNode (x : Node) (s : State) : State := { s with node := x }
def State.setPort (x : Port) (s : State) : State := { s with port := x }
def State.setMon (x : Monitor) (s : State) : State := { s with mon := x }
def State.setClocks (x : Clocks) (s : State) : State := { s with clocks := x }
def State.setQueue (q : List Entry) (s : State) : State := { s with queue := q }
def State.setHeld (h : List TrainNo) (s : State) : State := { s with held := h }
def State.setDownstream (bytes : List Byte) (s : State) : State := { s with port := { s.port with downstream := bytes } }

/-- An event that is a cause of an arbiter pass calls for one (R55). -/
def State.callPass (s : State) : State := { s with passDue := true }

/-! ### The clock -/

/-- A moment so many milliseconds from now. -/
def State.after (s : State) (ms : Nat) : Nat := s.now + ms * Config.msTime

/-- The clock at an event whose moment is `t`: it never runs backwards (log entry 1). -/
def State.reach (t : Nat) (s : State) : State := { s with now := max s.now t }

/-- A time in microseconds as the milliseconds of an answer: whole milliseconds as they are, and a part of one rounded down
or up as `Config.msRoundsUp` has it (log entry 7). -/
def msReported (us : Nat) : Nat :=
  us / Config.msTime + (if us % Config.msTime = 0 then 0 else if Config.msRoundsUp us then 1 else 0)

/-- The milliseconds left on a timer, 0 where it does not run. -/
def State.msLeft (s : State) (timer : Option Nat) : Nat :=
  match timer with
  | some t => msReported (t - s.now)
  | none => 0

/-! ### Refusals and drops -/

/-- A refusal of an order, a load or a rule's request is entered in the refusal record and sets the Refused latch (R160, R88). -/
def refuse (who : Asker) (why : Reason) (s : State) : State :=
  setLatch .refused
    (s.setPort { s.port with refusals := saturate s.port.refusals, lastAsker := who, lastReason := some why })

/-- A refused order or load: its source is the frame's tag (R160). -/
def refuseOrder (tag : Byte) (why : Reason) (s : State) : State := refuse (.order tag) why s

/-- A failed check or an abandoned frame raises the chain-damage count and sets the ChainDamage latch (R154, R155). -/
def damageSeen (s : State) : State :=
  setLatch .chainDamage (s.setPort { s.port with damage := saturate s.port.damage })

/-- An eviction, a drop at a full queue or a stale removal (R49). -/
def countDropped (s : State) : State := setLatch .dropped { s with dropped := saturate s.dropped }

/-! ### Lookups -/

/-- The debounced level of an input, true for closed, as every block reads it (R70). -/
def State.closed (s : State) (i : InputNo) : Bool := s.inputs[i].closed

/-- The debounced level of an input named by a byte; a number that names no input reads open. -/
def State.closedByte (s : State) (b : Byte) : Bool :=
  match refOf 32 b with
  | some i => s.closed i
  | none => false

/-- What a bank's reels claim (R19). -/
def Bank.names (b : Bank) (c : Chan) : Bool := b.reels.any fun r => r.channel == c

/-- What a counter unit claims (R19). -/
def CounterUnit.names (u : CounterUnit) (c : Chan) : Bool :=
  u.inUse && (u.up.toNat == c.val || u.down.toNat == c.val)

/-- A channel is claimed while a bank or a counter unit in use names it (R19). -/
def claimed (s : State) (c : Chan) : Bool :=
  s.banks.toList.any (·.names c) || s.units.toList.any (·.names c)

/-- A channel claimed by a bank other than the one given, or by a unit (R20). -/
def claimedBesideBank (s : State) (b : BankNo) (c : Chan) : Bool :=
  (List.finRange 4).any (fun i => i != b && s.banks[i].names c) || s.units.toList.any (·.names c)

/-- A channel claimed by a bank, or by a unit other than the one given (R20). -/
def claimedBesideUnit (s : State) (u : UnitNo) (c : Chan) : Bool :=
  s.banks.toList.any (·.names c) || (List.finRange 4).any (fun i => i != u && s.units[i].names c)

/-- The reel of a channel: its bank and its place there. -/
def reelOf (s : State) (c : Chan) : Option (BankNo × Nat) :=
  (List.finRange 4).findSome? fun b =>
    (s.banks[b].reels.findIdx? fun r => r.channel == c).map fun r => (b, r)

/-- The counter unit of a channel. -/
def unitOn (s : State) (c : Chan) : Option UnitNo :=
  (List.finRange 4).find? fun u => s.units[u].names c

/-- The train context on a channel; no channel has more than one (R91). -/
def trainOn (s : State) (c : Chan) : Option TrainNo :=
  (List.finRange 12).find? fun t => s.trains[t].any (·.channel == c)

/-- The train context of an owner. -/
def trainOf (s : State) (o : Owner) : Option TrainNo :=
  (List.finRange 12).find? fun t => s.trains[t].any (·.owner == o)

/-- The contexts a bank holds. -/
def bankTrains (s : State) (b : BankNo) : List TrainNo :=
  (List.finRange 12).filter fun t => s.trains[t].any fun x =>
    match x.owner with
    | .reel b' _ => b' == b
    | _ => false

/-- The FREE context with the lowest number (R93). -/
def firstFree (s : State) : Option TrainNo := (List.finRange 12).find? fun t => s.trains[t].isNone

/-- How many contexts are FREE (R93). -/
def freeTrains (s : State) : Nat := ((List.finRange 12).filter fun t => s.trains[t].isNone).length

/-- Doing something for every channel, in ascending number. -/
def forChans (f : Chan → State → State) (s : State) : State := (List.finRange 24).foldl (fun s c => f c s) s

/-- Whether a channel is LOCKED (R3). -/
def Channel.isLocked (x : Channel) : Bool :=
  match x.act with
  | .locked => true
  | _ => false

/-- Whether a channel is KICKING (R3). -/
def Channel.isKicking (x : Channel) : Bool :=
  match x.act with
  | .kicking _ _ _ => true
  | _ => false

/-- Whether a channel is HOLDING (R3). -/
def Channel.isHolding (x : Channel) : Bool :=
  match x.act with
  | .holding _ _ => true
  | _ => false

/-- Whether a channel is driven: KICKING or HOLDING (R126). -/
def Channel.driven (x : Channel) : Bool := x.isKicking || x.isHolding

/-- The drive record, present while a channel is KICKING or HOLDING (R3). -/
def Channel.drive? (x : Channel) : Option Drive :=
  match x.act with
  | .kicking d _ _ => some d
  | .holding d _ => some d
  | _ => none

/-- The flip context of a drive, for a Flip (R3). -/
def Drive.ctx? (d : Drive) : Option FlipContext :=
  match d.kind with
  | .flip ctx _ _ => some ctx
  | _ => none

/-- The flip context of a channel's running Flip drive. -/
def Channel.running? (x : Channel) : Option FlipContext := x.drive?.bind Drive.ctx?

end Sys2Proof.Machine
end

