-- ==== Sys2Proof/Machine/Lamps.lean ====
section
/-! DEFINITION. The Lamp Matrix: effective levels, the strobe scan, the blink clock, rotations, fills and the chase (R140 to R151). -/

namespace Sys2Proof.Machine

/-- The master level in force (R145). -/
def masterLevel (s : State) : Nat := if s.node.st = .quiet then s.settings.quietMaster else s.settings.master

/-- The base level of a lamp by its mode and the blink half (R144). -/
def baseLevel (second : Bool) (x : Lamp) : Nat :=
  match x.mode with
  | .steady => x.level
  | .blinkA => if second then 0 else x.level
  | .blinkB => if second then x.level else 0

/-- A base level scaled by the master level (R144). -/
def scaled (b m : Nat) : Nat := if b = 0 ∨ m = 0 then 0 else max 1 ((b * m + 7) / 15)

/-- The effective level of a lamp, the warm lamp level applied where it would be dark (R144, R145). -/
def effective (s : State) (l : LampNo) : Nat :=
  let e := scaled (baseLevel s.blink.second s.lamps[l]) (masterLevel s)
  if e = 0 ∧ s.mon.warm then s.settings.warmLamp else e

/-- The lamp of a strobe at a return (R142). -/
def lampAt (strobe ret : Fin 8) : LampNo := ⟨8 * strobe.val + ret.val, by omega⟩

/-- The strobe timer's expiry: the next strobe's slot starts, and its eight effective levels are computed and driven (R142). -/
def startSlot (s : State) : State :=
  let k := s.scan.next
  let s := (s.reach s.clocks.strobe).setClocks { s.clocks with strobe := s.clocks.strobe + Config.msTime }
  { s with scan := { next := k + 1, slot := some k, drive := (List.finRange 8).map fun r => effective s (lampAt k r) } }

/-- The blink clock changes half; a new period takes the blink period of the settings (R143). -/
def changeHalf (s : State) : State :=
  let x := s.blink
  let s := s.reach x.ends
  if x.second then
    let p := s.settings.blink
    { s with blink := { second := false, ends := x.ends + p / 2 * Config.msTime, period := p } }
  else
    { s with blink := { x with second := true, ends := x.ends + (x.period - x.period / 2) * Config.msTime } }

/-- The levels of a ring's members, in order. -/
def ringLevels (s : State) (ms : List LampNo) : List Nat := ms.map fun l => s.lamps[l].level

/-- New levels for a ring's members; their modes are kept (R149). -/
def setLevels (ms : List LampNo) (levels : List Nat) (s : State) : State :=
  (ms.zip levels).foldl (fun s x => s.setLamp x.1 { s.lamps[x.1] with level := x.2 }) s

/-- A rotation by `n`: member i takes the level member (i − n) mod L held (R149). -/
def rotated (levels : List Nat) (n : Int) : List Nat :=
  (List.range levels.length).map fun i => levels.getD (((i : Int) - n) % levels.length).toNat 0

/-- A fill by `m`: member i takes the level of member i − m, or of member 0 where i is below m (R150). -/
def filled (levels : List Nat) (m : Nat) : List Nat :=
  (List.range levels.length).map fun i => levels.getD (i - m) 0

/-- A ring moved by a signed count: rotated by a positive one, filled by a negative one (R149, R150). -/
def moveRing (r : RingNo) (n : Int) (s : State) : State :=
  let ms := s.rings[r].members
  let levels := ringLevels s ms
  if n = 0 then s
  else setLevels ms (if 0 < n then rotated levels n else filled levels n.natAbs) s

/-- A ring's chase timer expires: the ring is rotated by +1 and the timer starts again for the same period (R151). -/
def chase (r : RingNo) (s : State) : State :=
  match s.rings[r].timer with
  | none => s
  | some t =>
    let s := moveRing r 1 (s.reach t)
    s.setRing r { s.rings[r] with timer := some (t + s.rings[r].period * Config.msTime) }

/-- Lamps from `first` upward, as many as `count`, changed by `f` of their place in the run (R146, R147). -/
def changeRun (first count : Nat) (f : Nat → Lamp → Lamp) (s : State) : State :=
  (List.finRange 64).foldl (fun s l =>
    if first ≤ l.val ∧ l.val < first + count then s.setLamp l (f (l.val - first) s.lamps[l]) else s) s

/-- The SetLamps order's levels, each above 15 clamped to 15 (R146). -/
def setRunLevels (first : Nat) (levels : List Byte) (s : State) : State :=
  changeRun first levels.length (fun i x => { x with level := min 15 (levels.getD i 0).toNat }) s

/-- The SetModes order's modes (R147). -/
def setRunModes (first : Nat) (modes : List LampMode) (s : State) : State :=
  changeRun first modes.length (fun i x => { x with mode := modes.getD i .steady }) s

end Sys2Proof.Machine
end

