-- ==== Sys2Proof/Machine/HeatOps.lean ====
section
/-! DEFINITION. The arithmetic and the bookkeeping of the heat accounts (R24 to R38), and the budget draws that follow from them
(R51, R53). -/

namespace Sys2Proof.Machine

/-- The grantable kick k_g (R29); for an unmetered channel it is K_req (R25). -/
def grantable (k : Coil) (q kReq : Nat) : Nat := if k.l = 0 then kReq else min kReq ((k.l - q) / k.ck)

/-- Heff before the warm cap (R33); for an unmetered channel it is H (R25). -/
def derated (k : Coil) (q : Nat) : Nat :=
  if k.l = 0 then k.h
  else if q ≤ k.a then k.h
  else (2 * k.h * (k.l - q) + (k.l - k.a)) / (2 * (k.l - k.a))

/-- Heff with the warm hold cap, which is read at each computation (R34). -/
def heffAt (s : State) (k : Coil) (q : Nat) : Nat :=
  if s.mon.warm then min (derated k q) s.settings.warmCap else derated k q

/-- Heff of a channel at its present account. -/
def heffNow (s : State) (c : Chan) : Nat := heffAt s s.coils[c] s.heat[c].q

/-- The budget units a hold draws: ceil(P × Heff / 16) (R51). -/
def holdDraw (k : Coil) (heff : Nat) : Nat := (k.p * heff + 15) / 16

/-- The budget units a channel in a state draws (1.2, R51). -/
def actDraw (k : Coil) (x : Activity) : Nat :=
  match x with
  | .kicking _ _ _ => k.p
  | .holding _ e => holdDraw k e
  | _ => 0

/-- The decay of one account at a cooling tick (R28). -/
def decayed (k : Coil) (q : Nat) : Nat := if q = 0 then 0 else q - max 1 ((q + 2 ^ (k.s - 1)) / 2 ^ k.s)

/-- A new figure of an account; accrual that brings the channel into heat alert sets the HeatAlert latch (R37). -/
def raiseHeat (c : Chan) (x : Heat) (s : State) : State :=
  let k := s.coils[c]
  setLatchIf (!heatAlert k s.heat[c].q && heatAlert k x.q) .heatAlert (s.setHeat c x)

/-- A millisecond of a kick: Ck is added, up to L; nothing on an unmetered channel (R25, R26). -/
def accrueKick (c : Chan) (s : State) : State :=
  let k := s.coils[c]
  let x := s.heat[c]
  if k.l = 0 then s else raiseHeat c { x with q := min k.l (x.q + k.ck) } s

/-- The account after a millisecond of a hold at a duty, before the limit is applied (R27). -/
def holdSum (k : Coil) (x : Heat) (heff : Nat) : Nat := x.q + (k.ck * heff + x.f) / 16

/-- A millisecond of a hold would take the account above L (R27). -/
def holdOverflows (s : State) (c : Chan) (heff : Nat) : Bool :=
  decide (0 < s.coils[c].l) && decide (s.coils[c].l < holdSum s.coils[c] s.heat[c] heff)

/-- A millisecond of a hold: the whole part of (Ck × Heff + f) / 16 is added, up to L, and the rest carried in f; nothing on an
unmetered channel (R25, R27). -/
def accrueHold (c : Chan) (heff : Nat) (s : State) : State :=
  let k := s.coils[c]
  let x := s.heat[c]
  if k.l = 0 then s
  else raiseHeat c { q := min k.l (holdSum k x heff), f := (k.ck * heff + x.f) % 16 } s

/-- At the end of a drive a millisecond is still to be charged: the part millisecond in which it ends, or the full one that ends with
it and has not been charged yet (R26, R27; log entry 6). -/
def chargeDue (now : Nat) (d : Drive) : Bool :=
  (now - d.began) % Config.msTime != 0 || now - d.began == (d.charged + 1) * Config.msTime

/-- The charge made when a drive ends or a re-kick interrupts a hold; it declares no cutoff (R26, R27). -/
def finalCharge (c : Chan) (s : State) : State :=
  match s.chans[c].act with
  | .kicking d _ _ => if chargeDue s.now d then accrueKick c s else s
  | .holding d e => if chargeDue s.now d then accrueHold c e s else s
  | _ => s

/-- A channel changes state: the budget in use changes by the difference of the draws (R51), and a channel that joins the
driven round has its short run and leak run set to 0 (R129, R130). -/
def setAct (c : Chan) (x : Activity) (s : State) : State :=
  let old := s.chans[c]
  let new := { old with act := x }
  let k := s.coils[c]
  let s := { s with inUse := s.inUse - actDraw k old.act + actDraw k x }
  let s := if !old.driven && new.driven then s.setGuard c { s.guards[c] with shortRun := 0, leakRun := 0 } else s
  s.setChan c new

/-- The flip context kept for a waiting Flip entry is set or discarded (R12). -/
def setWaiting (c : Chan) (x : Option FlipContext) (s : State) : State := s.setChan c { s.chans[c] with waiting := x }

end Sys2Proof.Machine
end

