-- ==== Sys2Proof/Machine/Queue.lean ====
section
/-! DEFINITION. The Admission Queue: joining, merging, eviction, the held list, and every way an entry leaves but a grant
(R40 to R49). -/

namespace Sys2Proof.Machine

/-- The stale limit of a class in milliseconds (R47). -/
def staleLimit : Cls → Option Nat
  | .flip => some 4
  | .rule => some 25
  | .step => none
  | .order => some 250

/-- An entry as it joins: merge count 1, wait reason NotReached, its stale timer started where its class has one (R40). -/
def newEntry (s : State) (c : Chan) (cls : Cls) (kind : EntryKind) (source : Source) (persistent : Bool) (kReq : Nat) : Entry :=
  { channel := c, cls := cls, kind := kind, source := source, persistent := persistent, joined := s.now, merged := 1,
    kReq := kReq, wait := .notReached, stale := (staleLimit cls).map s.after }

/-- Two entries for one channel and class are the same request (R42). -/
def Entry.matches (x y : Entry) : Bool := x.channel == y.channel && x.cls == y.cls

/-- An entry joins behind every entry of its class and of the classes before it (R41). -/
def insertEntry (e : Entry) (q : List Entry) : List Entry :=
  q.takeWhile (fun x => clsCode x.cls ≤ clsCode e.cls) ++ e :: q.dropWhile (fun x => clsCode x.cls ≤ clsCode e.cls)

/-- The class a new request may evict from: the lowest that is present, evictable and below its own (R43). -/
def evictedClass (new : Cls) (q : List Entry) : Option Cls :=
  if new ≠ .order ∧ q.any (·.cls == .order) then some .order
  else if new = .flip ∧ q.any (·.cls == .rule) then some .rule
  else none

/-- The youngest entry of a class leaves: the one that joined last stands last in its class (R41, R43). -/
def dropYoungest (k : Cls) (q : List Entry) : List Entry := (q.reverse.eraseP (·.cls == k)).reverse

/-- What became of a request at the Drive Scheduler (R42 to R45). -/
inductive Answer where
  | merged | joined | full
  deriving DecidableEq, Repr

/-- A request reaches the Drive Scheduler: it merges, joins, joins in the place of an evicted entry, or finds the queue
full (R42, R43). -/
def submit (e : Entry) (s : State) : Answer × State :=
  if s.queue.any (·.matches e) then
    (.merged, s.setQueue (s.queue.map fun x => if x.matches e then { x with merged := min 15 (x.merged + 1) } else x))
  else if s.queue.length < Config.queueSize then
    (.joined, (s.setQueue (insertEntry e s.queue)).callPass)
  else
    match evictedClass e.cls s.queue with
    | some k => (.joined, ((countDropped s).setQueue (insertEntry e (dropYoungest k s.queue))).callPass)
    | none => (.full, s)

/-- The StepPulse request of a train (R94, R11). -/
def stepEntry (s : State) (t : TrainNo) (x : Train) : Entry :=
  newEntry s x.channel .step .stepPulse (.train t) false s.coils[x.channel].k

/-- A held train's request is made again, with a place free, and joins the queue (R46, R42). -/
def joinHeld (t : TrainNo) (s : State) : State :=
  match s.trains[t] with
  | some x => (submit (stepEntry s t x) (s.setTrain t (some { x with held := false }))).2
  | none => s

/-- The free places are handed to the held trains from the front of the list, as far as they go (R46). -/
def handPlaces : List TrainNo → State → State
  | [], s => s.setHeld []
  | t :: ts, s =>
    if s.queue.length < Config.queueSize then handPlaces ts (joinHeld t s) else s.setHeld (t :: ts)

/-- The handing of the free places, made in the event of the leaving (R46). -/
def handOver (s : State) : State := handPlaces s.held s

/-- A withdrawal of every entry that satisfies `p`: it counts nothing as dropped, hands on the places and makes an arbiter pass
(R48). -/
def withdraw (p : Entry → Bool) (s : State) : State :=
  if s.queue.any p then handOver ((s.setQueue (s.queue.filter fun x => !p x)).callPass) else s

/-- A channel's waiting Flip entry is withdrawn and its flip context discarded (R12, R48). -/
def withdrawFlip (c : Chan) (s : State) : State :=
  setWaiting c none (withdraw (fun x => x.channel == c && x.kind == .flip) s)

/-- A channel's waiting Rekick entry is withdrawn (R6, R16). -/
def withdrawRekick (c : Chan) (s : State) : State :=
  withdraw (fun x => x.channel == c && x.kind == .rekick) s

/-- Every entry of a channel is withdrawn, of whatever class, and the context of a Flip among them discarded (R2, R21). -/
def withdrawAll (c : Chan) (s : State) : State := setWaiting c none (withdraw (fun x => x.channel == c) s)

/-- The queue and the held list are emptied: nothing is counted, no pass is made, and the flip contexts are discarded (R61). -/
def emptyQueue (s : State) : State :=
  forChans (fun c s => setWaiting c none s) ((s.setQueue []).setHeld [])

/-- The queue is reduced to the entries of persistent rules and the held list emptied (R62). -/
def reduceQueue (s : State) : State :=
  let s := (s.setQueue (s.queue.filter (·.persistent))).setHeld []
  forChans (fun c s =>
    if s.queue.any (fun x => x.channel == c && x.kind == .flip) then s else setWaiting c none s) s

/-- The requested kick of a Pulse: the override if it is above 0, at most K; else K (R9). -/
def pulseKick (k : Coil) (override : Nat) : Nat := if override = 0 then k.k else min override k.k

/-- Why a channel refuses a drive request, in the order of the checks: Claimed, Disabled, Locked (R9). -/
def driveRefusal (s : State) (c : Chan) : Option Reason :=
  if claimed s c then some .claimed
  else if !s.coils[c].enabled then some .disabled
  else if s.chans[c].isLocked then some .locked
  else none

/-- A Pulse request that has passed the checks reaches the Scheduler; dropped where it meets a full queue (R9, R44). -/
def submitPulse (c : Chan) (cls : Cls) (source : Source) (persistent : Bool) (override : Nat) (s : State) : State :=
  match submit (newEntry s c cls .pulse source persistent (pulseKick s.coils[c] override)) s with
  | (.full, s) => countDropped s
  | (_, s) => s

/-- A Flip request that has passed the checks reaches the Scheduler; the channel keeps its context where it joins (R12, R44). -/
def submitFlip (c : Chan) (ctx : FlipContext) (s : State) : State :=
  match submit (newEntry s c .flip .flip (.rule ctx.rule) ctx.persistent s.coils[c].k) s with
  | (.full, s) => countDropped s
  | (.joined, s) => setWaiting c (some ctx) s
  | (.merged, s) => s

/-- A Rekick request of a holding channel (R16, R44). -/
def submitRekick (c : Chan) (ctx : FlipContext) (s : State) : State :=
  match submit (newEntry s c .flip .rekick (.rule ctx.rule) ctx.persistent s.coils[c].k) s with
  | (.full, s) => countDropped s
  | (_, s) => s

/-- A Flip request is refused with Busy while the channel is driven by a Flip (R12). -/
def flipRefusal (s : State) (c : Chan) : Option Reason :=
  match driveRefusal s c with
  | some why => some why
  | none => if (s.chans[c].running?).isSome then some .busy else none

end Sys2Proof.Machine
end

