-- ==== Sys2Proof/Machine/Trains.lean ====
section
/-! DEFINITION. The Train Engine: offering, granting, the interval profile, extension, netting, limit ends and the end of a train
(R91 to R105). -/

namespace Sys2Proof.Machine

/-- A context offers the StepPulse request of its next pulse; at a full queue it is held (R94, R45). -/
def offer (t : TrainNo) (s : State) : State :=
  match s.trains[t] with
  | none => s
  | some x =>
    match submit (stepEntry s t x) s with
    | (.full, s) => (s.setHeld (s.held ++ [t])).setTrain t (some { x with held := true })
    | (_, s) => s

/-- A context enters WAIT and offers its next pulse (R94). -/
def enterWait (t : TrainNo) (x : Train) (s : State) : State :=
  offer t (s.setTrain t (some { x with state := .wait }))

/-- The interval w_j in milliseconds started at the grant of pulse j − 1, with `n` = j − 1 pulses issued (R95). -/
def intervalOf (p : Profile) (n planned : Nat) : Nat :=
  let j : Int := n + 1
  (max (p.floor : Int) (p.start - p.ramp * max 0 (min (j - 2 - p.idle) (planned - j)))).toNat

/-- The arbiter grants a context's entry: the pulse counts as issued and its interval starts (R94). -/
def trainGranted (t : TrainNo) (s : State) : State :=
  match s.trains[t] with
  | none => s
  | some x =>
    let n := x.issued + 1
    s.setTrain t (some { x with
      state := .pulse, issued := n, inFlight := true,
      interval := some (s.after (intervalOf x.profile n x.planned)) })

/-- The kick end of a train pulse, as the context on the channel takes it (R96). -/
def trainKickEnd (c : Chan) (s : State) : State :=
  match trainOn s c with
  | none => s
  | some t =>
    match s.trains[t] with
    | none => s
    | some x =>
      if x.inFlight then
        s.setTrain t (some { x with inFlight := false, state := if x.state = .pulse then .gap else x.state })
      else s

/-- A context's request is taken back: its STEP entry is withdrawn, or the train leaves the held list (R100, R105). -/
def takeBack (t : TrainNo) (s : State) : State :=
  withdraw (fun e => e.source == .train t) (s.setHeld (s.held.filter (· != t)))

/-- A context becomes FREE and its request is taken back (R105). -/
def freeTrain (t : TrainNo) (s : State) : State :=
  takeBack t (s.setTrain t none)

/-- The other direction. -/
def Dir.flipped : Dir → Dir
  | .up => .down
  | .down => .up

/-- The channel of a unit's direction (R118). -/
def CounterUnit.channelOf (u : CounterUnit) (d : Dir) : Option Chan :=
  match d with
  | .up => refOf 24 u.up
  | .down => refOf 24 u.down

/-- Why a train cannot be started on a channel: Disabled, then Locked (R93). -/
def startRefusal (s : State) (c : Chan) : Option Reason :=
  if !s.coils[c].enabled then some .disabled else if s.chans[c].isLocked then some .locked else none

/-- The settle timer of a new counter-unit train: it runs to the recorded end plus the settle time where the record is of the
other direction and that moment is still to come (R101). -/
def settleUntil (s : State) (u : CounterUnit) (d : Dir) : Option Nat :=
  match u.last with
  | some (d', ended) =>
    if d' ≠ d ∧ s.now < ended + u.settle * Config.msTime then some (ended + u.settle * Config.msTime) else none
  | none => none

/-- A counter-unit train of `n` pulses is allocated in a context, entering SETTLE or WAIT (R93, R101). -/
def startUnit (t : TrainNo) (u : UnitNo) (d : Dir) (c : Chan) (n : Nat) (s : State) : State :=
  let x : Train :=
    { state := .settle, owner := .counter u, channel := c, dir := d, planned := n, profile := s.units[u].profile }
  match settleUntil s s.units[u] d with
  | some ends => s.setTrain t (some { x with settle := some ends })
  | none => enterWait t x s

/-- A train that ends having issued a pulse is written into its unit's settle record (R101). -/
def recordEnd (u : UnitNo) (x : Train) (s : State) : State :=
  if 0 < x.issued then s.setUnit u { s.units[u] with last := some (x.dir, s.now) } else s

/-- A counter-unit train that ends with a pending opposite count starts the opposite train, where its channel is enabled and not
locked (R101). -/
def startOpposite (u : UnitNo) (d : Dir) (s : State) : State :=
  let p := s.units[u].opposite
  if p = 0 then s
  else
    let s := s.setUnit u { s.units[u] with opposite := 0 }
    match s.units[u].channelOf d, firstFree s with
    | some c, some t => if (startRefusal s c).isSome then s else startUnit t u d c p s
    | _, _ => s

/-- A counter-unit or bare train ends: the context is freed, the settle record updated, and a pending opposite count starts its
train (R97, R101). -/
def endTrain (t : TrainNo) (s : State) : State :=
  match s.trains[t] with
  | none => s
  | some x =>
    let s := freeTrain t s
    match x.owner with
    | .counter u => startOpposite u x.dir.flipped (recordEnd u x s)
    | _ => s

/-- A train brought to N = n acts by its state: in SETTLE and WAIT it ends at once, a bank reel in WAIT going to VERIFY with its
verify timer started; in PULSE and GAP its running interval ends it (R100, R102). -/
def endAtIssued (t : TrainNo) (s : State) : State :=
  match s.trains[t] with
  | none => s
  | some x =>
    let x := { x with planned := x.issued }
    let s := s.setTrain t (some x)
    match x.state with
    | .settle => endTrain t s
    | .wait =>
      match x.owner with
      | .reel _ _ =>
        takeBack t (s.setTrain t (some { x with
          state := .verify, held := false, verify := .running (s.after x.profile.start) }))
      | _ => endTrain t s
    | _ => s

/-- A limit end: N is set to n; one asked for a context at N = n already, or in VERIFY, changes nothing (R102). -/
def limitEnd (t : TrainNo) (s : State) : State :=
  match s.trains[t] with
  | none => s
  | some x => if x.planned = x.issued ∨ x.state = .verify then s else endAtIssued t s

/-- An extension by `m`, or none where it is refused with Overflow; from VERIFY the context enters WAIT at once (R98, R99). -/
def extend (t : TrainNo) (m : Nat) (s : State) : Option State :=
  match s.trains[t] with
  | none => none
  | some x =>
    if Config.maxPlanned < x.planned + m then none
    else
      let x := { x with planned := x.planned + m }
      if x.state = .verify then some (enterWait t { x with verify := .stopped } s)
      else some (s.setTrain t (some x))

/-- An extension asked for where the check for Overflow has been passed. -/
def extended (t : TrainNo) (m : Nat) (s : State) : State := (extend t m s).getD s

/-- A step of count `m` in direction `d` meets the unit's running train: it extends it, or is netted against it and the pending
opposite count (R99, R100, R121). -/
def netStep (t : TrainNo) (u : UnitNo) (d : Dir) (m : Nat) (s : State) : State :=
  match s.trains[t] with
  | none => s
  | some x =>
    let unit := s.units[u]
    let p := unit.opposite
    if d = x.dir then
      if m ≤ p then s.setUnit u { unit with opposite := p - m }
      else extended t (m - p) (s.setUnit u { unit with opposite := 0 })
    else if 0 < p then s.setUnit u { unit with opposite := min 99 (p + m) }
    else
      let left := x.planned - x.issued
      if m < left then s.setTrain t (some { x with planned := x.planned - m })
      else endAtIssued t (s.setUnit u { unit with opposite := m - left })

/-- A step of count `m` would raise a planned count above 1023 (R120). -/
def stepOverflows (s : State) (t : TrainNo) (u : UnitNo) (d : Dir) (m : Nat) : Bool :=
  match s.trains[t] with
  | none => false
  | some x => x.dir == d && decide (Config.maxPlanned < x.planned + (m - s.units[u].opposite))

end Sys2Proof.Machine
end

