-- ==== Sys2Proof/Machine/Units.lean ====
section
/-! DEFINITION. The Unit Logic: reel banks and counter units (R107 to R123). -/

namespace Sys2Proof.Machine

/-! ### Reels -/

/-- A reel's position in the model; none is Unknown (R108). -/
def setReel (b : BankNo) (r : Nat) (pos : Option (Fin 10)) (s : State) : State :=
  let bank := s.banks[b]
  match bank.reels[r]? with
  | some x => s.setBank b { bank with reels := bank.reels.set r { x with position := pos } }
  | none => s

/-- Every reel of a bank becomes Unknown. -/
def Bank.forgotten (x : Bank) : Bank := { x with reels := x.reels.map fun r => { r with position := none } }

/-- The position of a reel. -/
def reelPos (s : State) (b : BankNo) (r : Nat) : Option (Fin 10) := (s.banks[b].reels[r]?).bind (·.position)

/-- A failed check: the reel becomes Unknown, its train is ended and ReelMismatch set (R113). -/
def mismatch (b : BankNo) (r : Nat) (s : State) : State :=
  let s := setReel b r none s
  let s := match trainOf s (.reel b r) with
    | some t => limitEnd t s
    | none => s
  setLatch .reelMismatch s

/-- A reel passes from 9 to 0: the next reel's train is extended by 1, or the rollover is recorded at the top reel. A carry into
an Unknown reel is discarded, and one refused with Overflow leaves that reel mismatched (R112). -/
def carry (b : BankNo) (r : Nat) (s : State) : State :=
  let bank := s.banks[b]
  if r + 1 < bank.reels.length then
    match reelPos s b (r + 1), trainOf s (.reel b (r + 1)) with
    | some _, some t => (extend t 1 s).getD (mismatch b (r + 1) s)
    | _, _ => s
  else setLatch .rollover (s.setBank b { bank with rollover := min 15 (bank.rollover + 1) })

/-- The kick end of a reel's pulse moves an ADDING bank's model, whether or not the reel's context still shows the kick in flight (R111). -/
def reelKickEnd (b : BankNo) (r : Nat) (completed : Bool) (s : State) : State :=
  if s.banks[b].state = .adding then
    match reelPos s b r with
    | none => s
    | some p =>
      if !completed then setReel b r none s
      else if p = 9 then carry b r (setReel b r (some 0) s)
      else setReel b r (some (p + 1)) s
  else s

/-- A known reel of an ADDING bank, with no kick in flight, is checked against its zero switch (R113). -/
def reelCheck (b : BankNo) (r : Nat) (inFlight : Bool) (s : State) : State :=
  match s.banks[b].reels[r]? with
  | none => s
  | some x =>
    match x.position with
    | none => s
    | some p =>
      if s.banks[b].state = .adding ∧ !inFlight ∧ s.closed x.zero ≠ (p == 0) then mismatch b r s else s

/-- A zeroing reel is settled at its verify timer's expiry by its position and its zero switch (R117). -/
def settleZero (b : BankNo) (r : Nat) (s : State) : State :=
  match s.banks[b].reels[r]? with
  | none => s
  | some x =>
    match x.position, s.closed x.zero with
    | some _, true => s
    | some _, false => setLatch .reelMismatch (setReel b r none s)
    | none, false => setLatch .reelStuck s
    | none, true => setReel b r (some 0) s

/-- A context of a bank has nothing left to do: n equals N, no kick in flight, its verify timer expired (R91, R114, R117). -/
def Train.finished (x : Train) : Bool := x.issued == x.planned && !x.inFlight && x.verify == .expired

/-- The contexts of a bank are freed. -/
def freeBank (b : BankNo) (s : State) : State := (bankTrains s b).foldl (fun s t => freeTrain t s) s

/-- A kick runs on the channel of a reel of the bank: of its own trains, or left over from a cancelled one, which R116 calls in flight. -/
def bankKicking (s : State) (x : Bank) : Bool := x.reels.any fun r => s.chans[r.channel].isKicking

/-- The bank's test for its return to IDLE, when all its reels are finished; a zeroing that leaves every reel at 0 is completed and sets the
rollover count to 0 (R114, R117). A kick left over from a cancelled train is a kick in flight here, so that it never meets a bank that is ADDING
again (R114, R116): DEDUCED, log entry 32. -/
def bankTest (b : BankNo) (s : State) : State :=
  let bank := s.banks[b]
  if bank.state ≠ .idle ∧ !bankKicking s bank ∧ (bankTrains s b).all (fun t => s.trains[t].all Train.finished) then
    let home := bank.state == .zeroing && bank.reels.all (fun r => r.position == some 0)
    (freeBank b s).setBank b { bank with state := .idle, rollover := if home then 0 else bank.rollover }
  else s

/-- The bank of a channel's reel is tested (R114). -/
def bankTestOn (c : Chan) (s : State) : State :=
  match reelOf s c with
  | some (b, _) => bankTest b s
  | none => s

/-- The cancellation of a bank's contexts: every reel becomes Unknown and the bank returns to IDLE (R115). -/
def cancelBank (b : BankNo) (s : State) : State :=
  if (bankTrains s b).isEmpty then s
  else
    let s := freeBank b s
    s.setBank b { (s.banks[b]).forgotten with state := .idle }

/-! ### Counter units -/

/-- The kick end of a stroke of a counter unit moves its model (R122). -/
def unitKickEnd (u : UnitNo) (c : Chan) (completed : Bool) (s : State) : State :=
  let x := s.units[u]
  let pos : Option Nat :=
    if !completed then none
    else x.position.map fun p => if x.up.toNat = c.val then min x.maximum (p + 1) else p - 1
  s.setUnit u { x with position := pos }

/-- A train is cancelled: its request is taken back, its timers stop and its context is freed; a unit's pending opposite count
becomes 0 and its position Unknown, and a bank loses all its contexts (R105, R115, R123). -/
def cancelTrain (t : TrainNo) (s : State) : State :=
  match s.trains[t] with
  | none => s
  | some x =>
    match x.owner with
    | .bare => freeTrain t s
    | .reel b _ => cancelBank b s
    | .counter u =>
      let s := recordEnd u x (freeTrain t s)
      s.setUnit u { s.units[u] with opposite := 0, position := none }

/-- Every train is cancelled (R105). -/
def cancelAll (s : State) : State := (List.finRange 12).foldl (fun s t => cancelTrain t s) s

/-- The Unit Logic is told of the kick end of a channel's step pulse (R5, R111, R122). -/
def unitsKickEnd (c : Chan) (completed : Bool) (s : State) : State :=
  let s := match reelOf s c with
    | some (b, r) => reelKickEnd b r completed s
    | none => s
  match unitOn s c with
  | some u => unitKickEnd u c completed s
  | none => s

/-- What a lock of a channel does to a model whose trains it did not cancel: the reel of an IDLE bank becomes Unknown, and so
does a unit that names the channel (R115, R123). -/
def unitsLocked (c : Chan) (s : State) : State :=
  let s := match reelOf s c with
    | some (b, r) => if s.banks[b].state = .idle then setReel b r none s else s
    | none => s
  match unitOn s c with
  | some u => s.setUnit u { s.units[u] with position := none }
  | none => s

/-! ### Requests -/

/-- Why an add is refused (R109). `w` is the bank's width; the last three checks are made for an IDLE bank. -/
def addRefusal (s : State) (b : BankNo) (v : Nat) : Option Reason :=
  let bank := s.banks[b]
  let w := bank.reels.length
  if 10 ^ w ≤ v then some .range
  else if bank.state = .zeroing then some .busy
  else if bank.reels.any (·.position.isNone) then some .unknown
  else if (List.range w).any (fun i =>
      match (trainOf s (.reel b i)).bind (fun t => s.trains[t]) with
      | some x => decide (100 < x.planned - x.issued + digit v i) || decide (Config.maxPlanned < x.planned + digit v i)
      | none => false) then some .overflow
  else if bank.state ≠ .idle then none
  else if bank.reels.any (fun r => !s.coils[r.channel].enabled) then some .disabled
  else if bank.reels.any (fun r => s.chans[r.channel].isLocked) then some .locked
  else if freeTrains s < w then some .busy
  else none

/-- One context is allocated for a reel of a bank, with its planned count: one of 0 rests in VERIFY, its verify timer expired; any
other enters WAIT and offers its first pulse (R93). -/
def allocReel (b : BankNo) (r : Nat) (c : Chan) (n : Nat) (s : State) : State :=
  match firstFree s with
  | none => s
  | some t =>
    let x : Train :=
      { state := .verify, owner := .reel b r, channel := c, planned := n, profile := s.banks[b].profile, verify := .expired }
    if n = 0 then s.setTrain t (some x) else enterWait t { x with verify := .stopped } s

/-- Contexts are allocated for a bank's reels, reel 0 first, with the planned counts `plan` gives (R93, R110). -/
def allocBank (b : BankNo) (plan : Nat → Nat) (s : State) : State :=
  (List.range s.banks[b].reels.length).foldl (fun s r =>
    match s.banks[b].reels[r]? with
    | some x => allocReel b r x.channel (plan r) s
    | none => s) s

/-- An add that has passed its checks is taken: an IDLE bank's trains are allocated with the digits, an ADDING bank's extended by
them (R110). On an ADDING bank the reels are extended from reel 0 upward, an order the manual leaves open: DESIGN CHOICE, log entry 28. -/
def takeAdd (b : BankNo) (v : Nat) (s : State) : State :=
  let bank := s.banks[b]
  if bank.state = .idle then allocBank b (digit v) (s.setBank b { bank with state := .adding })
  else
    (List.range bank.reels.length).foldl (fun s r =>
      match trainOf s (.reel b r) with
      | some t => if digit v r = 0 then s else extended t (digit v r) s
      | none => s) s

/-- An add request at the Unit Logic (R109, R110). -/
def requestAdd (who : Asker) (b : BankNo) (v : Nat) (s : State) : State :=
  match addRefusal s b v with
  | some why => refuse who why s
  | none => takeAdd b v s

/-- Why a zero order is refused (R116). -/
def zeroRefusal (s : State) (b : BankNo) : Option Reason :=
  let bank := s.banks[b]
  if bank.reels.isEmpty then some .range
  else if bank.state = .zeroing then some .busy
  else if bank.state ≠ .idle then none
  else if bank.reels.any (fun r => !s.coils[r.channel].enabled) then some .disabled
  else if bank.reels.any (fun r => s.chans[r.channel].isLocked) then some .locked
  else if freeTrains s < bank.reels.length then some .busy
  else none

/-- A reel at rest on 0: its zero switch reads closed and its channel is not KICKING (R116). -/
def atRest (s : State) (r : Reel) : Bool := s.closed r.zero && !s.chans[r.channel].isKicking

/-- A zero order that has passed its checks is taken (R116). -/
def takeZero (b : BankNo) (s : State) : State :=
  let s := freeBank b s
  let bank := s.banks[b]
  let reels := bank.reels.map fun r => { r with position := if atRest s r then some 0 else none }
  let s := s.setBank b { bank with state := .zeroing, reels := reels }
  bankTest b (allocBank b (fun i => if (reels[i]?).any (·.position.isSome) then 0 else 10) s)

/-- Why a step is refused by anything but its unit (R120). -/
def stepRefusal (s : State) (u : UnitNo) (d : Dir) (m : Nat) : Option Reason :=
  match trainOf s (.counter u) with
  | some t => if stepOverflows s t u d m then some .overflow else none
  | none =>
    match s.units[u].channelOf d with
    | none => some .range
    | some c =>
      match startRefusal s c with
      | some why => some why
      | none => if (firstFree s).isNone then some .busy else none

/-- A step that has passed its checks is handed to the Train Engine (R121). -/
def takeStep (u : UnitNo) (d : Dir) (m : Nat) (s : State) : State :=
  match trainOf s (.counter u) with
  | some t => netStep t u d m s
  | none =>
    match s.units[u].channelOf d, firstFree s with
    | some c, some t => startUnit t u d c m s
    | _, _ => s

/-- A step request of a count other than 0 at the Unit Logic (R120). A refusal with AtLimit sets the AtLimit latch and the
position by the limit read. -/
def requestStep (who : Asker) (u : UnitNo) (count : Int) (s : State) : State :=
  let x := s.units[u]
  let d : Dir := if 0 < count then .up else .down
  let m := count.natAbs
  if !x.inUse then refuse who .range s
  else if s.closedByte (if d = .up then x.top else x.zero) then
    refuse who .atLimit
      (setLatch .atLimit (s.setUnit u { x with position := some (if d = .up then x.maximum else 0) }))
  else
    match stepRefusal s u d m with
    | some why => refuse who why s
    | none => takeStep u d m s

/-! ### Edges -/

/-- A Close edge of a limit: the position is set, AtLimit set, and a train toward the limit ended (R122). -/
def limitClosed (u : UnitNo) (d : Dir) (s : State) : State :=
  let x := s.units[u]
  let s := setLatch .atLimit (s.setUnit u { x with position := some (if d = .up then x.maximum else 0) })
  match trainOf s (.counter u) with
  | some t => if s.trains[t].any (·.dir == d) then limitEnd t s else s
  | none => s

/-- A Close edge of a reel's zero switch while its bank is ZEROING, the reel Unknown and its verify timer not expired: the
position becomes 0 and the train is ended (R117). -/
def zeroClosed (b : BankNo) (r : Nat) (s : State) : State :=
  match trainOf s (.reel b r) with
  | some t =>
    if s.trains[t].any (·.verify == .expired) ∨ (reelPos s b r).isSome then s
    else bankTest b (limitEnd t (setReel b r (some 0) s))
  | none => s

/-- The Unit Logic takes a Close edge of an input (R69, R117, R122). Open edges change nothing here. -/
def unitsClosed (i : InputNo) (s : State) : State :=
  let s := (List.finRange 4).foldl (fun s b =>
    (List.range s.banks[b].reels.length).foldl (fun s r =>
      if s.banks[b].state = .zeroing ∧ (s.banks[b].reels[r]?).any (·.zero == i) then zeroClosed b r s else s) s) s
  (List.finRange 4).foldl (fun s u =>
    let s := if s.units[u].inUse ∧ s.units[u].top.toNat = i.val then limitClosed u .up s else s
    if s.units[u].inUse ∧ s.units[u].zero.toNat = i.val then limitClosed u .down s else s) s

end Sys2Proof.Machine
end

