-- ==== Sys2Proof/Machine/Channels.lean ====
section
/-! DEFINITION. What a channel does: its grants, the ends of kicks and holds, recovery and locks (R3 to R22), and the open verdict
that a kick's end settles (R128). -/

namespace Sys2Proof.Machine

/-- A channel becomes IDLE and the Drive Scheduler is told, which makes a pass (R7, R22). -/
def becomeIdle (c : Chan) (s : State) : State := (setAct c .idle s).callPass

/-- A channel enters RECOVERING; with a recovery time of 0 it passes through to IDLE (R7). -/
def enterRecovery (c : Chan) (s : State) : State :=
  if s.coils[c].recovery = 0 then becomeIdle c s
  else setAct c (.recovering (s.after s.coils[c].recovery)) s

/-- The hold-limit timer at the beginning of a hold: it starts at the first hold of a press, where there is a hold limit, and goes on at
the later ones (R6, R17). -/
def holdTimer (s : State) (c : Chan) (running : Option Nat) : Option Nat :=
  if running.isSome then running
  else if s.coils[c].holdLimit = 0 then none
  else some (s.after s.coils[c].holdLimit)

/-- A channel enters HOLDING at a duty above 0: the fraction carry is 0 and hold accrual begins (R6). -/
def enterHold (c : Chan) (d : Drive) (ctx : FlipContext) (left : Nat) (limit : Option Nat) (heff : Nat) (s : State) : State :=
  let s := s.setHeat c { s.heat[c] with f := 0 }
  setAct c (.holding { d with kind := .flip ctx left (holdTimer s c limit), began := s.now, charged := 0 } heff) s

/-- A hold begins at the end of a kick, or is refused as a heat cutoff where Heff is 0 (R6, R36). -/
def holdAfterKick (c : Chan) (d : Drive) (ctx : FlipContext) (left : Nat) (limit : Option Nat) (s : State) : State :=
  let e := heffNow s c
  if e = 0 then enterRecovery c (setLatch .heatCutoff s) else enterHold c d ctx left limit e s

/-- A hold ends, for any cause but a lock: the part millisecond is charged, the channel enters RECOVERING, its Rekick entry is
withdrawn and a pass is made (R6, R27). -/
def endHold (c : Chan) (s : State) : State :=
  match s.chans[c].act with
  | .holding _ _ => withdrawRekick c (enterRecovery c (finalCharge c s)).callPass
  | _ => s

/-! ### Locks -/

/-- A channel not LOCKED is locked: the drive is cut with no recovery, its entries removed, its train cancelled with the consequences
for its unit, the Locked latch set and the cause recorded (R21, R131). A lock reaching a LOCKED channel changes nothing. The verdict of the
kick that a lock ends is put back to none yet: DESIGN CHOICE, log entry 29. -/
def lockChannel (c : Chan) (cause : LockCause) (s : State) : State :=
  if s.chans[c].isLocked then s
  else
    let wasDriven := s.chans[c].driven
    let wasStep := s.chans[c].drive?.any (·.kind == .stepPulse)
    let s := setAct c .locked (finalCharge c s)
    let s := if wasDriven then s.callPass else s
    let s := if wasStep then trainKickEnd c (unitsKickEnd c false s) else s
    let s := withdrawAll c s
    let s := match trainOn s c with
      | some t => cancelTrain t s
      | none => s
    let s := setLatch .locked (unitsLocked c s)
    s.setGuard c { s.guards[c] with verdict := .noneYet, cause := some cause }

/-- The Protection Monitor takes a kick's end: the verdict settles the strikes, sets OpenAlert at the first open kick and locks the
channel at the third (R128). The verdict so settled is put back to none yet, the value the next kick begins with: DESIGN CHOICE, log
entry 29. -/
def settleVerdict (c : Chan) (s : State) : State :=
  let g := s.guards[c]
  if s.coils[c].openFloor = 0 then s.setGuard c { g with verdict := .noneYet }
  else match g.verdict with
    | .noneYet => s
    | .good => s.setGuard c { g with verdict := .noneYet, strikes := 0 }
    | .openSoFar =>
      let n := min 3 (g.strikes + 1)
      let s := s.setGuard c { g with verdict := .noneYet, strikes := n }
      if n = 3 then lockChannel c .opened s
      else if n = 1 then setLatch .openAlert s
      else s

/-! ### Kicks -/

/-- A kick ends, for any cause but a lock. The last millisecond is charged; the channel takes its next state; a step pulse's outcome is
reported to the Unit Logic and the Train Engine; the open verdict is settled; a bank is tested for its return to IDLE; and a
pass is made (R5, R14, R96, R111, R114, R128). -/
def endKick (c : Chan) (completed : Bool) (s : State) : State :=
  match s.chans[c].act with
  | .kicking d _ _ =>
    let s := (finalCharge c s).callPass
    let s := match d.kind with
      | .flip ctx left limit =>
        if completed ∧ 0 < s.coils[c].h ∧ s.closed ctx.trigger then holdAfterKick c d ctx left limit s
        else enterRecovery c s
      | _ => enterRecovery c s
    let s := if d.kind = .stepPulse then trainKickEnd c (unitsKickEnd c completed s) else s
    let s := settleVerdict c s
    if d.kind = .stepPulse then bankTestOn c s else s
  | _ => s

/-- A channel's drive is ended outright, a kick as a cut kick (R5, R6, R8). -/
def endDrive (c : Chan) (s : State) : State :=
  if s.chans[c].isKicking then endKick c false s else endHold c s

/-- The drive and the waiting entry that hang on the flip contexts `p` chooses are brought to an end on one channel (R15). -/
def endFlipWorkOn (p : FlipContext → Bool) (c : Chan) (s : State) : State :=
  let s := if s.chans[c].running?.any p then endDrive c s else s
  if s.chans[c].waiting.any p then withdrawFlip c s else s

/-- The Flip work of a replaced rule or a disarmed group is brought to an end on every channel (R15, R77, R79). -/
def endFlipWork (p : FlipContext → Bool) (s : State) : State := forChans (endFlipWorkOn p) s

/-! ### Grants -/

/-- A grant with a kick of length `k` to a channel: a drive record, the kick timer, KICKING, and a new open verdict (R4, R128). -/
def beginKick (c : Chan) (kind : DriveKind) (e : Entry) (k : Nat) (s : State) : State :=
  let d : Drive := { kind := kind, source := e.source, persistent := e.persistent, began := s.now, charged := 0 }
  let s := setAct c (.kicking d k (s.after k)) s
  s.setGuard c { s.guards[c] with verdict := .noneYet }

/-- A grant of a Flip with a kick; the re-kick allowance is refilled from the context (R4, R13). -/
def grantFlipKick (c : Chan) (ctx : FlipContext) (e : Entry) (k : Nat) (s : State) : State :=
  beginKick c (.flip ctx ctx.allowance none) e k (setWaiting c none s)

/-- A grant of a Flip as a hold without a kick, from IDLE, at a duty above 0 (R6, R13). -/
def grantFlipHold (c : Chan) (ctx : FlipContext) (e : Entry) (heff : Nat) (s : State) : State :=
  let d : Drive :=
    { kind := .flip ctx ctx.allowance none, source := e.source, persistent := e.persistent, began := s.now, charged := 0 }
  enterHold c d ctx ctx.allowance none heff (setWaiting c none s)

/-- A grant of a Rekick: the hold's part millisecond is charged, the allowance left falls by 1, the hold-limit timer keeps running, and
the channel goes from HOLDING to KICKING (R17, R26). -/
def grantRekick (c : Chan) (ctx : FlipContext) (left : Nat) (limit : Option Nat) (e : Entry) (k : Nat) (s : State) : State :=
  beginKick c (.flip ctx (left - 1) limit) e k (finalCharge c s)

/-! ### Edges -/

/-- What an edge of an input does at one channel: an Open edge of a trigger withdraws a waiting Flip and ends a running one's kick or hold
(R12, R14, R15); a Close edge of an end-of-stroke input completes a kick or withdraws a waiting re-kick, and an Open edge
during a hold requests one while allowance is left (R14, R16, R17). -/
def edgeOn (i : InputNo) (close : Bool) (c : Chan) (s : State) : State :=
  let s := if !close ∧ s.chans[c].waiting.any (·.trigger == i) then withdrawFlip c s else s
  match s.chans[c].act with
  | .kicking { kind := .flip ctx _ _, .. } _ _ =>
    if !close ∧ ctx.trigger = i then endKick c false s
    else if close ∧ ctx.eos = some i ∧ ctx.mode ≠ .off then endKick c true s
    else s
  | .holding { kind := .flip ctx left _, .. } _ =>
    if !close ∧ ctx.trigger = i then endHold c s
    else if ctx.eos = some i ∧ ctx.mode = .rekick then
      if close then withdrawRekick c s
      else if 0 < left then submitRekick c ctx s
      else s
    else s
  | _ => s

/-- The Channel Drivers take an edge (R69). -/
def channelsEdge (i : InputNo) (close : Bool) (s : State) : State := forChans (edgeOn i close) s

end Sys2Proof.Machine
end

