-- ==== Sys2Proof/Machine/Arbiter.lean ====
section
/-! DEFINITION. The arbiter's pass over the Admission Queue and the end of an event (R29 to R32, R46, R53 to R59). -/

namespace Sys2Proof.Machine

/-- What a pass finds for an entry (R56, R57). -/
inductive Finding where
  /-- Ineligible: it stays, with this wait reason, and the pass goes on. -/
  | ineligible (w : Wait)
  /-- It leaves without a grant; the latches EosStuck and HeatCutoff are set as the flags say. -/
  | removed (eosStuck heatCutoff : Bool)
  /-- A kick of length `k`; `draw` is what the budget in use would become, `limit` what it may be. -/
  | kick (k draw limit : Nat)
  /-- A Flip as a hold without a kick. -/
  | hold (heff draw limit : Nat) (eosStuck : Bool)
  deriving DecidableEq, Repr

/-- The limit of the budget in use for a Pulse or a StepPulse (R53). -/
def pulseLimit (s : State) : Nat := budgetInForce s - s.settings.reserve

/-- The heat test of a Pulse (R30). -/
def pulsePasses (k : Coil) (kg kReq : Nat) : Bool := decide (min k.kMin kReq ≤ kg)

/-- A Flip granted as a hold without a kick, or found without one where Heff is 0 (R13, R31, R57). -/
def findHold (s : State) (c : Chan) (eosStuck : Bool) : Finding :=
  let e := heffNow s c
  if e = 0 then .removed eosStuck true
  else .hold e (s.inUse + holdDraw s.coils[c] e) (budgetInForce s) eosStuck

/-- The end-of-stroke input of a Flip is read in modes Stop and Rekick, at its grant (R13, R56). -/
def eosClosed (s : State) (ctx : FlipContext) : Bool :=
  match ctx.eos with
  | some i => ctx.mode != .off && s.closed i
  | none => false

/-- What a pass finds for a Flip on an IDLE channel (R13, R31, R57). -/
def findFlip (s : State) (e : Entry) (ctx : FlipContext) : Finding :=
  let c := e.channel
  let k := s.coils[c]
  let kg := grantable k s.heat[c].q e.kReq
  if eosClosed s ctx then
    if k.h = 0 then .removed true false else findHold s c true
  else if k.kMin ≤ kg then .kick kg (s.inUse + k.p) (budgetInForce s)
  else if k.h = 0 then .removed false true
  else findHold s c false

/-- What a pass finds for an entry, against the state left by the entries passed before it (R56). -/
def find (s : State) (e : Entry) : Finding :=
  let c := e.channel
  let k := s.coils[c]
  let kg := grantable k s.heat[c].q e.kReq
  match e.kind, s.chans[c].act with
  | .rekick, .holding _ heff =>
    if k.kMin ≤ kg then .kick kg (s.inUse - holdDraw k heff + k.p) (budgetInForce s) else .removed false false
  | .rekick, _ => .ineligible .channelBusy
  | .flip, .idle =>
    match s.chans[c].waiting with
    | some ctx => findFlip s e ctx
    | none => .removed false false
  | .pulse, .idle =>
    if pulsePasses k kg e.kReq then .kick kg (s.inUse + k.p) (pulseLimit s) else .ineligible .heatWait
  | .stepPulse, .idle =>
    if kg = e.kReq then .kick kg (s.inUse + k.p) (pulseLimit s) else .ineligible .heatWait
  | _, _ => .ineligible .channelBusy

/-- A grant with a kick reaches the channel, and a step pulse's the train as well (R4, R17, R59, R94). -/
def grantKick (e : Entry) (k : Nat) (s : State) : State :=
  let c := e.channel
  match e.kind with
  | .flip =>
    match s.chans[c].waiting with
    | some ctx => grantFlipKick c ctx e k s
    | none => s
  | .rekick =>
    match s.chans[c].act with
    | .holding { kind := .flip ctx left limit, .. } _ => grantRekick c ctx left limit e k s
    | _ => s
  | .pulse => beginKick c .pulse e k s
  | .stepPulse =>
    let s := beginKick c .stepPulse e k s
    match e.source with
    | .train t => trainGranted t s
    | _ => s

/-- A grant as a hold without a kick reaches the channel (R13, R59). -/
def grantHold (e : Entry) (heff : Nat) (eosStuck : Bool) (s : State) : State :=
  match s.chans[e.channel].waiting with
  | some ctx => setLatchIf eosStuck .eosStuck (grantFlipHold e.channel ctx e heff s)
  | none => s

/-- An entry leaves at a pass without a grant; a Flip's context is discarded (R57). -/
def removeAtPass (e : Entry) (eosStuck heatCutoff : Bool) (s : State) : State :=
  let s := setLatchIf heatCutoff .heatCutoff (setLatchIf eosStuck .eosStuck s)
  if e.kind = .flip then setWaiting e.channel none s else s

/-- The walk of a pass: the entries that stay, with their wait reasons, and the state the pass leaves (R56 to R58). -/
def walk : List Entry → State → List Entry × State
  | [], s => ([], s)
  | e :: es, s =>
    match find s e with
    | .ineligible w =>
      let (q, s) := walk es s
      ({ e with wait := w } :: q, s)
    | .removed x y => walk es (removeAtPass e x y s)
    | .kick k draw limit =>
      if draw ≤ limit then walk es (grantKick e k s)
      else ({ e with wait := .budget } :: es.map ({ · with wait := .notReached }), s)
    | .hold heff draw limit x =>
      if draw ≤ limit then walk es (grantHold e heff x s)
      else ({ e with wait := .budget } :: es.map ({ · with wait := .notReached }), s)

/-- One pass; made while the relay is open it grants nothing and changes no wait reason (R55, R60). -/
def pass (s : State) : State :=
  if s.node.relay then
    let (q, s) := walk s.queue s
    s.setQueue q
  else s

/-- The passes an event calls for: free places are handed to held trains, one pass is made for all the event's causes, and the
joinings its grants make room for make another (R46, R55, R57). -/
def passes : Nat → State → State
  | 0, s => { s with passDue := false }
  | n + 1, s =>
    let s := handOver s
    if s.passDue then passes n (pass { s with passDue := false }) else s

/-- The end of an event at the Drive Scheduler: nothing where the event was no cause of a pass. Each further pass follows the joining
of a held train, of which there are at most as many as the held list holds. -/
def arbitrate (s : State) : State := if s.passDue then passes (s.held.length + 2) s else s

end Sys2Proof.Machine
end

