-- ==== Sys2Proof/Machine/Nodes.lean ====
section
/-! DEFINITION. The node states: every entry, the relay, trips, waking and chain loss (R8, R61, R62, R132, R162 to R168). -/

namespace Sys2Proof.Machine

/-- Every drive is ended, or with `keep` every drive but those of persistent rules (R8). -/
def endDrives (keep : Bool) (s : State) : State :=
  forChans (fun c s => if keep && s.chans[c].drive?.any (·.persistent) then s else endDrive c s) s

/-- The silence timer is stopped (R159). -/
def stopSilence (s : State) : State := s.setPort { s.port with silence := none }

/-- The silence timer is restarted to the silence limit (R159). -/
def restartSilence (s : State) : State := s.setPort { s.port with silence := some (s.after s.settings.silence) }

/-- An entry to a node state that opens the relay: the settle and silence timers stop, every train is cancelled, every drive ends,
and the queue and the held list are emptied (R8, R61, R105, R165 to R168; log entry 10 for the order of the trains and the drives). -/
def standDown (st : NodeState) (s : State) : State :=
  let s := stopSilence (s.setNode { s.node with st := st, relay := false, settle := none })
  emptyQueue (endDrives false (cancelAll s))

/-- The entry to ARMING: the relay closes, which makes a pass, and the settle and silence timers start (R163, R60). -/
def enterArming (s : State) : State :=
  restartSilence
    ((s.setNode { s.node with st := .arming, relay := true, settle := some (s.after s.settings.settle) }).callPass)

/-- A wake from QUIET by a masked input: the wake cause, the Woke latch and the entry to ARMING (R166). -/
def wakeBy (i : InputNo) (s : State) : State :=
  enterArming (setLatch .woke (s.setNode { s.node with wake := .input i }))

/-- The lowest-numbered closed input of the wake mask (R166). -/
def closedMasked (s : State) : Option InputNo :=
  (List.finRange 32).find? fun i => inMask s.node.wakeMask i && s.closed i

/-- Whether a persistent rule stands in an armed group, which keeps the relay closed in CHAIN-LOST (R162). -/
def persistentArmed (s : State) : Bool := s.rules.toList.any fun r => r.persistent && s.armed.getLsbD r.group.val

/-- The entry to CHAIN-LOST (R167): the relay is decided, drives end but for persistent ones under a closed relay, the queue is
reduced and every train cancelled. The trains are cancelled first, so a waiting STEP entry leaves by a withdrawal, which calls an arbiter pass
(R48, R105), and not by the reduction, which makes none (R62): DESIGN CHOICE, log entry 10. -/
def enterChainLost (s : State) : State :=
  let keep := persistentArmed s
  let s := stopSilence (s.setNode { s.node with st := .chainLost, relay := keep, settle := none })
  reduceQueue (endDrives keep (cancelAll s))

/-- A trip handed to Node State Control: the entry to TRIPPED, the trip record and the Tripped latch; none is handed in TRIPPED
(R132, R168). -/
def trip (cause : TripCause) (c : Option Chan) (s : State) : State :=
  if s.node.st = .tripped then s
  else
    let s := standDown .tripped s
    setLatch .tripped
      (s.setMon { s.mon with tripCause := some cause, tripChan := c, trips := saturate s.mon.trips })

/-- The end of a frame whose checks both pass: the silence timer is restarted in ARMING and LIVE, and a CHAIN-LOST node enters SAFE before
the frame is acted on (R156, R159, R167). -/
def goodFrameEnd (s : State) : State :=
  match s.node.st with
  | .arming => restartSilence s
  | .live => restartSilence s
  | .chainLost => standDown .safe s
  | _ => s

/-- The Reset order (R165): the latches, counts, groups and holdoffs are cleared after everything else has ended. -/
def softReset (s : State) : State :=
  let wake := if s.node.st = .quiet then WakeCause.resetOrder else s.node.wake
  let s := standDown .safe s
  let s := s.setNode { s.node with wake := wake }
  let s := s.setPort { s.port with damage := 0, refusals := 0, lastAsker := .order 0, lastReason := none }
  { s with armed := 0, holdoffs := Vector.replicate 32 none, latches := 0, dropped := 0 }

/-- The Quiet order in SAFE, ARMING and LIVE: the wake mask, the entry to QUIET, and the reading of the masked inputs, which wakes the
node at once where one is closed (R166). -/
def enterQuiet (mask : BitVec 32) (s : State) : State :=
  let s := standDown .quiet s
  let s := s.setNode { s.node with wakeMask := mask }
  match closedMasked s with
  | some i => wakeBy i s
  | none => s

/-- Node State Control takes a Close edge: a masked input wakes a QUIET node (R69, R166). -/
def nodeClosed (i : InputNo) (s : State) : State :=
  if s.node.st = .quiet ∧ inMask s.node.wakeMask i then wakeBy i s else s

/-- The raw readings at power-up under closed-low polarity (R68). -/
def firstInput (levels : BitVec 32) (i : Nat) : Input :=
  { closed := !levels.getLsbD i, raw := levels.getLsbD i }

/-- Power-on reset: every block at its power-on values, the address read from the straps, the first sample taken, the block timers
started; the waiting commands are the sender's and stay (R162, R68, R153). -/
def powerOn (straps : BitVec 4) (levels : BitVec 32) (s : State) : State :=
  let r := (State.reset.setPort { State.reset.port with address := straps })
  let r := (List.finRange 32).foldl (fun r i => r.setInput i (firstInput levels i.val)) r
  { r with pending := s.pending }

end Sys2Proof.Machine
end

