-- ==== Sys2Proof/Machine/Inputs.lean ====
section
/-! DEFINITION. Sampling, debounce, the edges and their delivery, and the firing of rules (R65 to R72, R80 to R89). -/

namespace Sys2Proof.Machine

/-- The class time in microseconds: 1, 4 or 16 ms (R66). -/
def classTime : Debounce → Nat
  | .fast => 1 * Config.msTime
  | .normal => 4 * Config.msTime
  | .slow => 16 * Config.msTime

/-- A raw level read as closed or open by an input's polarity (R65). -/
def Input.reading (x : Input) (high : Bool) : Bool := high == x.closedHigh

/-- An input at a sample taken at the moment `t` (R66): whether it makes an edge, and what it becomes but for the edge's own changes. -/
def Input.sample (x : Input) (high : Bool) (t : Nat) : Bool × Input :=
  let x := { x with raw := high }
  if x.reading high = x.closed then (false, { x with since := none })
  else match x.since with
    | none => (false, { x with since := some t })
    | some first =>
      if t - first < classTime x.debounce then (false, x) else (true, { x with since := none })

/-- The edge of an input: the debounced level changes, and the closure count and the change latches take it (R66, R71). -/
def Input.edge (x : Input) : Input :=
  if x.closed then { x with closed := false, openLatch := true }
  else { x with closed := true, count := min 15 (x.count + 1), closeLatch := true }

/-! ### Rules -/

/-- Whether the Rule Engine evaluates a rule in the present node state (R80). -/
def evaluated (s : State) (r : Rule) : Bool :=
  match s.node.st with
  | .live => r.action != .inert
  | .chainLost => r.persistent
  | _ => false

/-- Whether a rule fires on an edge (R81). -/
def fires (s : State) (n : RuleNo) (i : InputNo) (close : Bool) : Bool :=
  let r := s.rules[n]
  r.trigger == i && r.onClose == close && r.action != .inert && evaluated s r && s.armed.getLsbD r.group.val &&
    s.holdoffs[n].isNone

/-- The flip context built from a rule (R85). -/
def contextOf (n : RuleNo) (r : Rule) (eos : Option InputNo) (mode : EosMode) (allowance : Nat) : FlipContext :=
  { trigger := r.trigger, rule := n, group := r.group, persistent := r.persistent, eos := eos, mode := mode,
    allowance := allowance }

/-- The request of a firing rule's action; a refusal is recorded against the rule (R84 to R88). -/
def makeRequest (n : RuleNo) (s : State) : State :=
  let r := s.rules[n]
  match r.action with
  | .inert => s
  | .pulse c kick =>
    match driveRefusal s c with
    | some why => refuse (.rule n) why s
    | none => submitPulse c .rule (.rule n) r.persistent kick s
  | .flip c eos mode allowance =>
    match flipRefusal s c with
    | some why => refuse (.rule n) why s
    | none => submitFlip c (contextOf n r eos mode allowance) s
  | .step u count => if count = 0 then s else requestStep (.rule n) u count s
  | .add b v => if v = 0 then s else requestAdd (.rule n) b v s

/-- A rule fires: its holdoff starts, its request is made, and the request's immediate consequences follow (R81, R83). -/
def fireRule (n : RuleNo) (s : State) : State :=
  let r := s.rules[n]
  let s := if r.holdoff = 0 then s else s.setHoldoff n (some (s.after r.holdoff))
  arbitrate (makeRequest n s)

/-- The Rule Engine takes an edge: the rules are considered in ascending number (R83). -/
def rulesEdge (i : InputNo) (close : Bool) (s : State) : State :=
  (List.finRange 32).foldl (fun s n => if fires s n i close then fireRule n s else s) s

/-! ### Delivery -/

/-- One consumer takes an edge as its own event (R69). -/
def deliver (i : InputNo) (close : Bool) (x : Consumer) (s : State) : State :=
  match x with
  | .ruleEngine => rulesEdge i close s
  | .channelDrivers => arbitrate (channelsEdge i close s)
  | .unitLogic => arbitrate (if close then unitsClosed i s else s)
  | .nodeState => arbitrate (if close then nodeClosed i s else s)

/-- The consumers of an edge. -/
def consumers : List Consumer := [.ruleEngine, .channelDrivers, .unitLogic, .nodeState]

/-- The deliveries of a sample's edges in the order they are made: those the sample's own order names, then the rest (R69; log
entry 4). -/
def deliveries (edges : List InputNo) (order : List (InputNo × Consumer)) : List (InputNo × Consumer) :=
  let all := edges.flatMap fun i => consumers.map fun x => (i, x)
  let first := order.filter fun d => all.contains d
  first ++ all.filter fun d => !first.contains d

/-- A delivery: the input's edge is made before its first consumer takes it, so that every consumer finds the new level (R69). -/
def deliverEdge (reading : BitVec 32) (d : InputNo × Consumer) (s : State) : State :=
  let x := s.inputs[d.1]
  let close := x.reading (reading.getLsbD d.1.val)
  let s := if x.closed = close then s else s.setInput d.1 x.edge
  deliver d.1 close d.2 s

/-- The debounce of every input at a sample; the edges it makes are made as they are delivered (R66). -/
def debounceAll (levels : BitVec 32) (t : Nat) (s : State) : State :=
  (List.finRange 32).foldl (fun s i => s.setInput i (s.inputs[i].sample (levels.getLsbD i.val) t).2) s

/-- The inputs at which a sample makes an edge, in ascending number (R66). -/
def edgesAt (levels : BitVec 32) (t : Nat) (s : State) : List InputNo :=
  (List.finRange 32).filter fun i => (s.inputs[i].sample (levels.getLsbD i.val) t).1

/-- A sample of the 32 inputs: the sampling timer's expiry, the debounce of every input, and the delivery of the edges (R65, R66,
R69). -/
def sampleInputs (x : Sample) (s : State) : State :=
  let t := s.clocks.sample
  let edges := edgesAt x.levels t s
  let s := (s.reach t).setClocks { s.clocks with sample := t + 250 }
  let s := debounceAll x.levels t s
  (deliveries edges x.order).foldl (fun s d => deliverEdge x.levels d s) s

/-! ### Counts and the pending record (R71 to R73) -/

/-- What an input holds for the next report. -/
def Input.report (x : Input) : Report := { count := x.count, closeLatch := x.closeLatch, openLatch := x.openLatch }

/-- An input's live items set to 0 and clear. -/
def Input.cleared (x : Input) : Input := { x with count := 0, closeLatch := false, openLatch := false }

/-- A pending report returned to the live items (R72). -/
def Input.returned (x : Input) (r : Report) : Input :=
  { x with count := min 15 (r.count + x.count), closeLatch := r.closeLatch || x.closeLatch,
           openLatch := r.openLatch || x.openLatch }

/-- The counts and latches are moved into a pending record (R72). -/
def moveToPending (s : State) : State :=
  { s with reported := some (s.inputs.map Input.report), inputs := s.inputs.map Input.cleared }

/-- The pending record is settled at the frame's end: discarded where the payload check passed, returned where it failed
(R72). -/
def settlePending (passed : Bool) (s : State) : State :=
  match s.reported with
  | none => s
  | some r =>
    let s := { s with reported := none }
    if passed then s
    else (List.finRange 32).foldl (fun s i => s.setInput i (s.inputs[i].returned r[i])) s

/-- The closure counts and change latches of the inputs in a mask are cleared (R73). -/
def clearCountsOf (mask : BitVec 32) (s : State) : State :=
  (List.finRange 32).foldl (fun s i => if inMask mask i then s.setInput i s.inputs[i].cleared else s) s

end Sys2Proof.Machine
end

