-- ==== Sys2Proof/Machine/Senses.lean ====
section
/-! DEFINITION. The Protection Monitor's samples and readings (R126 to R136). -/

namespace Sys2Proof.Machine

/-- The spacing of the driven round's sample times, in microseconds (R126). -/
def drivenSpacing : Nat := 50

/-- The period of the undriven round, in microseconds (R126). -/
def undrivenPeriod : Nat := 4000

/-- The next driven channel in ascending number after the one sampled last, wrapping; the lowest at first (R126). -/
def nextDriven (s : State) : Option Chan :=
  let driven := (List.finRange 24).filter fun c => s.chans[c].driven
  match s.mon.lastDriven with
  | none => driven.head?
  | some last =>
    match driven.find? fun c => decide (last.val < c.val) with
    | some c => some c
    | none => driven.head?

/-- The next sample time of the driven round: the times fall every 50 µs from power-on reset (R126). -/
def drivenTime (s : State) : Nat := max s.clocks.driven ((s.now + (drivenSpacing - 1)) / drivenSpacing * drivenSpacing)

/-- The driven round's next sample time comes and goes to a channel (R126). -/
def takeTurn (c : Chan) (s : State) : State :=
  let t := drivenTime s
  ((s.reach t).setClocks { s.clocks with driven := t + drivenSpacing }).setMon { s.mon with lastDriven := some c }

/-- The open test of a drive sample of a KICKING channel more than 2 ms into its kick (R128). -/
def openTest (c : Chan) (reading : Byte) (s : State) : State :=
  match s.chans[c].act with
  | .kicking d _ _ =>
    let g := s.guards[c]
    if s.coils[c].openFloor = 0 ∨ s.now ≤ d.began + 2 * Config.msTime then s
    else if reading.toNat < s.coils[c].openFloor then
      s.setGuard c { g with verdict := if g.verdict = .good then .good else .openSoFar }
    else s.setGuard c { g with verdict := .good }
  | _ => s

/-- The short run after a drive sample (R129). -/
def shortRunAfter (s : State) (c : Chan) (reading : Byte) : Nat :=
  if s.coils[c].shortCeiling < reading.toNat then min 2 (s.guards[c].shortRun + 1) else 0

/-- The short test of a drive sample: the second high sample in a row locks the channel (R129). -/
def shortTest (c : Chan) (reading : Byte) (s : State) : State :=
  let n := shortRunAfter s c reading
  let s := s.setGuard c { s.guards[c] with shortRun := n }
  if n = 2 then lockChannel c .shorted s else s

/-- A drive sample: the channel whose turn it is takes the open test and the short test (R126, R128, R129). Where no channel is driven
no sample is taken. -/
def takeDriveSample (reading : Byte) (s : State) : State :=
  match nextDriven s with
  | none => s
  | some c => arbitrate (shortTest c reading (openTest c reading (takeTurn c s)))

/-- The next drive sample, with this reading, would lock its channel (R129). -/
def shortLocks (s : State) (reading : Byte) : Bool :=
  match nextDriven s with
  | none => false
  | some c => shortRunAfter s c reading == 2

/-- A channel's next turn in the undriven round: channel c at floor(500 × c / 3) µs from the start of each 4 ms period (R126). -/
def undrivenTime (s : State) (c : Chan) : Nat :=
  let off := 500 * c.val / 3
  let m := max s.now s.clocks.undriven
  off + (m - off + (undrivenPeriod - 1)) / undrivenPeriod * undrivenPeriod

/-- The leak run after an undriven sample (R130). -/
def leakRunAfter (s : State) (c : Chan) (reading : Byte) : Nat :=
  if s.settings.leakThreshold < reading.toNat then min 5 (s.guards[c].leakRun + 1) else 0

/-- An undriven sample: the leak run, and a trip with cause Leak where it is left at 5. A driven channel is not sampled (R126, R130). -/
def takeUndrivenSample (c : Chan) (reading : Byte) (s : State) : State :=
  if s.chans[c].driven then s
  else
    let t := undrivenTime s c
    let n := leakRunAfter s c reading
    let s := (s.reach t).setClocks { s.clocks with undriven := t + 1 }
    let s := s.setGuard c { s.guards[c] with leakRun := n }
    if n = 5 then arbitrate (trip .leak (some c) s) else s

/-- An undriven sample with this reading would hand a trip (R130). -/
def leakTrips (s : State) (c : Chan) (reading : Byte) : Bool :=
  !s.chans[c].driven && leakRunAfter s c reading == 5 && s.node.st != .tripped

/-- A coil-supply reading: the low, good and floor runs, the Sag flag, and a trip with cause Supply (R133, R134). -/
def takeSupply (v : Byte) (s : State) : State :=
  let sets := sagSets s v
  let clears := sagClears s v
  let trips := floorTrips s v
  let mon := { s.mon with
    supply := v, lowRun := lowRunAfter s v, goodRun := goodRunAfter s v, floorRun := floorRunAfter s v,
    sag := if sets then true else if clears then false else s.mon.sag }
  let s := (s.reach s.clocks.supply).setClocks { s.clocks with supply := s.clocks.supply + Config.msTime }
  let s := setLatchIf sets .sag (s.setMon mon)
  let s := if clears then s.callPass else s
  arbitrate (if trips then trip .supply none s else s)

/-- A board temperature reading: the Warm flag, the trip-temperature count, and a trip with cause Heat (R135, R136). -/
def takeTemperature (v : Byte) (s : State) : State :=
  let sets := warmSets s v
  let trips := heatTrips s v
  let mon := { s.mon with
    temp := v, hotCount := hotCountAfter s v,
    warm := if sets then true else if warmClears s v then false else s.mon.warm }
  let s := (s.reach s.clocks.temp).setClocks { s.clocks with temp := s.clocks.temp + 100 * Config.msTime }
  let s := setLatchIf sets .warm (s.setMon mon)
  if trips then arbitrate (trip .heat none s) else s

end Sys2Proof.Machine
end

