-- ==== Sys2Proof/Machine/Answers.lean ====
section
/-! DEFINITION. The answer records of the queries and the sweep slot (R23, R39, R63, R72, R74, R90, R106, R124, R125, R139, R152, R158,
R161). Each answer is a record, or the reason its status names. -/

namespace Sys2Proof.Machine

/-- How a query kind is answered: from the state at the snapshot moment and the number byte (R157). -/
abbrev Answerer := State → Byte → Except Reason (List Byte)

/-- A kind whose number names one of `n` things is answered with Range where it names none (R157). -/
def numbered {n : Nat} (f : State → Fin n → List Byte) : Answerer := fun s b =>
  match refOf n b with
  | some i => .ok (f s i)
  | none => .error .range

/-- Kind 1: the node settings record. -/
def answerSettings : Answerer := fun s _ => .ok (settingsBytes (settingsRec s.settings))

/-- Kind 2: the coil record. -/
def answerCoil : Answerer := numbered fun s (c : Chan) => coilBytes (coilRec c s.coils[c])

/-- The answer to kind 3 (R74). -/
def inputAnswer (s : State) (i : InputNo) : List Byte :=
  let x := s.inputs[i]
  inputBytes (inputRec i x) ++
    [flagByte x.closed, flagByte x.since.isSome, byteOf x.count, flagByte x.closeLatch, flagByte x.openLatch]

/-- Kind 3: the input record, the debounced level, the run, the closure count and the change latches (R74). -/
def answerInput : Answerer := numbered inputAnswer

/-- Kind 4: the rule, its holdoff left and the group arm mask (R90). -/
def answerRule : Answerer := numbered fun s (n : RuleNo) =>
  ruleBytes (ruleRec n s.rules[n]) ++ bytes2 (s.msLeft s.holdoffs[n]) ++ [s.armed]

/-- Kind 5: the bank record. -/
def answerBank : Answerer := numbered fun s (b : BankNo) => bankBytes (bankRec b s.banks[b])

/-- Kind 6: the counter-unit record. -/
def answerCounterUnit : Answerer := numbered fun s (u : UnitNo) => unitBytes (unitRec u s.units[u])

/-- Kind 7: the ring record and the chase time left (R152). -/
def answerRing : Answerer := numbered fun s (r : RingNo) =>
  ringBytes (ringRec r s.rings[r]) ++ bytes2 (s.msLeft s.rings[r].timer)

/-- The effective duty shown: Heff while HOLDING and 0 in every other state (R23). -/
def Channel.heffShown (x : Channel) : Nat :=
  match x.act with
  | .holding _ e => e
  | _ => 0

/-- Kind 8: the channel's state and Heff, its heat account, its strikes and its lock cause (R23, R39, R139). -/
def answerChannel : Answerer := numbered fun s (c : Chan) =>
  [byteOf c.val, actCode s.chans[c].act, byteOf s.chans[c].heffShown] ++ bytes2 s.heat[c].q ++
    [byteOf s.guards[c].strikes, causeCode s.guards[c].cause]

/-- One entry's record in a queue snapshot (R63). -/
def entryBytes (s : State) (e : Entry) : List Byte :=
  [byteOf e.channel.val, byteOf (clsCode e.cls), kindCode e.kind, sourceByte e.source, flagByte e.persistent] ++
    bytes2 (min 65535 (msReported (s.now - e.joined))) ++
    [byteOf e.merged, byteOf e.kReq, byteOf (grantable s.coils[e.channel] s.heat[e.channel].q e.kReq), waitCode e.wait]

/-- Kind 9: the budget figures, the held list and one record per entry (R63). -/
def answerQueue : Answerer := fun s _ =>
  .ok ([byteOf s.inUse, byteOf (budgetInForce s), byteOf s.settings.reserve, byteOf s.queue.length, byteOf s.held.length] ++
    s.held.map (fun (t : TrainNo) => byteOf t.val) ++ s.queue.flatMap (entryBytes s))

/-- The owner's code, its bank or unit, its reel, the direction and the pending opposite count of a train status answer. A field that
R106 gives no content for this owner is a free value (log entry 8). -/
def ownerBytes (s : State) (x : Train) : Byte × Byte × Byte × Byte × Byte :=
  match x.owner with
  | .reel b r => (0, byteOf b.val, byteOf r, Config.openByte 0, Config.openByte 1)
  | .counter u => (1, byteOf u.val, Config.openByte 2, dirCode x.dir, byteOf s.units[u].opposite)
  | .bare => (2, Config.openByte 3, Config.openByte 4, Config.openByte 5, Config.openByte 6)

/-- The timer of a context that runs: interval, verify or settle (R106). -/
def Train.timer (x : Train) : Option Nat :=
  match x.interval, x.verify with
  | some t, _ => some t
  | none, .running t => some t
  | none, _ => x.settle

/-- The answer to kind 10 (R106): a FREE context answers with its number and its state, and zeros. -/
def trainAnswer (s : State) (t : TrainNo) : List Byte :=
  match s.trains[t] with
  | none => byteOf t.val :: List.replicate 21 0
  | some x =>
    let (owner, unit, reel, dir, opposite) := ownerBytes s x
    [byteOf t.val, trainCode x.state, owner, unit, reel, byteOf x.channel.val, dir] ++ bytes2 x.planned ++
      bytes2 x.issued ++ [byteOf x.profile.idle] ++ bytes2 x.profile.start ++ bytes2 x.profile.floor ++
      [byteOf x.profile.ramp] ++ bytes2 (s.msLeft x.timer) ++ [flagByte x.inFlight, flagByte x.held, opposite]

/-- Kind 10: the state and items of one train context (R106). -/
def answerTrain : Answerer := numbered trainAnswer

/-- A position as sent: 255 for Unknown (R161). -/
def positionByte (p : Option Nat) : Byte :=
  match p with
  | some n => byteOf n
  | none => 255

/-- One reel's four bytes of a bank status answer; a reel beyond the width is sent as zeros, and N − n of a reel without a context is
a free value (R124; log entry 8). -/
def reelAnswer (s : State) (b : BankNo) (r : Nat) : List Byte :=
  match s.banks[b].reels[r]? with
  | none => [0, 0, 0, 0]
  | some x =>
    let t := trainOf s (.reel b r)
    [positionByte (x.position.map (·.val)), refByte t] ++
      match t.bind (fun t => s.trains[t]) with
      | some y => bytes2 (y.planned - y.issued)
      | none => [Config.openByte 7, Config.openByte 8]

/-- Kind 11: the bank's state, its reels' positions and contexts, and the rollover count (R124). -/
def answerBankStatus : Answerer := numbered fun s (b : BankNo) =>
  [byteOf b.val, byteOf (bankCode s.banks[b]), byteOf s.banks[b].reels.length] ++
    (List.range 5).flatMap (reelAnswer s b) ++ [byteOf s.banks[b].rollover]

/-- The answer to kind 12 (R125): a unit not in use answers with its number, its in-use indication and zeros; the direction, N and n of a
unit without a train are free values (log entry 8). -/
def counterAnswer (s : State) (u : UnitNo) : List Byte :=
  let x := s.units[u]
  if !x.inUse then byteOf u.val :: List.replicate 11 0
  else
    let t := trainOf s (.counter u)
    [byteOf u.val, 1, positionByte x.position, flagByte (s.closedByte x.top), flagByte (s.closedByte x.zero), refByte t] ++
      (match t.bind (fun t => s.trains[t]) with
      | some y => dirCode y.dir :: (bytes2 y.planned ++ bytes2 y.issued)
      | none => [Config.openByte 9, Config.openByte 10, Config.openByte 11, Config.openByte 12, Config.openByte 13]) ++
      [byteOf x.opposite]

/-- Kind 12: the unit's position, limit levels, train and pending opposite count (R125). -/
def answerCounter : Answerer := numbered counterAnswer

/-- Kind 13: the family code, revision 1, the node address and the numbers of its things (R161). -/
def answerIdentity : Answerer := fun s _ =>
  .ok ([0x24, 0x08, 1, s.port.address.setWidth 8] ++ [24, 32, 64, 32, 16, 12, 4, 4, 4])

/-- Kind 14: the readings, the flags and runs, the trip record and the latches (R139). -/
def answerMonitor : Answerer := fun s _ =>
  .ok ([s.mon.supply, flagByte s.mon.sag, byteOf s.mon.floorRun, s.mon.temp, flagByte s.mon.warm, byteOf s.mon.hotCount,
      tripCode s.mon.tripCause, refByte s.mon.tripChan, byteOf s.mon.trips] ++ halfBytes s.latches ++
    halfBytes s.settings.attention ++ [flagByte (attention s)])

/-- A lamp's byte: its level plus 16 times its mode (R161). -/
def lampByte (x : Lamp) : Byte := byteOf (x.level + 16 * modeCode x.mode)

/-- Kind 15: the lamp image, the blink half and the time left in it, and the master level in force (R152). -/
def answerLamps : Answerer := fun s _ =>
  .ok (s.lamps.toList.map lampByte ++ [flagByte s.blink.second] ++ bytes2 (s.msLeft (some s.blink.ends)) ++
    [byteOf (masterLevel s)])

/-- The answerer of a query kind; none for a kind that is not in the table (R157, R161). -/
def answererOf (kind : Byte) : Option Answerer :=
  match kind.toNat with
  | 1 => some answerSettings
  | 2 => some answerCoil
  | 3 => some answerInput
  | 4 => some answerRule
  | 5 => some answerBank
  | 6 => some answerCounterUnit
  | 7 => some answerRing
  | 8 => some answerChannel
  | 9 => some answerQueue
  | 10 => some answerTrain
  | 11 => some answerBankStatus
  | 12 => some answerCounter
  | 13 => some answerIdentity
  | 14 => some answerMonitor
  | 15 => some answerLamps
  | _ => none

/-- The bytes an answer writes from the third payload byte on, in a payload of `len` bytes: the status, and the record where the status is
OK; none where the payload cannot hold a status (R157). -/
def answerBytes (answer : Option Answerer) (s : State) (number : Byte) (len : Nat) : List Byte :=
  if len < 3 then []
  else match answer with
    | none => [reasonCode .kind]
    | some a =>
      match a s number with
      | .error why => [reasonCode why]
      | .ok record => if 3 + record.length ≤ len then 0 :: record else [reasonCode .range]

/-- The channels that are LOCKED (R131). -/
def lockedCount (s : State) : Nat := (s.chans.toList.filter Channel.isLocked).length

/-- The channels in heat alert (R37). -/
def alertCount (s : State) : Nat := ((List.finRange 24).filter fun c => heatAlert s.coils[c] s.heat[c].q).length

/-- The debounced levels as a mask (R72). -/
def levelsMask (s : State) : BitVec 32 :=
  (List.finRange 32).foldl (fun m i => if s.closed i then m ||| (1#32 <<< i.val) else m) 0

/-- The closure counts, two a byte, the even input in the low half (R161). -/
def countBytes (s : State) : List Byte :=
  (List.finRange 16).map fun i =>
    byteOf (s.inputs[2 * i.val].count + 16 * s.inputs[2 * i.val + 1].count)

/-- The byte of a source of a refusal (R160). -/
def askerByte : Asker → Byte
  | .order tag => tag
  | .rule n => byteOf n.val

/-- The last refusal reason, plus 128 where the source is a rule (R161). -/
def reasonByte (p : Port) : Byte :=
  (match p.lastReason with
    | some r => reasonCode r
    | none => 0) +
  (match p.lastAsker with
    | .rule _ => 128
    | .order _ => 0)

/-- The bank states, bank i in the two bits of weight 4^i (R161). -/
def banksByte (s : State) : Byte :=
  byteOf ((List.finRange 4).foldl (fun n b => n + bankCode s.banks[b] * 4 ^ b.val) 0)

/-- The 32 bytes of the node's sweep slot, all of one snapshot (R158, R161). -/
def sweepSlot (s : State) : List Byte :=
  [nodeCode s.node.st + (if attention s then 128 else 0)] ++ halfBytes s.latches ++ mask32Bytes (levelsMask s) ++
    countBytes s ++
    [byteOf s.port.refusals, askerByte s.port.lastAsker, reasonByte s.port, byteOf s.port.damage, byteOf s.dropped,
      wakeCode s.node.wake, byteOf (lockedCount s), byteOf (alertCount s), banksByte s]

end Sys2Proof.Machine
end

