-- ==== Sys2Proof/Machine/Port.lean ====
section
/-! DEFINITION. The Chain Port: forwarding, the checks, the end of a frame, answers written in place, sweep slots and abandoned frames
(R153 to R160). A row that is a frame is the whole event from its first byte to its end; `port.downstream` takes the bytes sent. -/

namespace Sys2Proof.Machine

/-- The node address as a destination byte. -/
def ownAddress (s : State) : Byte := s.port.address.setWidth 8

/-- A frame is addressed to the node when its destination is the node's address or 0; a node strapped to address 0 acts on nothing
(R153). -/
def addressed (s : State) (f : Head) : Bool := s.port.address != 0 && (f.dest == 0 || f.dest == ownAddress s)

/-- The end of a frame whose header check passed, in one event: with a failing payload check only the damage is counted; with a good one the
silence timer is restarted, a CHAIN-LOST node enters SAFE, and the frame is acted on (R155, R156, R159, R167). -/
def frameEnd (f : Head) (act : State → State) (s : State) : State :=
  if f.damage = 0 then arbitrate (act (goodFrameEnd s)) else damageSeen s

/-- A frame that the port does not alter passes, and is acted on at its end (R153, R156). A node strapped to address 0 forwards it and
does nothing else. -/
def plainFrame (bytes : List Byte) (f : Head) (act : State → State) (s : State) : State :=
  let s := s.setDownstream bytes
  if s.port.address = 0 then s else frameEnd f act s

/-- An ORDER or LOAD frame: executed at its end where it is addressed to the node (R156). -/
def orderFrame (i : Instr) (f : Head) (act : State → State) (s : State) : State :=
  plainFrame (encodeFrame i) f (if addressed s f then act else id) s

/-! ### Queries (R157) -/

/-- Bytes written over the bytes of a payload from a place on; nothing is written past its end. -/
def overwrite (at_ : Nat) (new old : List Byte) : List Byte :=
  (old.take at_ ++ new ++ old.drop (at_ + new.length)).take old.length

/-- The payload check the port sends in place of the received one for a payload it has written into: correct where the incoming check
passed, its complement otherwise (R155). -/
def sentCheck (damage : Half) (payload : List Byte) : Half :=
  if damage = 0 then crc16 payload else ~~~(crc16 payload)

/-- A whole frame as sent: `received` is the payload that came in and `payload` the one that goes out. -/
def sentFrame (kind : Byte) (f : Head) (received payload : List Byte) (wrote : Bool) : List Byte :=
  let h := headerBytes kind f received
  h ++ [crc8 h] ++ payload ++
    halfBytes (if wrote then sentCheck f.damage payload else crc16 received ^^^ f.damage)

/-- The payload of a query as sent: the answer overwrites it from the third byte on (R157). `len` is the length the header gives and
`received` what has arrived of the payload. -/
def answeredPayload (answer : Option Answerer) (s : State) (len : Nat) (received : List Byte) : List Byte :=
  overwrite 2 (answerBytes answer s (received.getD 1 0) len) received

/-- A query whose destination is the node's own address is the one it answers (R157). -/
def answersQuery (s : State) (f : Head) : Bool := s.port.address != 0 && f.dest == ownAddress s

/-- The bytes sent downstream for a query with this payload (R157, R155). Into a payload of fewer than 3 bytes nothing is written: its header
check is made anew and its payload check goes on as received, failing where it failed: DESIGN CHOICE, log entry 30. -/
def querySent (f : Head) (payload : List Byte) (answer : Option Answerer) (s : State) : List Byte :=
  if answersQuery s f then
    sentFrame 4 f payload (answeredPayload answer s payload.length payload) (decide (3 ≤ payload.length))
  else frameBytes 3 f payload

/-- A QUERY frame: answered as it passes, from the state before its end; nothing else is done at its end (R157). -/
def queryFrame (f : Head) (payload : List Byte) (answer : Option Answerer) (s : State) : State :=
  plainFrame (querySent f payload answer s) f id s

/-! ### Sweeps (R158) -/

/-- The node writes a slot of a sweep: the frame is well formed and its range takes in the node's address (R158). -/
def writesSlot (s : State) (f : Head) (first count : Byte) (slots : List Byte) : Bool :=
  s.port.address != 0 && sweepShape f count slots &&
    decide (first.toNat ≤ s.port.address.toNat) && decide (s.port.address.toNat < first.toNat + count.toNat)

/-- Where the node's slot begins among the slots' bytes (R158). -/
def slotPlace (s : State) (first : Byte) : Nat := 32 * (s.port.address.toNat - first.toNat)

/-- The bytes sent downstream for a sweep (R158, R155). -/
def sweepSent (f : Head) (first count : Byte) (slots : List Byte) (s : State) : List Byte :=
  let payload := [first, count] ++ slots
  if writesSlot s f first count slots then
    sentFrame 5 f payload ([first, count] ++ overwrite (slotPlace s first) (sweepSlot s) slots) true
  else frameBytes 5 f payload

/-- A SWEEP frame: the slot is written and the counts moved to the pending record in one moment, the samples that fall between the slot and the
frame's end are taken, and the frame's end settles the pending record (R72, R158). -/
def sweepFrame (f : Head) (first count : Byte) (slots : List Byte) (during : List Sample) (s : State) : State :=
  let writes := writesSlot s f first count slots
  let bytes := sweepSent f first count slots s
  let s := if writes then moveToPending s else s
  let s := during.foldl (fun s x => sampleInputs x s) s
  plainFrame bytes f id (if writes then settlePending (f.damage == 0) s else s)

/-! ### Frames that fail (R154, R155) -/

/-- The bytes sent for a frame whose header check fails: unchanged, but for a QUERY to the node's own address, whose kind byte has already been
rewritten and whose header check is sent as the complement of the correct one (R154). -/
def badHeaderSent (s : State) (bytes : List Byte) : List Byte :=
  match bytes with
  | b0 :: dest :: kind :: tag :: len :: _ :: rest =>
    if kind = 3 ∧ s.port.address ≠ 0 ∧ dest = ownAddress s then
      [b0, dest, 4, tag, len, ~~~(crc8 [b0, dest, 4, tag, len])] ++ rest
    else bytes
  | _ => bytes

/-- A frame whose header check fails: its damage is counted and nothing in it is acted on (R154). -/
def badHeaderFrame (bytes : List Byte) (s : State) : State :=
  let t := s.setDownstream (badHeaderSent s bytes)
  if s.port.address = 0 then t else damageSeen t

/-- The payload of an abandoned frame as sent, and whether the node had written into it: the answer or the slot as far as the bytes had
arrived (R153, R157, R158). -/
def abandonedPayload (s : State) (kind : Byte) (f : Head) (len : Nat) (received : List Byte) : List Byte × Bool :=
  if kind = 3 then
    if answersQuery s f then
      (answeredPayload (answererOf (received.getD 0 0)) s len received, decide (3 ≤ len) && decide (2 < received.length))
    else (received, false)
  else if kind = 5 then
    match received with
    | first :: count :: slots =>
      if writesSlot s f first count (List.replicate (len - 2) 0) then
        ([first, count] ++ overwrite (slotPlace s first) (sweepSlot s) slots, decide (slotPlace s first < slots.length))
      else (received, false)
    | _ => (received, false)
  else (received, false)

/-- The bytes sent for a frame that stops before its end: they stop where the upstream stopped; a check byte received after the node's writing is
sent as its own complemented check's (R153, R155; log entry 13). -/
def abandonedSent (s : State) (bytes : List Byte) : List Byte :=
  match bytes with
  | b0 :: dest :: kind :: rest =>
    let own := kind == 3 && s.port.address != 0 && dest == ownAddress s
    let kind' : Byte := if own then 4 else kind
    match rest with
    | tag :: len :: check :: body =>
      let (payload, wrote) := abandonedPayload s kind ⟨dest, tag, 0⟩ len.toNat (body.take len.toNat)
      let tail := body.drop len.toNat
      let check' := if own then crc8 [b0, dest, kind', tag, len] else check
      [b0, dest, kind', tag, len, check'] ++ payload ++
        (if wrote then (halfBytes (~~~(crc16 payload))).take tail.length else tail)
    | _ => [b0, dest, kind'] ++ rest
  | _ => bytes

/-- Whether the slot of an abandoned sweep had been begun, so that a pending record exists (R72). -/
def slotBegun (s : State) (bytes : List Byte) : Bool :=
  match bytes with
  | _ :: dest :: kind :: tag :: len :: _ :: body =>
    kind == 5 && (abandonedPayload s kind ⟨dest, tag, 0⟩ len.toNat (body.take len.toNat)).2
  | _ => false

/-- An abandoned frame: treated as one whose payload check failed, its pending record returned (R153, R155, R72). -/
def abandonedFrame (bytes : List Byte) (s : State) : State :=
  let t := s.setDownstream (abandonedSent s bytes)
  if s.port.address = 0 then t
  else damageSeen (if slotBegun s bytes then settlePending false (moveToPending t) else t)

end Sys2Proof.Machine
end

