-- ==== Sys2Proof/Machine/Orders.lean ====
section
/-! DEFINITION. The 19 orders (R9, R18, R22, R73, R78, R79, R103, R104, R109, R116, R120, R131, R138, R146, R147, R149, R163, R165,
R166, R169): what each does at the end of its frame, and the meaning of each order's row. -/

namespace Sys2Proof.Machine

/-! ### What an order does when it is executed -/

/-- The Pulse, Run, Add, Zero and Step orders are refused with State outside LIVE, before any other check (R169). -/
def inLive (tag : Byte) (act : State → State) (s : State) : State :=
  if s.node.st = .live then act s else refuseOrder tag .state s

/-- A reference in an order: refused with Range where it names nothing (R156). -/
def withRef (tag : Byte) (n : Nat) (b : Byte) (act : Fin n → State → State) (s : State) : State :=
  match refOf n b with
  | some i => act i s
  | none => refuseOrder tag .range s

/-- Go (R163). An order never reaches the node in CHAIN-LOST (R167). -/
def obeyGo (tag : Byte) (s : State) : State :=
  match s.node.st with
  | .safe => enterArming s
  | .arming => s
  | .live => s
  | .quiet => enterArming (s.setNode { s.node with wake := .goOrder })
  | .chainLost => s
  | .tripped => refuseOrder tag .state s

/-- Quiet (R166). -/
def obeyQuiet (tag : Byte) (mask : BitVec 32) (s : State) : State :=
  match s.node.st with
  | .safe => enterQuiet mask s
  | .arming => enterQuiet mask s
  | .live => enterQuiet mask s
  | .quiet => s.setNode { s.node with wakeMask := mask }
  | .chainLost => s
  | .tripped => refuseOrder tag .state s

/-- Pulse (R9). -/
def obeyPulse (tag channel override : Byte) (s : State) : State :=
  inLive tag (withRef tag 24 channel fun c s =>
    match driveRefusal s c with
    | some why => refuseOrder tag why s
    | none => submitPulse c .order (.order tag) false override.toNat s) s

/-- The RULE and ORDER entries of a channel are withdrawn (R18). -/
def withdrawPulses (c : Chan) (s : State) : State :=
  withdraw (fun e => e.channel == c && (e.cls == .rule || e.cls == .order)) s

/-- Release (R18). -/
def obeyRelease (tag channel : Byte) (s : State) : State :=
  withRef tag 24 channel (fun c s =>
    if claimed s c then refuseOrder tag .claimed s else withdrawPulses c (endDrive c s)) s

/-- Arm (R78). -/
def obeyArm (mask : Byte) (s : State) : State := { s with armed := s.armed ||| mask }

/-- An entry is a RULE Pulse whose source is a rule that satisfies `p` (R77, R79). -/
def rulePulse (p : RuleNo → Bool) (e : Entry) : Bool :=
  match e.source with
  | .rule n => e.cls == .rule && p n
  | _ => false

/-- Disarm (R79). -/
def obeyDisarm (mask : Byte) (s : State) : State :=
  let s := { s with armed := s.armed &&& ~~~mask }
  let s := endFlipWork (fun x => mask.getLsbD x.group.val) s
  withdraw (rulePulse fun n => mask.getLsbD s.rules[n].group.val) s

/-- The Run order's own work on a channel that passes its checks (R103): its bare train is extended, or one is started. -/
def runOn (tag : Byte) (c : Chan) (count : Nat) (p : Profile) (s : State) : State :=
  match trainOn s c with
  | some t =>
    match extend t count s with
    | some s => s
    | none => refuseOrder tag .overflow s
  | none =>
    match firstFree s with
    | some t => enterWait t { state := .wait, owner := .bare, channel := c, planned := count, profile := p } s
    | none => refuseOrder tag .busy s

/-- Run (R103). -/
def obeyRun (tag channel count : Byte) (startIv floorIv : Half) (ramp idle : Byte) (s : State) : State :=
  inLive tag (withRef tag 24 channel fun c s =>
    match driveRefusal s c with
    | some why => refuseOrder tag why s
    | none => runOn tag c (clamp 1 255 count.toNat) (profileOf startIv floorIv ramp idle) s) s

/-- The cancelling of an owner's train, where it has one (R104). -/
def cancelOf (t : Option TrainNo) (s : State) : State :=
  match t with
  | some t => cancelTrain t s
  | none => s

/-- Cancel (R104). -/
def obeyCancel (tag target number : Byte) (s : State) : State :=
  match target.toNat with
  | 0 => withRef tag 24 number (fun c s =>
      if claimed s c then refuseOrder tag .claimed s else cancelOf (trainOn s c) s) s
  | 1 => withRef tag 4 number (fun u s => cancelOf (trainOf s (.counter u)) s) s
  | 2 => withRef tag 4 number (fun b s => cancelBank b s) s
  | _ => refuseOrder tag .range s

/-- Add (R109): a value of 0 that passes the bank-number check is taken without effect. -/
def obeyAdd (tag bank : Byte) (value : BitVec 24) (s : State) : State :=
  inLive tag (withRef tag 4 bank fun b s =>
    let v := clamp 0 99999 value.toNat
    if v = 0 then s else requestAdd (.order tag) b v s) s

/-- Zero (R116). -/
def obeyZero (tag bank : Byte) (s : State) : State :=
  inLive tag (withRef tag 4 bank fun b s =>
    match zeroRefusal s b with
    | some why => refuseOrder tag why s
    | none => takeZero b s) s

/-- Step (R120): a count of 0 that passes the unit-number check is taken without effect. -/
def obeyStep (tag unit count : Byte) (s : State) : State :=
  inLive tag (withRef tag 4 unit fun u s =>
    let n := stepCount count
    if n = 0 then s else requestStep (.order tag) u n s) s

/-- Lock (R131). -/
def obeyLock (tag channel : Byte) (s : State) : State :=
  withRef tag 24 channel (fun c s => lockChannel c .manual s) s

/-- A LOCKED channel returns to service with a clean protection record (R22, R127). -/
def unlockChannel (c : Chan) (s : State) : State :=
  if s.chans[c].isLocked then
    becomeIdle c (s.setGuard c { s.guards[c] with cause := none, strikes := 0, shortRun := 0, leakRun := 0 })
  else s

/-- Unlock (R22, R127). -/
def obeyUnlock (tag channel : Byte) (s : State) : State :=
  withRef tag 24 channel (fun c s =>
    if s.node.st = .tripped then refuseOrder tag .state s else unlockChannel c s) s

/-- Whether a run of lamps breaks the bounds of R146 and R147, or is not as long as it counts (R156). -/
def runRefused (first count : Byte) (items : Nat) : Bool :=
  decide (63 < first.toNat) || decide (64 < first.toNat + count.toNat) || items != count.toNat

/-- SetLamps (R146). -/
def obeySetLamps (tag first count : Byte) (levels : List Byte) (s : State) : State :=
  if runRefused first count levels.length then refuseOrder tag .range s else setRunLevels first.toNat levels s

/-- SetModes (R147). -/
def obeySetModes (tag first count : Byte) (modes : List Byte) (s : State) : State :=
  if runRefused first count modes.length then refuseOrder tag .range s
  else match modes.mapM modeOf with
    | some ms => setRunModes first.toNat ms s
    | none => refuseOrder tag .range s

/-- Move (R149, R150). -/
def obeyMove (tag ring count : Byte) (s : State) : State :=
  withRef tag 4 ring (fun r s =>
    if s.rings[r].members.isEmpty then refuseOrder tag .range s else moveRing r (signed count) s) s

/-! ### The rows -/

/-- GO (R163, R156). -/
def execGo (f : Head) (s : State) : Host.Outcome State Fault Refusal :=
  .next (orderFrame (.go f) f (obeyGo f.tag) s)

/-- QUIET (R166, R156). -/
def execQuiet (f : Head) (mask : BitVec 32) (s : State) : Host.Outcome State Fault Refusal :=
  .next (orderFrame (.quiet f mask) f (obeyQuiet f.tag mask) s)

/-- RESET (R165, R156). -/
def execReset (f : Head) (s : State) : Host.Outcome State Fault Refusal :=
  .next (orderFrame (.reset f) f softReset s)

/-- PULSE (R9, R169). -/
def execPulse (f : Head) (channel override : Byte) (s : State) : Host.Outcome State Fault Refusal :=
  .next (orderFrame (.pulse f channel override) f (obeyPulse f.tag channel override) s)

/-- RELEASE (R18). -/
def execRelease (f : Head) (channel : Byte) (s : State) : Host.Outcome State Fault Refusal :=
  .next (orderFrame (.release f channel) f (obeyRelease f.tag channel) s)

/-- ARM (R78). -/
def execArm (f : Head) (mask : Byte) (s : State) : Host.Outcome State Fault Refusal :=
  .next (orderFrame (.arm f mask) f (obeyArm mask) s)

/-- DISARM (R79). -/
def execDisarm (f : Head) (mask : Byte) (s : State) : Host.Outcome State Fault Refusal :=
  .next (orderFrame (.disarm f mask) f (obeyDisarm mask) s)

/-- RUN (R103, R169). -/
def execRun (f : Head) (channel count : Byte) (startIv floorIv : Half) (ramp idle : Byte) (s : State) :
    Host.Outcome State Fault Refusal :=
  .next (orderFrame (.run f channel count startIv floorIv ramp idle) f
    (obeyRun f.tag channel count startIv floorIv ramp idle) s)

/-- CANCEL (R104). -/
def execCancel (f : Head) (target number : Byte) (s : State) : Host.Outcome State Fault Refusal :=
  .next (orderFrame (.cancel f target number) f (obeyCancel f.tag target number) s)

/-- ADD (R109, R110, R169). -/
def execAdd (f : Head) (bank : Byte) (value : BitVec 24) (s : State) : Host.Outcome State Fault Refusal :=
  .next (orderFrame (.add f bank value) f (obeyAdd f.tag bank value) s)

/-- ZERO (R116, R169). -/
def execZero (f : Head) (bank : Byte) (s : State) : Host.Outcome State Fault Refusal :=
  .next (orderFrame (.zero f bank) f (obeyZero f.tag bank) s)

/-- STEP (R120, R121, R169). -/
def execStep (f : Head) (unit count : Byte) (s : State) : Host.Outcome State Fault Refusal :=
  .next (orderFrame (.step f unit count) f (obeyStep f.tag unit count) s)

/-- LOCK (R131, R21). -/
def execLock (f : Head) (channel : Byte) (s : State) : Host.Outcome State Fault Refusal :=
  .next (orderFrame (.lock f channel) f (obeyLock f.tag channel) s)

/-- UNLOCK (R22). -/
def execUnlock (f : Head) (channel : Byte) (s : State) : Host.Outcome State Fault Refusal :=
  .next (orderFrame (.unlock f channel) f (obeyUnlock f.tag channel) s)

/-- SET_LAMPS (R146). -/
def execSetLamps (f : Head) (first count : Byte) (levels : List Byte) (s : State) : Host.Outcome State Fault Refusal :=
  .next (orderFrame (.setLamps f first count levels) f (obeySetLamps f.tag first count levels) s)

/-- SET_MODES (R147). -/
def execSetModes (f : Head) (first count : Byte) (modes : List Byte) (s : State) : Host.Outcome State Fault Refusal :=
  .next (orderFrame (.setModes f first count modes) f (obeySetModes f.tag first count modes) s)

/-- MOVE (R149, R150). -/
def execMove (f : Head) (ring count : Byte) (s : State) : Host.Outcome State Fault Refusal :=
  .next (orderFrame (.move f ring count) f (obeyMove f.tag ring count) s)

/-- ACKNOWLEDGE (R138). -/
def execAcknowledge (f : Head) (mask : Half) (s : State) : Host.Outcome State Fault Refusal :=
  .next (orderFrame (.acknowledge f mask) f (clearLatches mask) s)

/-- CLEAR_COUNTS (R73). -/
def execClearCounts (f : Head) (mask : BitVec 32) (s : State) : Host.Outcome State Fault Refusal :=
  .next (orderFrame (.clearCounts f mask) f (clearCountsOf mask) s)

end Sys2Proof.Machine
end

