-- ==== Sys2Proof/Machine/Loads.lean ====
section
/-! DEFINITION. The seven table loads (R1, R2, R20, R38, R50, R64, R67, R76, R77, R107, R118, R127, R148): what each does at the end of its
frame, and the meaning of each load's row. -/

namespace Sys2Proof.Machine

/-- The node settings record is replaced, and a pass is made (R50, R54). -/
def storeSettings (r : SettingsRec) (s : State) : State := State.callPass { s with settings := settingsOf r }

/-- What a taken coil load leaves of the heat account, and the HeatAlert latch where the load brings the channel into heat alert (R38). -/
def reheat (c : Chan) (old new : Coil) (s : State) : State :=
  let x := s.heat[c]
  let q := min new.l x.q
  setLatchIf (!heatAlert old x.q && heatAlert new q) .heatAlert (s.setHeat c { x with q := q })

/-- What a taken coil load leaves of the protection record: the strikes go where no open check is made (R127), but those of a LOCKED channel are untouched,
as is its lock cause (R2): DEDUCED, log entry 27. -/
def reguard (c : Chan) (new : Coil) (s : State) : State :=
  if new.openFloor = 0 ∧ s.chans[c].act ≠ .locked then
    s.setGuard c { s.guards[c] with strikes := 0 }
  else s

/-- A channel is IDLE or LOCKED (R2). -/
def Channel.atRest (x : Channel) : Bool :=
  match x.act with
  | .idle => true
  | .locked => true
  | _ => false

/-- A load of a coil record (R2, R38, R127). -/
def storeCoil (tag : Byte) (r : CoilRec) (s : State) : State :=
  withRef tag 24 r.channel (fun c s =>
    if !s.chans[c].atRest ∨ (trainOn s c).isSome then refuseOrder tag .busy s
    else
      let k := coilOf r
      reguard c k (reheat c s.coils[c] k ((withdrawAll c s).setCoil c k))) s

/-- What a taken input load makes of the input (R67). -/
def Input.loaded (x : Input) (closedHigh : Bool) (d : Debounce) : Input :=
  if closedHigh ≠ x.closedHigh then
    { x with closedHigh := closedHigh, debounce := d, closed := x.raw == closedHigh, since := none }
  else if d ≠ x.debounce then { x with debounce := d, since := none }
  else x

/-- A load of an input record (R64, R67). -/
def storeInput (tag : Byte) (r : InputRec) (s : State) : State :=
  withRef tag 32 r.input (fun i s =>
    match debounceOf r.debounce with
    | some d =>
      if 1 < r.polarity.toNat then refuseOrder tag .range s
      else s.setInput i (s.inputs[i].loaded (r.polarity == 1) d)
    | none => refuseOrder tag .range s) s

/-- The work of a rule that is replaced is brought to an end (R77). -/
def endRuleWork (n : RuleNo) (s : State) : State :=
  withdraw (rulePulse fun m => m == n) (endFlipWork (fun x => x.rule == n) s)

/-- A load of a rule (R76, R77). -/
def storeRule (tag : Byte) (r : RuleRec) (s : State) : State :=
  withRef tag 32 r.rule (fun n s =>
    match ruleOf r with
    | none => refuseOrder tag .range s
    | some x =>
      if x.action.channel?.any (claimed s) then refuseOrder tag .claimed s
      else ((endRuleWork n s).setHoldoff n none).setRule n x) s

/-- The FLIP, RULE and ORDER entries of a channel that a bank or unit claims are withdrawn, and the context of a Flip among them
discarded (R20, R48). -/
def clearClaimed (c : Chan) (s : State) : State :=
  setWaiting c none (withdraw (fun e => e.channel == c && e.cls != .step) s)

/-- A channel a bank or unit load names is in use: it has a train context or is KICKING or HOLDING (R20). -/
def inWork (s : State) (c : Chan) : Bool := (trainOn s c).isSome || s.chans[c].driven

/-- A load of a bank record (R20, R107). -/
def storeBank (tag : Byte) (r : BankRec) (s : State) : State :=
  withRef tag 4 r.bank (fun b s =>
    if r.reels.length ≠ 5 then refuseOrder tag .range s
    else match reelsOf r with
      | none => refuseOrder tag .range s
      | some reels =>
        let named := reels.map (·.channel)
        if named.any (claimedBesideBank s b) ∨ ¬ named.Nodup then refuseOrder tag .claimed s
        else if !(bankTrains s b).isEmpty ∨ named.any (inWork s) then refuseOrder tag .busy s
        else
          (named.foldl (fun s c => clearClaimed c s) s).setBank b
            { reels := reels, profile := profileOf r.startIv r.floorIv r.ramp r.idle }) s

/-- The position a unit load takes from the limits (R118). -/
def positionFrom (s : State) (x : CounterUnit) : Option Nat :=
  match s.closedByte x.top, s.closedByte x.zero with
  | true, false => some x.maximum
  | false, true => some 0
  | _, _ => none

/-- Why a load of a unit in use is refused, its channels given (R118). -/
def unitRefusal (s : State) (u : UnitNo) (up down : Chan) : Option Reason :=
  if claimedBesideUnit s u up ∨ claimedBesideUnit s u down ∨ up = down then some .claimed
  else if (trainOf s (.counter u)).isSome ∨ inWork s up ∨ inWork s down then some .busy
  else none

/-- A load of a counter-unit record (R20, R118): a record not in use is checked for its unit number and the unit's train alone. -/
def storeUnit (tag : Byte) (r : UnitRec) (s : State) : State :=
  withRef tag 4 r.unit (fun u s =>
    let x := unitOf r
    let taken := fun s : State => s.setUnit u { x with position := positionFrom s x }
    if x.inUse then
      match refOf 24 r.up, refOf 24 r.down, refOf 32 r.top, refOf 32 r.zero with
      | some up, some down, some top, some zero =>
        if top = zero then refuseOrder tag .range s
        else match unitRefusal s u up down with
          | some why => refuseOrder tag why s
          | none => taken (clearClaimed down (clearClaimed up s))
      | _, _, _, _ => refuseOrder tag .range s
    else if (trainOf s (.counter u)).isSome then refuseOrder tag .busy s
    else taken s) s

/-- A lamp is a member of a ring other than the one given (R148). -/
def inOtherRing (s : State) (r : RingNo) (l : LampNo) : Bool :=
  (List.finRange 4).any fun i => i != r && s.rings[i].members.contains l

/-- The ring record a load makes, its chase timer started afresh where there is a chase (R148, R151). A load of length 0 and a chase period above 0
keeps the period and starts no timer: DESIGN CHOICE, log entry 33. -/
def ringLoaded (s : State) (members : List LampNo) (period : Nat) : Ring :=
  { members := members, period := period,
    timer := if members.isEmpty ∨ period = 0 then none else some (s.after period) }

/-- A load of a ring record (R148). -/
def storeRing (tag : Byte) (r : RingRec) (s : State) : State :=
  withRef tag 4 r.ring (fun n s =>
    if r.members.length ≠ 16 then refuseOrder tag .range s
    else match membersOf r with
      | none => refuseOrder tag .range s
      | some ms =>
        if ¬ ms.Nodup ∨ ms.any (inOtherRing s n) then refuseOrder tag .claimed s
        else s.setRing n (ringLoaded s ms (chaseOf r.chase))) s

/-! ### The rows -/

/-- LOAD_NODE_SETTINGS (R50). -/
def execLoadNodeSettings (f : Head) (r : SettingsRec) (s : State) : Host.Outcome State Fault Refusal :=
  .next (orderFrame (.loadNodeSettings f r) f (storeSettings r) s)

/-- LOAD_COIL (R2). -/
def execLoadCoil (f : Head) (r : CoilRec) (s : State) : Host.Outcome State Fault Refusal :=
  .next (orderFrame (.loadCoil f r) f (storeCoil f.tag r) s)

/-- LOAD_INPUT (R67). -/
def execLoadInput (f : Head) (r : InputRec) (s : State) : Host.Outcome State Fault Refusal :=
  .next (orderFrame (.loadInput f r) f (storeInput f.tag r) s)

/-- LOAD_RULE (R77). -/
def execLoadRule (f : Head) (r : RuleRec) (s : State) : Host.Outcome State Fault Refusal :=
  .next (orderFrame (.loadRule f r) f (storeRule f.tag r) s)

/-- LOAD_BANK (R107). -/
def execLoadBank (f : Head) (r : BankRec) (s : State) : Host.Outcome State Fault Refusal :=
  .next (orderFrame (.loadBank f r) f (storeBank f.tag r) s)

/-- LOAD_UNIT (R118). -/
def execLoadUnit (f : Head) (r : UnitRec) (s : State) : Host.Outcome State Fault Refusal :=
  .next (orderFrame (.loadUnit f r) f (storeUnit f.tag r) s)

/-- LOAD_RING (R148). -/
def execLoadRing (f : Head) (r : RingRec) (s : State) : Host.Outcome State Fault Refusal :=
  .next (orderFrame (.loadRing f r) f (storeRing f.tag r) s)

end Sys2Proof.Machine
end

