-- ==== Sys2Proof/Machine/Queries.lean ====
section
/-! DEFINITION. The meanings of the query rows: each is answered in place, as its frame passes, under the rule of its kind (R157). -/

namespace Sys2Proof.Machine

/-- QUERY_NODE_SETTINGS (R157). -/
def execQueryNodeSettings (f : Head) (number : Byte) (rest : List Byte) (s : State) : Host.Outcome State Fault Refusal :=
  .next (queryFrame f (1 :: number :: rest) (some answerSettings) s)

/-- QUERY_COIL (R157). -/
def execQueryCoil (f : Head) (number : Byte) (rest : List Byte) (s : State) : Host.Outcome State Fault Refusal :=
  .next (queryFrame f (2 :: number :: rest) (some answerCoil) s)

/-- QUERY_INPUT (R74). -/
def execQueryInput (f : Head) (number : Byte) (rest : List Byte) (s : State) : Host.Outcome State Fault Refusal :=
  .next (queryFrame f (3 :: number :: rest) (some answerInput) s)

/-- QUERY_RULE (R90). -/
def execQueryRule (f : Head) (number : Byte) (rest : List Byte) (s : State) : Host.Outcome State Fault Refusal :=
  .next (queryFrame f (4 :: number :: rest) (some answerRule) s)

/-- QUERY_BANK (R157). -/
def execQueryBank (f : Head) (number : Byte) (rest : List Byte) (s : State) : Host.Outcome State Fault Refusal :=
  .next (queryFrame f (5 :: number :: rest) (some answerBank) s)

/-- QUERY_COUNTER_UNIT (R157). -/
def execQueryCounterUnit (f : Head) (number : Byte) (rest : List Byte) (s : State) : Host.Outcome State Fault Refusal :=
  .next (queryFrame f (6 :: number :: rest) (some answerCounterUnit) s)

/-- QUERY_RING (R152). -/
def execQueryRing (f : Head) (number : Byte) (rest : List Byte) (s : State) : Host.Outcome State Fault Refusal :=
  .next (queryFrame f (7 :: number :: rest) (some answerRing) s)

/-- QUERY_CHANNEL_STATUS (R23, R39, R139). -/
def execQueryChannelStatus (f : Head) (number : Byte) (rest : List Byte) (s : State) : Host.Outcome State Fault Refusal :=
  .next (queryFrame f (8 :: number :: rest) (some answerChannel) s)

/-- QUERY_QUEUE_SNAPSHOT (R63). -/
def execQueryQueueSnapshot (f : Head) (number : Byte) (rest : List Byte) (s : State) : Host.Outcome State Fault Refusal :=
  .next (queryFrame f (9 :: number :: rest) (some answerQueue) s)

/-- QUERY_TRAIN_STATUS (R106). -/
def execQueryTrainStatus (f : Head) (number : Byte) (rest : List Byte) (s : State) : Host.Outcome State Fault Refusal :=
  .next (queryFrame f (10 :: number :: rest) (some answerTrain) s)

/-- QUERY_BANK_STATUS (R124). -/
def execQueryBankStatus (f : Head) (number : Byte) (rest : List Byte) (s : State) : Host.Outcome State Fault Refusal :=
  .next (queryFrame f (11 :: number :: rest) (some answerBankStatus) s)

/-- QUERY_COUNTER_STATUS (R125). -/
def execQueryCounterStatus (f : Head) (number : Byte) (rest : List Byte) (s : State) : Host.Outcome State Fault Refusal :=
  .next (queryFrame f (12 :: number :: rest) (some answerCounter) s)

/-- QUERY_IDENTITY (R161). -/
def execQueryIdentity (f : Head) (number : Byte) (rest : List Byte) (s : State) : Host.Outcome State Fault Refusal :=
  .next (queryFrame f (13 :: number :: rest) (some answerIdentity) s)

/-- QUERY_MONITOR (R139). -/
def execQueryMonitor (f : Head) (number : Byte) (rest : List Byte) (s : State) : Host.Outcome State Fault Refusal :=
  .next (queryFrame f (14 :: number :: rest) (some answerMonitor) s)

/-- QUERY_LAMP_IMAGE (R152). -/
def execQueryLampImage (f : Head) (number : Byte) (rest : List Byte) (s : State) : Host.Outcome State Fault Refusal :=
  .next (queryFrame f (15 :: number :: rest) (some answerLamps) s)

end Sys2Proof.Machine
end

