-- ==== Sys2Proof/Machine/Frames.lean ====
section
/-! DEFINITION. Whatever bytes reach the port between two stretches of idle line, and the meanings of the rows FRAME, FRAME_ABANDONED, SWEEP
and POWER_ON_RESET (R153 to R158, R162). -/

namespace Sys2Proof.Machine

/-- What an order or load does when it is executed; a command that is neither does nothing here (R156). -/
def act (i : Instr) : State → State :=
  match i with
  | .go f => obeyGo f.tag
  | .quiet f m => obeyQuiet f.tag m
  | .reset _ => softReset
  | .pulse f c k => obeyPulse f.tag c k
  | .release f c => obeyRelease f.tag c
  | .arm _ m => obeyArm m
  | .disarm _ m => obeyDisarm m
  | .run f c n si fi d k => obeyRun f.tag c n si fi d k
  | .cancel f t n => obeyCancel f.tag t n
  | .add f b v => obeyAdd f.tag b v
  | .zero f b => obeyZero f.tag b
  | .step f u n => obeyStep f.tag u n
  | .lock f c => obeyLock f.tag c
  | .unlock f c => obeyUnlock f.tag c
  | .setLamps f a n ls => obeySetLamps f.tag a n ls
  | .setModes f a n ms => obeySetModes f.tag a n ms
  | .move f r n => obeyMove f.tag r n
  | .acknowledge _ m => clearLatches m
  | .clearCounts _ m => clearCountsOf m
  | .loadNodeSettings _ r => storeSettings r
  | .loadCoil f r => storeCoil f.tag r
  | .loadInput f r => storeInput f.tag r
  | .loadRule f r => storeRule f.tag r
  | .loadBank f r => storeBank f.tag r
  | .loadUnit f r => storeUnit f.tag r
  | .loadRing f r => storeRing f.tag r
  | _ => id

/-- The reason an order or load that cannot be read is refused with (R156). -/
def misreadReason : Misread → Reason
  | .kind => .kind
  | .range => .range

/-- The execution of an order's or load's payload (R156). -/
def actOn (tag : Byte) (read : Except Misread Instr) : State → State :=
  match read with
  | .ok i => act i
  | .error e => refuseOrder tag (misreadReason e)

/-- A whole frame with a good header check (R155 to R158): an order, a load, a query, a sweep, or a frame of another kind, which is forwarded
and counts at its end as a frame in good order. -/
def wholeFrame (kind : Byte) (f : Head) (payload : List Byte) (s : State) : State :=
  match kind.toNat with
  | 1 => plainFrame (frameBytes kind f payload) f (if addressed s f then actOn f.tag (decodeOrder f payload) else id) s
  | 2 => plainFrame (frameBytes kind f payload) f (if addressed s f then actOn f.tag (decodeLoad f payload) else id) s
  | 3 => queryFrame f payload (answererOf (payload.getD 0 0)) s
  | 5 =>
    match payload with
    | first :: count :: slots => sweepFrame f first count slots [] s
    | _ => plainFrame (frameBytes kind f payload) f id s
  | _ => plainFrame (frameBytes kind f payload) f id s

/-- The bytes received after a frame's end are forwarded and ignored (R153). -/
def forwardAlso (extra : List Byte) (s : State) : State := s.setDownstream (s.port.downstream ++ extra)

/-- Bytes between two stretches of idle line reach the port (R153 to R158). -/
def portFrame (bytes : List Byte) (s : State) : State :=
  match arrival bytes with
  | .noise => s.setDownstream bytes
  | .cut => abandonedFrame bytes s
  | .badHeader => badHeaderFrame bytes s
  | .whole kind f payload extra => forwardAlso extra (wholeFrame kind f payload s)

/-! ### The rows -/

/-- POWER_ON_RESET (R162, R68, R153). -/
def execPowerOnReset (straps : BitVec 4) (levels : BitVec 32) (s : State) : Host.Outcome State Fault Refusal :=
  .next (powerOn straps levels s)

/-- FRAME (R153). -/
def execFrame (bytes : List Byte) (s : State) : Host.Outcome State Fault Refusal :=
  .next (portFrame bytes s)

/-- FRAME_ABANDONED (R153, R155): bytes that are no frame cut short are not this event, and change nothing (log entry 13). -/
def execFrameAbandoned (bytes : List Byte) (s : State) : Host.Outcome State Fault Refusal :=
  .next (match arrival bytes with
    | .cut => abandonedFrame bytes s
    | .noise => s
    | .badHeader => s
    | .whole _ _ _ _ => s)

/-- SWEEP (R158, R72). -/
def execSweep (f : Head) (first count : Byte) (slots : List Byte) (during : List Sample) (s : State) :
    Host.Outcome State Fault Refusal :=
  .next (sweepFrame f first count slots during s)

end Sys2Proof.Machine
end

