-- ==== Sys2Proof/Machine/Timers.lean ====
section
/-! DEFINITION. The meanings of the timers' rows: each is the expiry itself, at the moment the timer runs to; a timer that does not run has
no expiry, and its row changes nothing (log entry 1). -/

namespace Sys2Proof.Machine

/-! ### What an expiry does -/

/-- The silence timer's expiry: the loss of the chain (R159, R167). -/
def silenceOver (s : State) : State :=
  match s.port.silence with
  | none => s
  | some t => arbitrate (enterChainLost (s.reach t))

/-- The supply is at or above the floor (R164). -/
def supplyHolds (s : State) : Bool := decide (s.settings.supplyFloor ≤ s.mon.supply.toNat)

/-- The entry to LIVE (R164). -/
def enterLive (s : State) : State := s.setNode { s.node with st := .live, settle := none }

/-- The settle timer's expiry in ARMING: LIVE, or a trip with cause Supply (R164). -/
def settleOver (s : State) : State :=
  match s.node.settle with
  | none => s
  | some t =>
    let s := s.reach t
    if supplyHolds s then enterLive s else arbitrate (trip .supply none s)

/-- A kick timer's expiry: the kick completes (R5). -/
def kickOver (c : Chan) (s : State) : State :=
  match s.chans[c].act with
  | .kicking _ _ ends => arbitrate (endKick c true (s.reach ends))
  | _ => s

/-- The hold-limit timer of the press on a channel (R6, R17). -/
def Channel.holdLimit? (x : Channel) : Option Nat :=
  match x.drive? with
  | some d =>
    match d.kind with
    | .flip _ _ limit => limit
    | _ => none
  | none => none

/-- A hold-limit timer's expiry ends the hold, or cuts the re-kick, of the press (R15, R17). -/
def holdLimitOver (c : Chan) (s : State) : State :=
  match s.chans[c].holdLimit? with
  | none => s
  | some t => arbitrate (endDrive c (s.reach t))

/-- A recovery timer's expiry: the channel becomes IDLE (R7). -/
def recoveryOver (c : Chan) (s : State) : State :=
  match s.chans[c].act with
  | .recovering ends => arbitrate (becomeIdle c (s.reach ends))
  | _ => s

/-- The moment at which the next full millisecond of a drive ends (R26, R27). -/
def Drive.nextMs (d : Drive) : Nat := d.began + (d.charged + 1) * Config.msTime

/-- A full millisecond of a kick is charged (R26). -/
def kickMs (c : Chan) (s : State) : State :=
  match s.chans[c].act with
  | .kicking d k ends =>
    let s := accrueKick c s
    s.setChan c { s.chans[c] with act := .kicking { d with charged := d.charged + 1 } k ends }
  | _ => s

/-- A full millisecond of a hold is charged; one that would take the account above its limit is a heat cutoff (R27, R36). -/
def holdMs (c : Chan) (s : State) : State :=
  match s.chans[c].act with
  | .holding d e =>
    let cut := holdOverflows s c e
    let s := accrueHold c e s
    let s := s.setChan c { s.chans[c] with act := .holding { d with charged := d.charged + 1 } e }
    if cut then endHold c (setLatch .heatCutoff s) else s
  | _ => s

/-- The end of the next full millisecond of a kick; a kick of k milliseconds has k of them (R26). -/
def kickAccrualDue (c : Chan) (s : State) : State :=
  match s.chans[c].act with
  | .kicking d k _ => if d.charged < k then kickMs c (s.reach d.nextMs) else s
  | _ => s

/-- The end of the next full millisecond of a hold (R27). -/
def holdAccrualDue (c : Chan) (s : State) : State :=
  match s.chans[c].act with
  | .holding d _ => arbitrate (holdMs c (s.reach d.nextMs))
  | _ => s

/-! ### The cooling tick (R28, R35) -/

/-- A millisecond of drive that ends at the tick is charged before the decay (R28). -/
def chargeBefore (t : Nat) (c : Chan) (s : State) : State :=
  match s.chans[c].act with
  | .kicking d _ _ => if d.nextMs = t then kickMs c s else s
  | .holding d _ => if d.nextMs = t then holdMs c s else s
  | _ => s

/-- The decay of one channel (R28). -/
def coolChannel (c : Chan) (s : State) : State :=
  let x := s.heat[c]
  s.setHeat c { x with q := decayed s.coils[c] x.q }

/-- A lower Heff is applied at once, and one of 0 ends the hold as a heat cutoff; either makes a pass (R35, R36, R6). -/
def lowerHold (c : Chan) (s : State) : State :=
  match s.chans[c].act with
  | .holding d e =>
    let n := heffNow s c
    if n = 0 then endHold c (setLatch .heatCutoff s)
    else if n < e then (setAct c (.holding d n) s).callPass
    else s
  | _ => s

/-- A higher Heff is applied where the budget in use stays within the budget in force (R35). -/
def raiseHold (c : Chan) (s : State) : State :=
  match s.chans[c].act with
  | .holding d e =>
    let n := heffNow s c
    let k := s.coils[c]
    if e < n ∧ s.inUse - holdDraw k e + holdDraw k n ≤ budgetInForce s then setAct c (.holding d n) s else s
  | _ => s

/-- The cooling tick: the decay of every account, the decreases and cutoffs, the increases in ascending channel number, and the pass (R28, R35,
R55). -/
def cool (s : State) : State :=
  let t := s.clocks.cooling
  let s := (s.reach t).setClocks { s.clocks with cooling := t + 16 * Config.msTime }
  let s := forChans (chargeBefore t) s
  let s := forChans coolChannel s
  let s := forChans raiseHold (forChans lowerHold s)
  arbitrate (if s.queue.any (·.wait == .heatWait) then s.callPass else s)

/-! ### The queue and the trains -/

/-- A stale entry's removal: it counts as dropped, a Flip's context is discarded, the place is handed on and a pass is made (R47, R48). -/
def removeStale (e : Entry) (s : State) : State :=
  let s := countDropped (s.setQueue (s.queue.filter fun x => !x.matches e))
  let s := if e.kind = .flip then setWaiting e.channel none s else s
  arbitrate (handOver s.callPass)

/-- A stale timer's expiry (R47). -/
def staleOver (c : Chan) (k : Cls) (s : State) : State :=
  match s.queue.find? (fun e => e.channel == c && e.cls == k) with
  | none => s
  | some e =>
    match e.stale with
    | none => s
    | some t => removeStale e (s.reach t)

/-- The comparison of n with N at an interval's expiry (R97, R98, R101). -/
def intervalCompared (t : TrainNo) (s : State) : State :=
  match s.trains[t] with
  | none => s
  | some x =>
    if x.issued < x.planned then enterWait t x s
    else match x.owner with
      | .reel b _ =>
        bankTest b (s.setTrain t (some { x with state := .verify, verify := .running (s.after x.profile.start) }))
      | _ => endTrain t s

/-- An interval timer's expiry: the Unit Logic's check of a reel, then the comparison (R97, R113). -/
def intervalOver (t : TrainNo) (s : State) : State :=
  match s.trains[t] with
  | none => s
  | some x =>
    match x.interval with
    | none => s
    | some ends =>
      let s := (s.reach ends).setTrain t (some { x with interval := none })
      let s := match x.owner with
        | .reel b r => reelCheck b r x.inFlight s
        | _ => s
      arbitrate (intervalCompared t s)

/-- The Unit Logic's work at a reel's verify expiry (R113, R117). -/
def verifyReel (b : BankNo) (r : Nat) (inFlight : Bool) (s : State) : State :=
  if s.banks[b].state = .zeroing then settleZero b r s else reelCheck b r inFlight s

/-- The verify timer is marked expired (R98). -/
def markVerified (t : TrainNo) (s : State) : State :=
  match s.trains[t] with
  | some x => s.setTrain t (some { x with verify := .expired })
  | none => s

/-- A verify timer's expiry (R98, R113, R114, R117). -/
def verifyOver (t : TrainNo) (s : State) : State :=
  match s.trains[t] with
  | none => s
  | some x =>
    match x.verify, x.owner with
    | .running ends, .reel b r =>
      arbitrate (bankTest b (markVerified t (verifyReel b r x.inFlight (s.reach ends))))
    | _, _ => s

/-- A direction settle timer's expiry: the context enters WAIT and offers pulse 1 (R101). -/
def trainSettleOver (t : TrainNo) (s : State) : State :=
  match s.trains[t] with
  | none => s
  | some x =>
    match x.settle with
    | none => s
    | some ends => arbitrate (enterWait t { x with settle := none } (s.reach ends))

/-- A holdoff timer's expiry (R82). -/
def holdoffOver (r : RuleNo) (s : State) : State :=
  match s.holdoffs[r] with
  | none => s
  | some t => (s.reach t).setHoldoff r none

/-! ### The rows -/

/-- SILENCE_EXPIRY (R159, R167). -/
def execSilenceExpiry (s : State) : Host.Outcome State Fault Refusal := .next (silenceOver s)

/-- SETTLE_EXPIRY (R164). -/
def execSettleExpiry (s : State) : Host.Outcome State Fault Refusal := .next (settleOver s)

/-- KICK_TIMER_EXPIRY (R5). -/
def execKickTimerExpiry (c : Chan) (s : State) : Host.Outcome State Fault Refusal := .next (kickOver c s)

/-- HOLD_LIMIT_EXPIRY (R15). -/
def execHoldLimitExpiry (c : Chan) (s : State) : Host.Outcome State Fault Refusal := .next (holdLimitOver c s)

/-- RECOVERY_EXPIRY (R7). -/
def execRecoveryExpiry (c : Chan) (s : State) : Host.Outcome State Fault Refusal := .next (recoveryOver c s)

/-- KICK_ACCRUAL (R26). -/
def execKickAccrual (c : Chan) (s : State) : Host.Outcome State Fault Refusal := .next (kickAccrualDue c s)

/-- HOLD_ACCRUAL (R27). -/
def execHoldAccrual (c : Chan) (s : State) : Host.Outcome State Fault Refusal := .next (holdAccrualDue c s)

/-- COOLING_TICK (R28). -/
def execCoolingTick (s : State) : Host.Outcome State Fault Refusal := .next (cool s)

/-- STALE_TIMER_EXPIRY (R47). -/
def execStaleTimerExpiry (c : Chan) (cls : Fin 4) (s : State) : Host.Outcome State Fault Refusal :=
  .next (staleOver c (clsOf cls) s)

/-- INTERVAL_EXPIRY (R97). -/
def execIntervalExpiry (t : TrainNo) (s : State) : Host.Outcome State Fault Refusal := .next (intervalOver t s)

/-- VERIFY_EXPIRY (R98). -/
def execVerifyExpiry (t : TrainNo) (s : State) : Host.Outcome State Fault Refusal := .next (verifyOver t s)

/-- TRAIN_SETTLE_EXPIRY (R101). -/
def execTrainSettleExpiry (t : TrainNo) (s : State) : Host.Outcome State Fault Refusal := .next (trainSettleOver t s)

/-- HOLDOFF_EXPIRY (R82). -/
def execHoldoffExpiry (r : RuleNo) (s : State) : Host.Outcome State Fault Refusal := .next (holdoffOver r s)

end Sys2Proof.Machine
end

