-- ==== Sys2Proof/Machine/Readings.lean ====
section
/-! DEFINITION. The meanings of the samples', readings' and lamp clocks' rows (R66, R126 to R136, R142, R143, R151). The rows that name one
outcome of a sample or reading are that sample or reading where it has that outcome, and change nothing where it has not (log entry 11). -/

namespace Sys2Proof.Machine

/-- The kick end of a channel would take its strikes to 3 (R128). -/
def openLocks (s : State) (c : Chan) : Bool :=
  s.chans[c].isKicking && s.coils[c].openFloor != 0 && s.guards[c].verdict == .openSoFar && decide (2 ≤ s.guards[c].strikes)

/-- INPUT_SAMPLE (R66). -/
def execInputSample (x : Sample) (s : State) : Host.Outcome State Fault Refusal := .next (sampleInputs x s)

/-- DRIVE_SAMPLE (R126, R128, R129). -/
def execDriveSample (reading : Byte) (s : State) : Host.Outcome State Fault Refusal := .next (takeDriveSample reading s)

/-- SHORT_LOCK (R129): the drive sample that locks its channel. -/
def execShortLock (reading : Byte) (s : State) : Host.Outcome State Fault Refusal :=
  .next (if shortLocks s reading then takeDriveSample reading s else s)

/-- OPEN_LOCK (R128): the kick's expiry that settles the third strike. -/
def execOpenLock (c : Chan) (s : State) : Host.Outcome State Fault Refusal :=
  .next (if openLocks s c then kickOver c s else s)

/-- UNDRIVEN_SAMPLE (R126, R130). -/
def execUndrivenSample (c : Chan) (reading : Byte) (s : State) : Host.Outcome State Fault Refusal :=
  .next (takeUndrivenSample c reading s)

/-- LEAK_TRIP (R130): the undriven sample that hands a trip. -/
def execLeakTrip (c : Chan) (reading : Byte) (s : State) : Host.Outcome State Fault Refusal :=
  .next (if leakTrips s c reading then takeUndrivenSample c reading s else s)

/-- SUPPLY_READING (R133, R134). -/
def execSupplyReading (reading : Byte) (s : State) : Host.Outcome State Fault Refusal := .next (takeSupply reading s)

/-- SAG_SET (R133): the reading that sets the Sag flag. -/
def execSagSet (reading : Byte) (s : State) : Host.Outcome State Fault Refusal :=
  .next (if sagSets s reading then takeSupply reading s else s)

/-- SAG_CLEAR (R133): the reading that clears the Sag flag. -/
def execSagClear (reading : Byte) (s : State) : Host.Outcome State Fault Refusal :=
  .next (if sagClears s reading then takeSupply reading s else s)

/-- SUPPLY_FLOOR_TRIP (R134): the reading that hands a trip with cause Supply. -/
def execSupplyFloorTrip (reading : Byte) (s : State) : Host.Outcome State Fault Refusal :=
  .next (if floorTrips s reading then takeSupply reading s else s)

/-- TEMPERATURE_READING (R135, R136). -/
def execTemperatureReading (reading : Byte) (s : State) : Host.Outcome State Fault Refusal :=
  .next (takeTemperature reading s)

/-- HEAT_TRIP (R136): the reading that hands a trip with cause Heat. -/
def execHeatTrip (reading : Byte) (s : State) : Host.Outcome State Fault Refusal :=
  .next (if heatTrips s reading then takeTemperature reading s else s)

/-- STROBE_SLOT (R142). -/
def execStrobeSlot (s : State) : Host.Outcome State Fault Refusal := .next (startSlot s)

/-- BLINK_HALF_CHANGE (R143). -/
def execBlinkHalfChange (s : State) : Host.Outcome State Fault Refusal := .next (changeHalf s)

/-- CHASE_EXPIRY (R151). -/
def execChaseExpiry (r : RingNo) (s : State) : Host.Outcome State Fault Refusal := .next (chase r s)

end Sys2Proof.Machine
end

