-- ==== Sys2Proof/Machine/Dispatch.lean ====
section
/-! DEFINITION. One arm per command: its meaning. -/

namespace Sys2Proof.Machine

def exec (i : Instr) (s : State) : Host.Outcome State Fault Refusal :=
  match i with
  | .powerOnReset straps levels => Sys2Proof.Machine.execPowerOnReset straps levels s
  | .frame bytes => Sys2Proof.Machine.execFrame bytes s
  | .frameAbandoned bytes => Sys2Proof.Machine.execFrameAbandoned bytes s
  | .go f => Sys2Proof.Machine.execGo f s
  | .quiet f mask => Sys2Proof.Machine.execQuiet f mask s
  | .reset f => Sys2Proof.Machine.execReset f s
  | .pulse f channel override => Sys2Proof.Machine.execPulse f channel override s
  | .release f channel => Sys2Proof.Machine.execRelease f channel s
  | .arm f mask => Sys2Proof.Machine.execArm f mask s
  | .disarm f mask => Sys2Proof.Machine.execDisarm f mask s
  | .run f channel count startIv floorIv ramp idle => Sys2Proof.Machine.execRun f channel count startIv floorIv ramp idle s
  | .cancel f target number => Sys2Proof.Machine.execCancel f target number s
  | .add f bank value => Sys2Proof.Machine.execAdd f bank value s
  | .zero f bank => Sys2Proof.Machine.execZero f bank s
  | .step f unit count => Sys2Proof.Machine.execStep f unit count s
  | .lock f channel => Sys2Proof.Machine.execLock f channel s
  | .unlock f channel => Sys2Proof.Machine.execUnlock f channel s
  | .setLamps f first count levels => Sys2Proof.Machine.execSetLamps f first count levels s
  | .setModes f first count modes => Sys2Proof.Machine.execSetModes f first count modes s
  | .move f ring count => Sys2Proof.Machine.execMove f ring count s
  | .acknowledge f mask => Sys2Proof.Machine.execAcknowledge f mask s
  | .clearCounts f mask => Sys2Proof.Machine.execClearCounts f mask s
  | .loadNodeSettings f r => Sys2Proof.Machine.execLoadNodeSettings f r s
  | .loadCoil f r => Sys2Proof.Machine.execLoadCoil f r s
  | .loadInput f r => Sys2Proof.Machine.execLoadInput f r s
  | .loadRule f r => Sys2Proof.Machine.execLoadRule f r s
  | .loadBank f r => Sys2Proof.Machine.execLoadBank f r s
  | .loadUnit f r => Sys2Proof.Machine.execLoadUnit f r s
  | .loadRing f r => Sys2Proof.Machine.execLoadRing f r s
  | .queryNodeSettings f number rest => Sys2Proof.Machine.execQueryNodeSettings f number rest s
  | .queryCoil f number rest => Sys2Proof.Machine.execQueryCoil f number rest s
  | .queryInput f number rest => Sys2Proof.Machine.execQueryInput f number rest s
  | .queryRule f number rest => Sys2Proof.Machine.execQueryRule f number rest s
  | .queryBank f number rest => Sys2Proof.Machine.execQueryBank f number rest s
  | .queryCounterUnit f number rest => Sys2Proof.Machine.execQueryCounterUnit f number rest s
  | .queryRing f number rest => Sys2Proof.Machine.execQueryRing f number rest s
  | .queryChannelStatus f number rest => Sys2Proof.Machine.execQueryChannelStatus f number rest s
  | .queryQueueSnapshot f number rest => Sys2Proof.Machine.execQueryQueueSnapshot f number rest s
  | .queryTrainStatus f number rest => Sys2Proof.Machine.execQueryTrainStatus f number rest s
  | .queryBankStatus f number rest => Sys2Proof.Machine.execQueryBankStatus f number rest s
  | .queryCounterStatus f number rest => Sys2Proof.Machine.execQueryCounterStatus f number rest s
  | .queryIdentity f number rest => Sys2Proof.Machine.execQueryIdentity f number rest s
  | .queryMonitor f number rest => Sys2Proof.Machine.execQueryMonitor f number rest s
  | .queryLampImage f number rest => Sys2Proof.Machine.execQueryLampImage f number rest s
  | .sweep f first count slots during => Sys2Proof.Machine.execSweep f first count slots during s
  | .silenceExpiry => Sys2Proof.Machine.execSilenceExpiry s
  | .settleExpiry => Sys2Proof.Machine.execSettleExpiry s
  | .inputSample x => Sys2Proof.Machine.execInputSample x s
  | .kickTimerExpiry c => Sys2Proof.Machine.execKickTimerExpiry c s
  | .holdLimitExpiry c => Sys2Proof.Machine.execHoldLimitExpiry c s
  | .recoveryExpiry c => Sys2Proof.Machine.execRecoveryExpiry c s
  | .kickAccrual c => Sys2Proof.Machine.execKickAccrual c s
  | .holdAccrual c => Sys2Proof.Machine.execHoldAccrual c s
  | .coolingTick => Sys2Proof.Machine.execCoolingTick s
  | .staleTimerExpiry c cls => Sys2Proof.Machine.execStaleTimerExpiry c cls s
  | .intervalExpiry t => Sys2Proof.Machine.execIntervalExpiry t s
  | .verifyExpiry t => Sys2Proof.Machine.execVerifyExpiry t s
  | .trainSettleExpiry t => Sys2Proof.Machine.execTrainSettleExpiry t s
  | .holdoffExpiry r => Sys2Proof.Machine.execHoldoffExpiry r s
  | .driveSample reading => Sys2Proof.Machine.execDriveSample reading s
  | .shortLock reading => Sys2Proof.Machine.execShortLock reading s
  | .openLock c => Sys2Proof.Machine.execOpenLock c s
  | .undrivenSample c reading => Sys2Proof.Machine.execUndrivenSample c reading s
  | .leakTrip c reading => Sys2Proof.Machine.execLeakTrip c reading s
  | .supplyReading reading => Sys2Proof.Machine.execSupplyReading reading s
  | .sagSet reading => Sys2Proof.Machine.execSagSet reading s
  | .sagClear reading => Sys2Proof.Machine.execSagClear reading s
  | .supplyFloorTrip reading => Sys2Proof.Machine.execSupplyFloorTrip reading s
  | .temperatureReading reading => Sys2Proof.Machine.execTemperatureReading reading s
  | .heatTrip reading => Sys2Proof.Machine.execHeatTrip reading s
  | .strobeSlot => Sys2Proof.Machine.execStrobeSlot s
  | .blinkHalfChange => Sys2Proof.Machine.execBlinkHalfChange s
  | .chaseExpiry r => Sys2Proof.Machine.execChaseExpiry r s

end Sys2Proof.Machine
end

