-- ==== Sys2Proof/Machine/Step.lean ====
section
/-! DEFINITION. The step of the node: the command at the front of its queue, or a tick of the idle clock. -/

namespace Sys2Proof.Machine

/-- One step: the command that has waited longest is taken, with the rest of the queue left waiting; on an empty queue the node idles and a
microsecond passes (log entry 1). -/
def step (s : State) : Host.Outcome State Fault Refusal :=
  match s.pending with
  | [] => .next { s with now := s.now + 1 }
  | c :: rest => exec c { s with pending := rest }

/-- The command a table word spells is put at the front of the queue; no word of this table spells one. -/
def State.withFetchWord (s : State) (nbits w : Nat) : State :=
  match decodeTableWord nbits w with
  | some c => { s with pending := c :: s.pending }
  | none => s

end Sys2Proof.Machine
end

