-- ==== Sys2Proof/Safety.lean ====
section
/-! DEFINITION. The terms in which claims are stated: what a good frame does by itself, what a refusal does, when the node is at rest, and the
invariants that every step keeps. -/

namespace Sys2Proof.Machine

/-! ### Frames and refusals, in the manual's own terms -/

/-- A frame in good order is heard by a node that has an address, is its own or everyone's, and finds the node outside CHAIN-LOST and
between two events (R153, R156, R167). -/
def Heard (f : Head) (s : State) : Prop :=
  f.damage = 0 ∧ s.port.address ≠ 0 ∧ (f.dest = 0 ∨ f.dest = s.port.address.setWidth 8) ∧
    s.node.st ≠ .chainLost ∧ s.passDue = false

/-- What every good frame end does outside CHAIN-LOST, whoever it is addressed to: these bytes went downstream, and in ARMING and LIVE the
silence timer runs from now for the silence limit (R153, R159). -/
def heard (bytes : List Byte) (s : State) : State :=
  { s with port := { s.port with
      downstream := bytes
      silence := if s.node.st = .arming ∨ s.node.st = .live then some (s.now + s.settings.silence * 1000)
        else s.port.silence } }

/-- What a frame with a good header and a failing payload check, or an abandoned one, does (R155): these bytes went downstream, the chain-damage
count rises and ChainDamage, latch 0, is set. -/
def damaged (bytes : List Byte) (s : State) : State :=
  { s with
    latches := s.latches ||| 1
    port := { s.port with downstream := bytes, damage := min 255 (s.port.damage + 1) } }

/-- What the refusal of an order or load does (R160): the refusal record takes it, and Refused, latch 1, is set. -/
def turnedAway (tag : Byte) (why : Reason) (s : State) : State :=
  { s with
    latches := s.latches ||| 2
    port := { s.port with
      refusals := min 255 (s.port.refusals + 1), lastAsker := .order tag, lastReason := some why } }

/-- What the refusal of a rule's request does (R88, R160): the refusal record takes it, and Refused, latch 1, is set. -/
def ruleRefused (n : RuleNo) (why : Reason) (s : State) : State :=
  { s with
    latches := s.latches ||| 2
    port := { s.port with
      refusals := min 255 (s.port.refusals + 1), lastAsker := .rule n, lastReason := some why } }

/-! ### The figures of the rules -/

/-- The grantable kick of an account of Q against a requested kick (R25, R29). -/
def kickFor (k : Coil) (q asked : Nat) : Nat := if k.l = 0 then asked else min asked ((k.l - q) / k.ck)

/-- The effective duty of a hold at an account of Q, the warm hold cap applied while the Warm flag is set (R25, R33, R34). -/
def dutyFor (s : State) (k : Coil) (q : Nat) : Nat :=
  let plain := if k.l = 0 ∨ q ≤ k.a then k.h else (2 * k.h * (k.l - q) + (k.l - k.a)) / (2 * (k.l - k.a))
  if s.mon.warm then min plain s.settings.warmCap else plain

/-- The draw of a hold: ceil(P × Heff / 16) (R51). -/
def drawFor (k : Coil) (heff : Nat) : Nat := (k.p * heff + 15) / 16

/-- The account of a channel that ends a kick at the moment `now`: the part millisecond is charged, or the full one that ends with the
kick and has not been charged yet, up to L (R25, R26; the reading is the model's, log entry 6). -/
def heatAtKickEnd (k : Coil) (q : Nat) (d : Drive) (now : Nat) : Nat :=
  if k.l = 0 then q
  else if (now - d.began) % 1000 ≠ 0 ∨ now - d.began = (d.charged + 1) * 1000 then min k.l (q + k.ck)
  else q

/-- The interval that the grant of pulse `n` of a train of planned count `planned` starts, w_j with j = n + 1 (R95). -/
def intervalFor (p : Profile) (n planned : Nat) : Nat :=
  (max (p.floor : Int) (p.start - p.ramp * max 0 (min ((n : Int) + 1 - 2 - p.idle) ((planned : Int) - (n + 1)))) ).toNat

/-- The class time of an input in microseconds (R66). -/
def timeFor (x : Input) : Nat :=
  match x.debounce with
  | .fast => 1000
  | .normal => 4000
  | .slow => 16000

/-- The two bytes of a number, high byte first (R161). -/
def two (n : Nat) : List Byte := [BitVec.ofNat 8 (n / 256), BitVec.ofNat 8 n]

/-- A yes-or-no field as sent (R161). -/
def bit (b : Bool) : Byte := if b then 1 else 0

/-! ### States and tables -/

/-- Nothing waits in the queue or on the held list. -/
def Calm (s : State) : Prop := s.queue = [] ∧ s.held = []

/-- Nothing runs and nothing waits: what is left by an entry to a node state that opens the relay (R8, R61, R105, R162). -/
def AllStopped (s : State) : Prop :=
  s.node.relay = false ∧ s.node.settle = none ∧ s.port.silence = none ∧ s.queue = [] ∧ s.held = [] ∧
    (∀ c : Chan, s.chans[c].driven = false) ∧ ∀ k : TrainNo, s.trains[k] = none

/-- The tables, the heat limits and the lamp image, which no event but a load, a lamp order or power-on reset changes. -/
def TablesKept (s t : State) : Prop :=
  t.coils = s.coils ∧ t.rules = s.rules ∧ t.settings = s.settings ∧ t.lamps = s.lamps ∧ t.rings = s.rings

/-- What an event at the moment `now` in a calm state makes of a train context `x` whose next pulse it offers (R11, R94): granted at once, with the
interval of R95 begun, where the relay is closed, the channel IDLE, the full kick allowed and the draw fitting (R30, R53, R56); else waiting, with the
reason the pass finds (R40, R56, R58). -/
def PulseOffered (k : TrainNo) (x y : Train) (now : Nat) (s t : State) : Prop :=
  let c := s.coils[x.channel]
  let full := kickFor c s.heat[x.channel].q c.k = c.k
  let fits := s.node.relay = true ∧ s.chans[x.channel].act = .idle ∧ full ∧ s.inUse + c.p ≤ budgetInForce s - s.settings.reserve
  let why : Wait := if s.node.relay = false then .notReached else if s.chans[x.channel].act ≠ .idle then .channelBusy
    else if full then .budget else .heatWait
  (fits →
    y.state = .pulse ∧ y.issued = x.issued + 1 ∧ y.inFlight = true ∧ t.queue = [] ∧ t.inUse = s.inUse + c.p ∧
    t.chans[x.channel].act = .kicking { kind := .stepPulse, source := .train k, persistent := false, began := now, charged := 0 }
      c.k (now + c.k * 1000) ∧
    y.interval = some (now + intervalFor x.profile (x.issued + 1) x.planned * 1000)) ∧
  (¬ fits →
    y.state = .wait ∧ y.issued = x.issued ∧ t.inUse = s.inUse ∧
    t.queue = [{ channel := x.channel, cls := .step, kind := .stepPulse, source := .train k, persistent := false, joined := now,
                 merged := 1, kReq := c.k, wait := why, stale := none }])

/-- The action a rule load stores, by the rule's action code, references and quantities (R75, R76). -/
def ActionLoaded (r : RuleRec) (a : Action) : Prop :=
  (r.action = 0 ∧ a = .inert) ∨
  (r.action = 1 ∧ ∃ c : Chan, r.p0.toNat = c.val ∧ a = .pulse c (min r.p1.toNat 250)) ∨
  (r.action = 2 ∧ r.edge = 0 ∧ ∃ (c : Chan) (mode : EosMode), r.p0.toNat = c.val ∧ r.p2 = eosCode mode ∧
    ((r.p1 = 255 ∧ a = .flip c none mode (min r.p3.toNat 3)) ∨
     (r.p1 ≠ r.trigger ∧ ∃ e : InputNo, r.p1.toNat = e.val ∧ a = .flip c (some e) mode (min r.p3.toNat 3)))) ∨
  (r.action = 3 ∧ ∃ u : UnitNo, r.p0.toNat = u.val ∧ a = .step u (max (-99) (min r.p1.toInt 99))) ∨
  (r.action = 4 ∧ ∃ b : BankNo, r.p0.toNat = b.val ∧
    a = .add b (min (r.p1.toNat * 65536 + r.p2.toNat * 256 + r.p3.toNat) 99999))

/-! ### The invariants -/

/-- The relay and the node's timers stand as the node state has them (R159, R162). -/
def RelayAgrees (s : State) : Prop :=
  (s.node.st = .arming ∨ s.node.st = .live → s.node.relay = true) ∧
  (s.node.st = .safe ∨ s.node.st = .quiet ∨ s.node.st = .tripped → s.node.relay = false) ∧
  (s.node.settle.isSome ↔ s.node.st = .arming) ∧
  (s.port.silence.isSome ↔ s.node.st = .arming ∨ s.node.st = .live)

/-- No channel is KICKING or HOLDING while the coil-supply relay is open (R3, R162). -/
def ColdWhileOpen (s : State) : Prop := s.node.relay = false → ∀ c : Chan, s.chans[c].driven = false

/-- No heat account exceeds its heat limit, and that of an unmetered channel is 0; the fraction carry is 0 to 15 (R24). -/
def HeatWithin (s : State) : Prop := ∀ c : Chan, s.heat[c].q ≤ s.coils[c].l ∧ s.heat[c].f < 16

/-- A channel is LOCKED exactly while its protection record holds a lock cause (R127, R131). -/
def LocksHaveCauses (s : State) : Prop := ∀ c : Chan, s.chans[c].isLocked = s.guards[c].cause.isSome

/-- The budget in use is the sum of the draws of the KICKING and HOLDING channels (R51). -/
def BudgetIsDraws (s : State) : Prop :=
  s.inUse = ((List.finRange 24).map fun c : Chan => actDraw s.coils[c] s.chans[c].act).sum

/-- The queue holds at most 16 entries, its classes in order, and never two entries with the same channel and class (R41). -/
def QueueInOrder (s : State) : Prop :=
  s.queue.length ≤ 16 ∧ (s.queue.Pairwise fun x y => clsCode x.cls ≤ clsCode y.cls) ∧
    s.queue.Pairwise fun x y => ¬ (x.channel = y.channel ∧ x.cls = y.cls)

/-- The saturating counts and the strikes stay in their ranges (R49, R71, R127, R132, R136, R155, R160). -/
def CountsWithin (s : State) : Prop :=
  s.dropped ≤ 255 ∧ s.port.damage ≤ 255 ∧ s.port.refusals ≤ 255 ∧ s.mon.trips ≤ 255 ∧ s.mon.hotCount ≤ 255 ∧
    (∀ i : InputNo, s.inputs[i].count ≤ 15) ∧ ∀ c : Chan, s.guards[c].strikes ≤ 3

end Sys2Proof.Machine
end

