-- ==== Sys2Proof/Certificates/Slice0/Obligations.lean ====
section
/-! DEFINITION. The statements for the provers. -/

open Sys2Proof Sys2Proof.Machine

/-! ### The machine -/

/-- A step runs the command at the front of the queue on the state with the rest of it; on an empty queue the block idles and its clock
moves by a microsecond (the model's choice, log entry 1). -/
def Obligations.StepTakesTheCommandInFront : Prop :=
  (∀ (s : State) (c : Instr) (rest : List Instr), s.pending = c :: rest → step s = exec c { s with pending := rest }) ∧
  ∀ s : State, s.pending = [] → step s = .next { s with now := s.now + 1 }

/-- Every command is taken, in every state, and leaves the commands that wait as they are; the expiry of a timer that does not run and a sample
of no channel change nothing (the model's choice, log entry 1). That power-on reset too keeps the waiting commands is the model's choice (log entry 20). -/
def Obligations.EveryCommandCompletesAndKeepsTheQueue : Prop :=
  ∀ s : State,
    (∀ i : Instr, ∃ t, exec i s = .next t ∧ t.pending = s.pending) ∧
    (s.port.silence = none → exec .silenceExpiry s = .next s) ∧
    (s.node.settle = none → exec .settleExpiry s = .next s) ∧
    (∀ c : Chan, s.chans[c].isKicking = false →
      exec (.kickTimerExpiry c) s = .next s ∧ exec (.kickAccrual c) s = .next s ∧ exec (.openLock c) s = .next s) ∧
    (∀ c : Chan, s.chans[c].isHolding = false → exec (.holdAccrual c) s = .next s) ∧
    (∀ c : Chan, s.chans[c].driven = false → exec (.holdLimitExpiry c) s = .next s) ∧
    (∀ c : Chan, (∀ ends, s.chans[c].act ≠ .recovering ends) → exec (.recoveryExpiry c) s = .next s) ∧
    (∀ (c : Chan) (k : Fin 4), s.queue = [] → exec (.staleTimerExpiry c k) s = .next s) ∧
    (∀ k : TrainNo, s.trains[k] = none →
      exec (.intervalExpiry k) s = .next s ∧ exec (.verifyExpiry k) s = .next s ∧ exec (.trainSettleExpiry k) s = .next s) ∧
    (∀ r : RuleNo, s.holdoffs[r] = none → exec (.holdoffExpiry r) s = .next s) ∧
    (∀ r : RingNo, s.rings[r].timer = none → exec (.chaseExpiry r) s = .next s) ∧
    (∀ v : Byte, (∀ c : Chan, s.chans[c].driven = false) →
      exec (.driveSample v) s = .next s ∧ exec (.shortLock v) s = .next s) ∧
    ∀ (c : Chan) (v : Byte), s.chans[c].driven = true →
      exec (.undrivenSample c v) s = .next s ∧ exec (.leakTrip c v) s = .next s

/-- Beside power-on reset and a frame of raw bytes, the settings, coil records, rules and rings change at their own loads alone (a ring's timer at
its chase too); the lamps at the lamp orders and a chase; the group arm mask at Arm, Disarm and Reset; the blink clock and the scan at their own
timers; the inputs at samples, sweeps, input loads, ClearCounts and an abandoned frame; and the node address at power-on reset
alone (R1, R50, R64, R72, R73, R75, R78, R140, R142, R143, R148, R153). -/
def Obligations.OnlyTheirCommandsChangeWhatIsLoaded : Prop :=
  ∀ (i : Instr) (s t : State), exec i s = .next t →
    let raw := (∃ a l, i = .powerOnReset a l) ∨ ∃ bytes, i = .frame bytes
    (t.settings = s.settings ∨ raw ∨ ∃ f r, i = .loadNodeSettings f r) ∧
    (t.coils = s.coils ∨ raw ∨ ∃ f r, i = .loadCoil f r) ∧
    (t.rules = s.rules ∨ raw ∨ ∃ f r, i = .loadRule f r) ∧
    (t.rings = s.rings ∨ raw ∨ (∃ f r, i = .loadRing f r) ∨ ∃ n, i = .chaseExpiry n) ∧
    (t.lamps = s.lamps ∨ raw ∨ (∃ f a n ls, i = .setLamps f a n ls) ∨ (∃ f a n ms, i = .setModes f a n ms) ∨
      (∃ f r n, i = .move f r n) ∨ ∃ n, i = .chaseExpiry n) ∧
    (t.armed = s.armed ∨ raw ∨ (∃ f m, i = .arm f m) ∨ (∃ f m, i = .disarm f m) ∨ ∃ f, i = .reset f) ∧
    (t.blink = s.blink ∨ raw ∨ i = .blinkHalfChange) ∧
    (t.scan = s.scan ∨ raw ∨ i = .strobeSlot) ∧
    (t.inputs = s.inputs ∨ raw ∨ (∃ x, i = .inputSample x) ∨ (∃ f a c ls xs, i = .sweep f a c ls xs) ∨
      (∃ f r, i = .loadInput f r) ∨ (∃ f m, i = .clearCounts f m) ∨ ∃ bytes, i = .frameAbandoned bytes) ∧
    (t.port.address = s.port.address ∨ ∃ a l, i = .powerOnReset a l)

/-- Every step keeps the relay and the node's timers as the node state has them (R159, R162). -/
def Obligations.StepsKeepRelayAndTimersInAgreement : Prop :=
  ∀ s t : State, RelayAgrees s → step s = .next t → RelayAgrees t

/-- No step leaves a channel driven under an open relay (R3, R162). -/
def Obligations.StepsDriveNothingUnderAnOpenRelay : Prop :=
  ∀ s t : State, ColdWhileOpen s → step s = .next t → ColdWhileOpen t

/-- No step takes a heat account above its limit (R24). -/
def Obligations.StepsKeepHeatWithinItsLimits : Prop :=
  ∀ s t : State, HeatWithin s → step s = .next t → HeatWithin t

/-- Every step keeps the locks and the lock causes in agreement (R127). -/
def Obligations.StepsKeepLocksAndTheirCauses : Prop :=
  ∀ s t : State, LocksHaveCauses s → step s = .next t → LocksHaveCauses t

/-- Every step keeps the budget in use equal to the sum of the draws (R51). -/
def Obligations.StepsKeepTheBudgetInUse : Prop :=
  ∀ s t : State, BudgetIsDraws s → step s = .next t → BudgetIsDraws t

/-- Every step keeps the queue within 16 entries, its classes in order and never two entries with the same channel and class, and keeps the
saturating counts and the strikes in their ranges (R41, R49, R71, R127, R132, R136, R155, R160). -/
def Obligations.StepsKeepTheQueueAndTheCounts : Prop :=
  (∀ s t : State, QueueInOrder s → step s = .next t → QueueInOrder t) ∧
  (∀ s t : State, CountsWithin s → step s = .next t → CountsWithin t)

/-- The state after power-on reset meets every invariant. -/
def Obligations.ResetMeetsTheInvariants : Prop :=
  RelayAgrees State.reset ∧ ColdWhileOpen State.reset ∧ HeatWithin State.reset ∧ LocksHaveCauses State.reset ∧
    BudgetIsDraws State.reset ∧ QueueInOrder State.reset ∧ CountsWithin State.reset

/-! ### Frames -/

/-- Every well-formed order, load, query and sweep is read back from the bytes of its frame; a sweep's `during` is no part of its bytes. A Go
order, a Pulse order and a query, each written out byte by byte with its checks, are read as what they stand for. -/
def Obligations.FramesReadBack : Prop :=
  (∀ i : Instr, i.wf = true → (framePayload i).isSome = true →
    (∀ f a c slots during, i = .sweep f a c slots during → during = []) → decodeFrame (encodeFrame i) = some i) ∧
  decodeFrame [0xD2, 0x01, 0x01, 0x05, 0x01, 0x92, 0x01, 0xF1, 0xD1] = some (.go { dest := 1, tag := 5 }) ∧
  decodeFrame [0xD2, 0x00, 0x01, 0x20, 0x03, 0x65, 0x04, 0x07, 0x14, 0xDB, 0x7E] =
    some (.pulse { dest := 0, tag := 0x20 } 7 20) ∧
  decodeFrame [0xD2, 0x03, 0x03, 0x09, 0x06, 0x81, 0x03, 0x1F, 0x00, 0x00, 0x00, 0x00, 0xA1, 0x53] =
    some (.queryInput { dest := 3, tag := 9 } 31 [0, 0, 0, 0])

/-- A frame that the node neither executes nor answers changes nothing but the port: one whose payload check fails is counted as damaged; an ORDER,
LOAD or QUERY for another node, a QUERY to address 0, a SWEEP of the wrong shape, a REPLY and a frame of any other kind are forwarded and count as
frames in good order, or as damaged; a node strapped to address 0 only forwards. An order or load of an unknown code, or without a payload, is refused
with Kind, and one whose length its layout does not require with Range; the bytes of every other order, load, query and sweep do what its row does
(R153, R155 to R159, R161). -/
def Obligations.FramesAreForwardedOrCounted : Prop :=
  (∀ (i : Instr) (k : Byte) (f : Head) (p : List Byte) (s : State),
    framePayload i = some (k, f, p) → k = 1 ∨ k = 2 → f.damage ≠ 0 → s.port.address ≠ 0 →
    exec i s = .next (damaged (encodeFrame i) s)) ∧
  (∀ (i : Instr) (k : Byte) (f : Head) (p : List Byte) (s : State),
    framePayload i = some (k, f, p) → k = 1 ∨ k = 2 → f.damage = 0 → s.port.address ≠ 0 → f.dest ≠ 0 →
    f.dest ≠ s.port.address.setWidth 8 → s.node.st ≠ .chainLost → s.passDue = false →
    exec i s = .next (heard (encodeFrame i) s)) ∧
  (∀ (i : Instr) (f : Head) (p : List Byte) (s : State),
    framePayload i = some (3, f, p) → s.port.address ≠ 0 → f.dest ≠ s.port.address.setWidth 8 →
    (f.damage = 0 → s.node.st ≠ .chainLost → s.passDue = false → exec i s = .next (heard (encodeFrame i) s)) ∧
    (f.damage ≠ 0 → exec i s = .next (damaged (encodeFrame i) s))) ∧
  (∀ (f : Head) (a c : Byte) (slots : List Byte) (s : State),
    let i : Instr := .sweep f a c slots []
    (f.dest ≠ 0 ∨ c = 0 ∨ 7 < c.toNat ∨ slots.length ≠ 32 * c.toNat) → s.port.address ≠ 0 →
    (f.damage = 0 → s.node.st ≠ .chainLost → s.passDue = false → exec i s = .next (heard (encodeFrame i) s)) ∧
    (f.damage ≠ 0 → exec i s = .next (damaged (encodeFrame i) s))) ∧
  (∀ (i : Instr) (k : Byte) (f : Head) (p : List Byte) (s : State),
    framePayload i = some (k, f, p) → (∀ f a c slots during, i = .sweep f a c slots during → during = []) →
    s.port.address = 0 →
    exec i s = .next { s with port := { s.port with downstream := encodeFrame i } }) ∧
  (∀ (k : Byte) (f : Head) (p : List Byte) (s : State), p.length ≤ 240 →
    let bytes := frameBytes k f p
    (s.port.address = 0 →
      exec (.frame bytes) s = .next { s with port := { s.port with downstream := bytes } }) ∧
    (s.port.address ≠ 0 → f.damage = 0 → s.node.st ≠ .chainLost → s.passDue = false →
      (k ≠ 1 ∧ k ≠ 2 ∧ k ≠ 3 ∧ k ≠ 5) ∨ (k ≠ 5 ∧ f.dest ≠ 0 ∧ f.dest ≠ s.port.address.setWidth 8) →
      exec (.frame bytes) s = .next (heard bytes s)) ∧
    (s.port.address ≠ 0 → f.damage ≠ 0 → k ≠ 5 → k ≠ 3 ∨ f.dest ≠ s.port.address.setWidth 8 →
      exec (.frame bytes) s = .next (damaged bytes s))) ∧
  (∀ (f : Head) (code : Byte) (ps : List Byte) (s : State), Heard f s → ps.length ≤ 239 →
    let order := frameBytes 1 f (code :: ps)
    let load := frameBytes 2 f (code :: ps)
    let refused := fun (bytes : List Byte) (why : Reason) => exec (.frame bytes) s = .next (turnedAway f.tag why (heard bytes s))
    let items := 2 + (ps.getD 1 0).toNat
    (code = 0 ∨ 19 < code.toNat → refused order .kind) ∧
    (code = 0 ∨ 7 < code.toNat → refused load .kind) ∧
    (∀ n : Nat, [0, 4, 0, 2, 1, 1, 1, 8, 2, 4, 1, 2, 1, 1, items, items, 2, 2, 4][code.toNat - 1]? = some n → code ≠ 0 →
      ps.length ≠ n → refused order .range) ∧
    (∀ n : Nat, [19, 17, 3, 12, 18, 15, 20][code.toNat - 1]? = some n → code ≠ 0 → ps.length ≠ n → refused load .range)) ∧
  (∀ (f : Head) (k : Byte) (s : State), Heard f s → k = 1 ∨ k = 2 →
    exec (.frame (frameBytes k f [])) s = .next (turnedAway f.tag .kind (heard (frameBytes k f []) s))) ∧
  ∀ (i : Instr) (s : State), i.wf = true → (framePayload i).isSome = true →
    (∀ f a c slots during, i = .sweep f a c slots during → during = []) → exec (.frame (encodeFrame i)) s = exec i s

/-- A frame whose header check fails is only counted, and forwarded; the header of a QUERY to the node itself goes on as REPLY with a check
that cannot pass (R154). An abandoned frame counts as damaged: what was received of an order, a load or a reply goes downstream as received, and
whatever the frame, nothing but the downstream bytes, the damage count and the latch changes (R72, R153, R155). -/
def Obligations.BadAndAbandonedFramesAreCounted : Prop :=
  (∀ (dest kind tag len check : Byte) (rest : List Byte) (s : State),
    s.port.address ≠ 0 → check ≠ crc8 [0xD2, dest, kind, tag, len] ∨ 240 < len.toNat →
    exec (.frame ([0xD2, dest, kind, tag, len, check] ++ rest)) s = .next (damaged
      (if kind = 3 ∧ dest = s.port.address.setWidth 8 then
        [0xD2, dest, 4, tag, len, ~~~(crc8 [0xD2, dest, 4, tag, len])] ++ rest
      else [0xD2, dest, kind, tag, len, check] ++ rest) s)) ∧
  ((∀ (dest kind tag len : Byte) (body : List Byte) (s : State),
    s.port.address ≠ 0 → kind ≠ 3 → kind ≠ 5 → len.toNat ≤ 240 → body.length < len.toNat + 2 →
    let bytes := [0xD2, dest, kind, tag, len, crc8 [0xD2, dest, kind, tag, len]] ++ body
    exec (.frameAbandoned bytes) s = .next (damaged bytes s)) ∧
  ∀ (bytes : List Byte) (s : State),
    arrival bytes = .cut → s.port.address ≠ 0 → s.reported = none → (∀ i : InputNo, s.inputs[i].count ≤ 15) →
    ∃ t, exec (.frameAbandoned bytes) s = .next t ∧ t = damaged t.port.downstream s)

/-- The first good frame end takes a CHAIN-LOST node to SAFE with everything stopped, whatever the frame: an order or load, for this node or another,
then does what it does at a node in SAFE; a query and a sweep, and a frame of any other kind, leave the node so; and a Go is then taken in
SAFE (R156, R167). -/
def Obligations.FirstGoodFrameLeavesChainLost : Prop :=
  ∀ (f : Head) (s : State), f.damage = 0 → s.port.address ≠ 0 → s.node.st = .chainLost →
    let safe := fun t : State => t.node = { s.node with st := .safe, relay := false, settle := none } ∧
      AllStopped t ∧ TablesKept s t ∧ t.armed = s.armed ∧ t.holdoffs = s.holdoffs
    (∀ (i : Instr) (k : Byte) (p : List Byte), framePayload i = some (k, f, p) → k = 1 ∨ k = 2 →
      ∃ t, safe t ∧ exec i s = exec i t) ∧
    (∀ (i : Instr) (k : Byte) (p : List Byte), framePayload i = some (k, f, p) →
      k = 3 ∨ ((k = 1 ∨ k = 2) ∧ f.dest ≠ 0 ∧ f.dest ≠ s.port.address.setWidth 8) ∨ (∃ a c slots, i = .sweep f a c slots []) →
      ∃ t, exec i s = .next t ∧ safe t) ∧
    (∀ (k : Byte) (p : List Byte), k ≠ 1 → k ≠ 2 → k ≠ 3 → k ≠ 5 → p.length ≤ 240 →
      ∃ t, exec (.frame (frameBytes k f p)) s = .next t ∧ safe t) ∧
    (f.dest = 0 →
      ∃ t, exec (.go f) s = .next t ∧
        t.node = { s.node with st := .arming, relay := true, settle := some (s.now + s.settings.settle * 1000) })

/-! ### Orders of the node state -/

/-- Go, by node state (R163). -/
def Obligations.GoActsByNodeState : Prop :=
  ∀ (f : Head) (s : State), Heard f s → Calm s →
    let h := heard (encodeFrame (.go f)) s
    let armed := fun wake : WakeCause => { h with
      node := { s.node with st := .arming, relay := true, settle := some (s.now + s.settings.settle * 1000), wake := wake }
      port := { h.port with silence := some (s.now + s.settings.silence * 1000) } }
    (s.node.st = .safe → exec (.go f) s = .next (armed s.node.wake)) ∧
    (s.node.st = .quiet → exec (.go f) s = .next (armed .goOrder)) ∧
    (s.node.st = .arming ∨ s.node.st = .live → exec (.go f) s = .next h) ∧
    (s.node.st = .tripped → exec (.go f) s = .next (turnedAway f.tag .state h))

/-- Quiet, by node state: the entry to QUIET with everything stopped, the wake at once by the lowest closed input of the mask, the mask
replaced in QUIET, where a closed input wakes nothing (the model's reading, log entry 14), and the refusal in TRIPPED (R166). -/
def Obligations.QuietActsByNodeState : Prop :=
  ∀ (f : Head) (mask : BitVec 32) (s : State), Heard f s →
    let h := heard (encodeFrame (.quiet f mask)) s
    ((s.node.st = .safe ∨ s.node.st = .arming ∨ s.node.st = .live) →
      (∀ i : InputNo, mask.getLsbD i.val = true → s.inputs[i].closed = false) →
      ∃ t, exec (.quiet f mask) s = .next t ∧
        t.node = { s.node with st := .quiet, relay := false, settle := none, wakeMask := mask } ∧
        AllStopped t ∧ TablesKept s t ∧ t.armed = s.armed ∧ t.holdoffs = s.holdoffs) ∧
    ((s.node.st = .safe ∨ s.node.st = .arming ∨ s.node.st = .live) →
      ∀ i : InputNo, mask.getLsbD i.val = true → s.inputs[i].closed = true →
      (∀ j : InputNo, j < i → mask.getLsbD j.val = true → s.inputs[j].closed = false) →
      ∃ t, exec (.quiet f mask) s = .next t ∧
        t.node = { st := .arming, relay := true, settle := some (s.now + s.settings.settle * 1000), wakeMask := mask,
                   wake := .input i } ∧
        t.port.silence = some (s.now + s.settings.silence * 1000) ∧ t.latches.getLsbD 15 = true ∧ t.queue = [] ∧ t.held = [] ∧
        (∀ c : Chan, t.chans[c].driven = false) ∧ TablesKept s t) ∧
    (s.node.st = .quiet → exec (.quiet f mask) s = .next { h with node := { s.node with wakeMask := mask } }) ∧
    (s.node.st = .tripped → exec (.quiet f mask) s = .next (turnedAway f.tag .state h))

/-- Reset, in every node state a frame can find: SAFE with everything stopped, the groups disarmed, the holdoffs stopped, the latches, the
refusal record and the counts cleared, and the wake cause written where the node was QUIET; the tables, the lamp image and the trip record are
kept (R165). -/
def Obligations.ResetStopsAndClears : Prop :=
  ∀ (f : Head) (s : State), Heard f s →
    ∃ t, exec (.reset f) s = .next t ∧
      t.node = { s.node with st := .safe, relay := false, settle := none,
                             wake := if s.node.st = .quiet then .resetOrder else s.node.wake } ∧
      AllStopped t ∧ TablesKept s t ∧ t.armed = 0 ∧ (∀ r : RuleNo, t.holdoffs[r] = none) ∧ t.latches = 0 ∧
      t.dropped = 0 ∧ t.port = { s.port with downstream := encodeFrame (.reset f), silence := none, damage := 0, refusals := 0,
                                             lastAsker := .order 0, lastReason := none } ∧
      t.mon = s.mon ∧ t.inputs = s.inputs ∧ ∀ c : Chan, s.chans[c].isLocked = true → t.chans[c].isLocked = true

/-! ### Orders of coil work -/

/-- Pulse, Run, Add, Zero and Step are refused with State outside LIVE, whatever their parameters (R169). -/
def Obligations.CoilWorkOutsideLiveIsRefused : Prop :=
  ∀ (f : Head) (s : State), Heard f s → s.node.st ≠ .live →
    (∀ c k, exec (.pulse f c k) s = .next (turnedAway f.tag .state (heard (encodeFrame (.pulse f c k)) s))) ∧
    (∀ c n si fi d k, exec (.run f c n si fi d k) s =
      .next (turnedAway f.tag .state (heard (encodeFrame (.run f c n si fi d k)) s))) ∧
    (∀ b v, exec (.add f b v) s = .next (turnedAway f.tag .state (heard (encodeFrame (.add f b v)) s))) ∧
    (∀ b, exec (.zero f b) s = .next (turnedAway f.tag .state (heard (encodeFrame (.zero f b)) s))) ∧
    (∀ u n, exec (.step f u n) s = .next (turnedAway f.tag .state (heard (encodeFrame (.step f u n)) s)))

/-- A Pulse order with nothing else waiting is granted at once with the grantable kick where its channel is IDLE, the heat test passes and its draw
fits the budget in force less the flip reserve; else it waits: HeatWait where the heat test fails, Budget where the draw does not fit, ChannelBusy where
its channel is driven or recovering. A channel that does not exist, is claimed, disabled or LOCKED refuses it, in that order. A channel is claimed by the
bank whose reel, or the unit in use whose direction, it is; the budget in force is floor(3 × B / 4) while the Sag flag is set, else B (R4, R9, R19, R29,
R30, R40, R47, R52, R53, R56, R58). -/
def Obligations.PulseIsGrantedOrRefused : Prop :=
  (∀ s : State,
    budgetInForce s = (if s.mon.sag = true then 3 * s.settings.budget / 4 else s.settings.budget) ∧
    ∀ c : Chan, claimed s c = true ↔
      (∃ (b : BankNo) (r : Reel), r ∈ s.banks[b].reels ∧ r.channel = c) ∨
      ∃ u : UnitNo, s.units[u].inUse = true ∧ (s.units[u].up.toNat = c.val ∨ s.units[u].down.toNat = c.val)) ∧
  ∀ (f : Head) (ch k : Byte) (s : State), Heard f s → s.node.st = .live →
    let h := heard (encodeFrame (.pulse f ch k)) s
    (23 < ch.toNat → exec (.pulse f ch k) s = .next (turnedAway f.tag .range h)) ∧
    ∀ c : Chan, ch.toNat = c.val →
      (claimed s c = true → exec (.pulse f ch k) s = .next (turnedAway f.tag .claimed h)) ∧
      (claimed s c = false → s.coils[c].enabled = false →
        exec (.pulse f ch k) s = .next (turnedAway f.tag .disabled h)) ∧
      (claimed s c = false → s.coils[c].enabled = true → s.chans[c].act = .locked →
        exec (.pulse f ch k) s = .next (turnedAway f.tag .locked h)) ∧
      (claimed s c = false → s.coils[c].enabled = true → s.chans[c].act ≠ .locked → Calm s → s.node.relay = true →
        let asked := if k.toNat = 0 then s.coils[c].k else min k.toNat s.coils[c].k
        let given := if s.coils[c].l = 0 then asked else min asked ((s.coils[c].l - s.heat[c].q) / s.coils[c].ck)
        let limit := budgetInForce s - s.settings.reserve
        let waits := fun w : Wait => { h with queue :=
          [{ channel := c, cls := .order, kind := .pulse, source := .order f.tag, persistent := false, joined := s.now,
             merged := 1, kReq := asked, wait := w, stale := some (s.now + 250000) }] }
        (s.chans[c].act = .idle → min s.coils[c].kMin asked ≤ given → s.inUse + s.coils[c].p ≤ limit →
          exec (.pulse f ch k) s = .next { h with
            chans := s.chans.set c { s.chans[c] with
              act := .kicking { kind := .pulse, source := .order f.tag, persistent := false, began := s.now, charged := 0 }
                given (s.now + given * 1000) }
            guards := s.guards.set c { s.guards[c] with verdict := .noneYet, shortRun := 0, leakRun := 0 }
            inUse := s.inUse + s.coils[c].p }) ∧
        (s.chans[c].act = .idle → given < min s.coils[c].kMin asked → exec (.pulse f ch k) s = .next (waits .heatWait)) ∧
        (s.chans[c].act = .idle → min s.coils[c].kMin asked ≤ given → limit < s.inUse + s.coils[c].p →
          exec (.pulse f ch k) s = .next (waits .budget)) ∧
        (s.chans[c].act ≠ .idle → exec (.pulse f ch k) s = .next (waits .channelBusy)))

/-- A Release of an unclaimed channel ends its kick or its hold and leaves it RECOVERING, changing no other channel; a channel that is not driven is left as
it is; its waiting RULE and ORDER entries are withdrawn and not counted as dropped; a claimed channel refuses, and before it a number that names no channel
(R18). -/
def Obligations.ReleaseEndsTheDrive : Prop :=
  (∀ (f : Head) (ch : Byte) (s : State), Heard f s → 23 < ch.toNat →
    exec (.release f ch) s = .next (turnedAway f.tag .range (heard (encodeFrame (.release f ch)) s))) ∧
  ∀ (f : Head) (ch : Byte) (c : Chan) (s : State), Heard f s → ch.toNat = c.val →
    let h := heard (encodeFrame (.release f ch)) s
    (claimed s c = true → exec (.release f ch) s = .next (turnedAway f.tag .claimed h)) ∧
    (claimed s c = false → Calm s → s.chans[c].driven = false → exec (.release f ch) s = .next h) ∧
    (claimed s c = false → Calm s → s.chans[c].driven = true → s.coils[c].recovery ≠ 0 → s.coils[c].openFloor = 0 →
      ∃ t, exec (.release f ch) s = .next t ∧
        t.chans[c].act = .recovering (s.now + s.coils[c].recovery * 1000) ∧
        t.inUse = s.inUse - actDraw s.coils[c] s.chans[c].act ∧
        (∀ c' : Chan, c' ≠ c → t.chans[c'] = s.chans[c'] ∧ t.heat[c'] = s.heat[c'] ∧ t.guards[c'] = s.guards[c']) ∧
        t = { h with chans := t.chans, heat := t.heat, guards := t.guards, latches := t.latches, inUse := t.inUse,
                     trains := t.trains }) ∧
    (claimed s c = false →
      ∃ t, exec (.release f ch) s = .next t ∧ (∀ e ∈ t.queue, e.channel = c → e.cls ≠ .rule ∧ e.cls ≠ .order) ∧
        t.dropped = s.dropped ∧ TablesKept s t ∧ t.node = s.node) ∧
    (claimed s c = false → s.chans[c].driven = false → s.node.relay = false → s.held = [] →
      exec (.release f ch) s = .next { h with
        queue := s.queue.filter fun e => !(e.channel == c && (e.cls == .rule || e.cls == .order)) })

/-- Arm arms the groups of its mask and Acknowledge clears the latches of its mask; neither changes anything else. Disarm clears the groups of its
mask and leaves no Flip drive, no waiting Flip and no RULE entry of their rules; an empty mask changes nothing (R78, R79, R138). -/
def Obligations.MasksArmDisarmAndAcknowledge : Prop :=
  (∀ (f : Head) (s : State), Heard f s →
    (∀ mask : Byte, exec (.arm f mask) s =
      .next { heard (encodeFrame (.arm f mask)) s with armed := s.armed ||| mask }) ∧
    ∀ mask : Half, exec (.acknowledge f mask) s =
      .next { heard (encodeFrame (.acknowledge f mask)) s with latches := s.latches &&& ~~~mask }) ∧
  (∀ (f : Head) (mask : Byte) (s : State), Heard f s →
    (∃ t, exec (.disarm f mask) s = .next t ∧ t.armed = s.armed &&& ~~~mask ∧
      (∀ (c : Chan) (x : FlipContext), t.chans[c].running? = some x ∨ t.chans[c].waiting = some x →
        mask.getLsbD x.group.val = false) ∧
      (∀ (e : Entry) (n : RuleNo), e ∈ t.queue → e.source = .rule n → e.cls = .rule →
        mask.getLsbD s.rules[n].group.val = false) ∧
      TablesKept s t ∧ t.holdoffs = s.holdoffs ∧ t.node = s.node ∧ t.inputs = s.inputs) ∧
    (mask = 0 → exec (.disarm f mask) s = .next (heard (encodeFrame (.disarm f mask)) s)))

/-- Run starts a bare train in the lowest free context with its count and clamped profile, its first pulse offered, or already granted with the
interval of R95 begun; it extends the bare train a channel has; it is refused with Range, Claimed, Disabled or Locked, in that order, and then with Overflow
or Busy (R93, R94, R95, R99, R103). -/
def Obligations.RunStartsOrExtendsABareTrain : Prop :=
  ∀ (f : Head) (ch n : Byte) (si fi : Half) (d k : Byte) (s : State), Heard f s → s.node.st = .live →
    let h := heard (encodeFrame (.run f ch n si fi d k)) s
    let count := max 1 n.toNat
    (23 < ch.toNat → exec (.run f ch n si fi d k) s = .next (turnedAway f.tag .range h)) ∧
    ∀ c : Chan, ch.toNat = c.val →
    (claimed s c = true → exec (.run f ch n si fi d k) s = .next (turnedAway f.tag .claimed h)) ∧
    (claimed s c = false → s.coils[c].enabled = false → exec (.run f ch n si fi d k) s = .next (turnedAway f.tag .disabled h)) ∧
    (claimed s c = false → s.coils[c].enabled = true → s.chans[c].isLocked = true →
      exec (.run f ch n si fi d k) s = .next (turnedAway f.tag .locked h)) ∧
    (claimed s c = false → s.coils[c].enabled = true → s.chans[c].isLocked = false →
    (∀ t₀ : TrainNo, trainOn s c = none → firstFree s = some t₀ →
      ∃ t x, exec (.run f ch n si fi d k) s = .next t ∧ t.trains[t₀] = some x ∧ x.owner = .bare ∧ x.channel = c ∧
        x.planned = count ∧ x.profile.start = max 10 (min si.toNat 500) ∧
        x.profile.floor = max 10 (min fi.toNat x.profile.start) ∧ x.profile.ramp = d.toNat ∧
        x.profile.idle = min k.toNat 7 ∧ TablesKept s t ∧ t.banks = s.banks ∧ t.units = s.units ∧ t.node = s.node ∧
        ((∀ e ∈ s.queue, e.source ≠ .train t₀) → t₀ ∉ s.held →
          (x.state = .wait ∧ x.issued = 0 ∧ x.interval = none) ∨
          (x.state = .pulse ∧ x.issued = 1 ∧ x.inFlight = true ∧
            x.interval = some (s.now + intervalFor x.profile 1 count * 1000)))) ∧
    (trainOn s c = none → firstFree s = none → exec (.run f ch n si fi d k) s = .next (turnedAway f.tag .busy h)) ∧
    (∀ (t₀ : TrainNo) (x : Train), trainOn s c = some t₀ → s.trains[t₀] = some x → x.owner = .bare →
      (1023 < x.planned + count → exec (.run f ch n si fi d k) s = .next (turnedAway f.tag .overflow h)) ∧
      (x.planned + count ≤ 1023 → x.state ≠ .verify →
        exec (.run f ch n si fi d k) s =
          .next { h with trains := s.trains.set t₀ (some { x with planned := x.planned + count }) })))

/-- Cancel frees a channel's bare train, a counter unit's train with its pending opposite count and position, and every context of a reel
bank; with nothing to cancel it changes nothing; a claimed channel refuses it, and so does a target or a number that does not exist (R104, R105,
R115, R123). -/
def Obligations.CancelFreesTrains : Prop :=
  ∀ (f : Head) (number : Byte) (s : State), Heard f s →
    let h := fun target : Byte => heard (encodeFrame (.cancel f target number)) s
    (∀ (c : Chan) (t₀ : TrainNo) (x : Train), number.toNat = c.val → claimed s c = false → trainOn s c = some t₀ →
      s.trains[t₀] = some x → x.owner = .bare →
      ∃ t, exec (.cancel f 0 number) s = .next t ∧ t.trains[t₀] = none ∧ t₀ ∉ t.held ∧
        (∀ e ∈ t.queue, e.source ≠ .train t₀) ∧ TablesKept s t ∧ t.units = s.units ∧ t.banks = s.banks) ∧
    (∀ (u : UnitNo) (t₀ : TrainNo), number.toNat = u.val → trainOf s (.counter u) = some t₀ →
      ∃ t, exec (.cancel f 1 number) s = .next t ∧ t.trains[t₀] = none ∧ t₀ ∉ t.held ∧
        (∀ e ∈ t.queue, e.source ≠ .train t₀) ∧ t.units[u].opposite = 0 ∧ t.units[u].position = none ∧ TablesKept s t) ∧
    (∀ b : BankNo, number.toNat = b.val → bankTrains s b ≠ [] →
      ∃ t, exec (.cancel f 2 number) s = .next t ∧ (∀ k ∈ bankTrains s b, t.trains[k] = none ∧ k ∉ t.held) ∧
        t.banks[b].state = .idle ∧ (∀ r ∈ t.banks[b].reels, r.position = none) ∧
        t.banks[b].rollover = s.banks[b].rollover ∧ TablesKept s t) ∧
    (∀ c : Chan, number.toNat = c.val →
      (claimed s c = true → exec (.cancel f 0 number) s = .next (turnedAway f.tag .claimed (h 0))) ∧
      (claimed s c = false → trainOn s c = none → exec (.cancel f 0 number) s = .next (h 0))) ∧
    (∀ u : UnitNo, number.toNat = u.val → trainOf s (.counter u) = none → exec (.cancel f 1 number) s = .next (h 1)) ∧
    (∀ b : BankNo, number.toNat = b.val → bankTrains s b = [] → exec (.cancel f 2 number) s = .next (h 2)) ∧
    (∀ target : Byte, 2 < target.toNat ∨ (target = 0 ∧ 23 < number.toNat) ∨ ((target = 1 ∨ target = 2) ∧ 3 < number.toNat) →
      exec (.cancel f target number) s = .next (turnedAway f.tag .range (h target)))

/-- An Add on an IDLE bank gives each reel a context with its digit as planned count, and on an ADDING bank extends each reel's train by its
digit; a bank that does not exist refuses it, then a value too large, a ZEROING bank, an Unknown reel, an Overflow of a reel's train, and for an IDLE bank
a disabled reel, a locked one and too few free contexts, in that order; 0 is taken without effect (R109, R110). -/
def Obligations.AddSetsTheReelTrains : Prop :=
  (∀ (f : Head) (bk : Byte) (value : BitVec 24) (s : State), Heard f s → s.node.st = .live → 3 < bk.toNat →
    exec (.add f bk value) s = .next (turnedAway f.tag .range (heard (encodeFrame (.add f bk value)) s))) ∧
  ∀ (f : Head) (bk : Byte) (value : BitVec 24) (b : BankNo) (s : State),
    Heard f s → s.node.st = .live → bk.toNat = b.val →
    let h := heard (encodeFrame (.add f bk value)) s
    let v := min value.toNat 99999
    let reels := s.banks[b].reels
    (v = 0 → exec (.add f bk value) s = .next h) ∧
    (v ≠ 0 → 10 ^ reels.length ≤ v → exec (.add f bk value) s = .next (turnedAway f.tag .range h)) ∧
    (v ≠ 0 → v < 10 ^ reels.length → s.banks[b].state = .zeroing →
      exec (.add f bk value) s = .next (turnedAway f.tag .busy h)) ∧
    (v ≠ 0 → v < 10 ^ reels.length → s.banks[b].state ≠ .zeroing → (∃ r ∈ reels, r.position = none) →
      exec (.add f bk value) s = .next (turnedAway f.tag .unknown h)) ∧
    (v ≠ 0 → v < 10 ^ reels.length → s.banks[b].state ≠ .zeroing → (∀ r ∈ reels, r.position ≠ none) →
      (∃ (r : Nat) (k : TrainNo) (x : Train), r < reels.length ∧ trainOf s (.reel b r) = some k ∧ s.trains[k] = some x ∧
        (100 < x.planned - x.issued + v / 10 ^ r % 10 ∨ 1023 < x.planned + v / 10 ^ r % 10)) →
      exec (.add f bk value) s = .next (turnedAway f.tag .overflow h)) ∧
    (v ≠ 0 → v < 10 ^ reels.length → s.banks[b].state = .idle → (∀ r ∈ reels, r.position ≠ none) → bankTrains s b = [] →
      let enabled := ∀ r ∈ reels, s.coils[r.channel].enabled = true
      let open_ := ∀ r ∈ reels, s.chans[r.channel].isLocked = false
      (¬ enabled → exec (.add f bk value) s = .next (turnedAway f.tag .disabled h)) ∧
      (enabled → ¬ open_ → exec (.add f bk value) s = .next (turnedAway f.tag .locked h)) ∧
      (enabled → open_ → freeTrains s < reels.length → exec (.add f bk value) s = .next (turnedAway f.tag .busy h))) ∧
    (v ≠ 0 → v < 10 ^ reels.length → s.banks[b].state = .idle → bankTrains s b = [] → reels.length ≤ freeTrains s →
      (∀ r ∈ reels, r.position ≠ none ∧ s.coils[r.channel].enabled = true ∧ s.chans[r.channel].isLocked = false) →
      ∃ t, exec (.add f bk value) s = .next t ∧ t.banks = s.banks.set b { s.banks[b] with state := .adding } ∧
        (∀ (r : Nat) (x : Reel), reels[r]? = some x → ∃ (k : TrainNo) (y : Train),
          s.trains[k] = none ∧ t.trains[k] = some y ∧ y.owner = .reel b r ∧ y.channel = x.channel ∧
          y.planned = v / 10 ^ r % 10 ∧ y.profile = s.banks[b].profile) ∧
        TablesKept s t ∧ t.units = s.units) ∧
    (v ≠ 0 → v < 10 ^ reels.length → s.banks[b].state = .adding → (∀ r ∈ reels, r.position ≠ none) →
      (∀ (r : Nat) (k : TrainNo) (x : Train), r < reels.length → trainOf s (.reel b r) = some k → s.trains[k] = some x →
        x.planned - x.issued + v / 10 ^ r % 10 ≤ 100 ∧ x.planned + v / 10 ^ r % 10 ≤ 1023) →
      ∃ t, exec (.add f bk value) s = .next t ∧ t.banks = s.banks ∧
        (∀ (r : Nat) (k : TrainNo) (x : Train), r < reels.length → trainOf s (.reel b r) = some k → s.trains[k] = some x →
          ∃ y, t.trains[k] = some y ∧ y.owner = x.owner ∧ y.planned = x.planned + v / 10 ^ r % 10) ∧
        TablesKept s t ∧ t.units = s.units)

/-- A Zero order makes the bank ZEROING: a reel at rest on 0 takes position 0, every other becomes Unknown with ten pulses planned; where every reel rests
on 0 the bank is IDLE again in the same event with its rollover count 0 (R116, R117). A bank that does not exist or has no reel refuses it, then a ZEROING
one, and an IDLE one with a disabled reel, a locked one or too few free contexts, in that order (R116). -/
def Obligations.ZeroStepsTheReelsHome : Prop :=
  (∀ (f : Head) (bk : Byte) (s : State), Heard f s → s.node.st = .live → 3 < bk.toNat →
    exec (.zero f bk) s = .next (turnedAway f.tag .range (heard (encodeFrame (.zero f bk)) s))) ∧
  ∀ (f : Head) (bk : Byte) (b : BankNo) (s : State), Heard f s → s.node.st = .live → bk.toNat = b.val →
    let h := heard (encodeFrame (.zero f bk)) s
    let reels := s.banks[b].reels
    let home := fun r : Reel => s.inputs[r.zero].closed && !s.chans[r.channel].isKicking
    (reels = [] → exec (.zero f bk) s = .next (turnedAway f.tag .range h)) ∧
    (reels ≠ [] → s.banks[b].state = .zeroing → exec (.zero f bk) s = .next (turnedAway f.tag .busy h)) ∧
    (reels ≠ [] → s.banks[b].state = .idle →
      let enabled := ∀ r ∈ reels, s.coils[r.channel].enabled = true
      let open_ := ∀ r ∈ reels, s.chans[r.channel].isLocked = false
      (¬ enabled → exec (.zero f bk) s = .next (turnedAway f.tag .disabled h)) ∧
      (enabled → ¬ open_ → exec (.zero f bk) s = .next (turnedAway f.tag .locked h)) ∧
      (enabled → open_ → freeTrains s < reels.length → exec (.zero f bk) s = .next (turnedAway f.tag .busy h))) ∧
    (reels ≠ [] →
      ((s.banks[b].state = .idle ∧ bankTrains s b = [] ∧ reels.length ≤ freeTrains s ∧
        ∀ r ∈ reels, s.coils[r.channel].enabled = true ∧ s.chans[r.channel].isLocked = false) ∨
       (s.banks[b].state = .adding ∧ reels.length ≤ (bankTrains s b).length)) →
      ∃ t, exec (.zero f bk) s = .next t ∧
        t.banks[b].reels = reels.map (fun r => { r with position := if home r then some 0 else none }) ∧
        t.banks[b].state = (if reels.all home then .idle else .zeroing) ∧
        t.banks[b].rollover = (if reels.all home then 0 else s.banks[b].rollover) ∧
        (∀ (r : Nat) (x : Reel), reels[r]? = some x → home x = false → ∃ (k : TrainNo) (y : Train),
          t.trains[k] = some y ∧ y.owner = .reel b r ∧ y.channel = x.channel ∧ y.planned = 10) ∧
        TablesKept s t ∧ t.units = s.units)

/-- A Step of a unit in use with its limit open starts a train of its count in its direction, waiting out the settle time of a fresh opposite
end; a running train is extended, shortened or ended and its pending opposite count changed, as R100 nets the step; a closed limit refuses it with
AtLimit and sets the position; a unit that does not exist or is not in use refuses it before, and a channel disabled or locked and a lack of free contexts
refuse a new train after, in that order; a count of 0 is taken without effect, for a unit not in use too (the model's reading, log entry 16) (R99, R100, R101,
R120, R121). -/
def Obligations.StepStartsOrChangesTheUnitsTrain : Prop :=
  (∀ (f : Head) (ub count : Byte) (s : State), Heard f s → s.node.st = .live → 3 < ub.toNat →
    exec (.step f ub count) s = .next (turnedAway f.tag .range (heard (encodeFrame (.step f ub count)) s))) ∧
  ∀ (f : Head) (ub count : Byte) (u : UnitNo) (s : State), Heard f s → s.node.st = .live → ub.toNat = u.val →
    let h := heard (encodeFrame (.step f ub count)) s
    let n : Int := max (-99) (min count.toInt 99)
    let m := n.natAbs
    let x := s.units[u]
    let dir : Dir := if 0 < n then .up else .down
    let limit := s.closedByte (if 0 < n then x.top else x.zero)
    (n = 0 → exec (.step f ub count) s = .next h) ∧
    (n ≠ 0 → x.inUse = false → exec (.step f ub count) s = .next (turnedAway f.tag .range h)) ∧
    (n ≠ 0 → x.inUse = true → limit = true →
      exec (.step f ub count) s = .next { turnedAway f.tag .atLimit h with
        latches := s.latches ||| 0x802
        units := s.units.set u { x with position := some (if 0 < n then x.maximum else 0) } }) ∧
    (∀ c : Chan, n ≠ 0 → x.inUse = true → limit = false → trainOf s (.counter u) = none →
      (if 0 < n then x.up else x.down).toNat = c.val →
      (s.coils[c].enabled = false → exec (.step f ub count) s = .next (turnedAway f.tag .disabled h)) ∧
      (s.coils[c].enabled = true → s.chans[c].isLocked = true →
        exec (.step f ub count) s = .next (turnedAway f.tag .locked h)) ∧
      (s.coils[c].enabled = true → s.chans[c].isLocked = false → firstFree s = none →
        exec (.step f ub count) s = .next (turnedAway f.tag .busy h))) ∧
    (∀ (c : Chan) (k : TrainNo), n ≠ 0 → x.inUse = true → limit = false → trainOf s (.counter u) = none →
      (if 0 < n then x.up else x.down).toNat = c.val → s.coils[c].enabled = true → s.chans[c].isLocked = false →
      firstFree s = some k →
      ∃ t y, exec (.step f ub count) s = .next t ∧ t.trains[k] = some y ∧ y.owner = .counter u ∧ y.channel = c ∧
        y.dir = dir ∧ y.planned = m ∧ y.profile = x.profile ∧ t.units = s.units ∧ TablesKept s t ∧
        ∀ d e, x.last = some (d, e) → d ≠ dir → s.now < e + x.settle * 1000 →
          y.state = .settle ∧ y.settle = some (e + x.settle * 1000) ∧ y.issued = 0) ∧
    (∀ (k : TrainNo) (y : Train), n ≠ 0 → x.inUse = true → limit = false → trainOf s (.counter u) = some k →
      s.trains[k] = some y → x.opposite = 0 →
      (y.dir = dir → y.state ≠ .verify → y.planned + m ≤ 1023 →
        exec (.step f ub count) s =
          .next { h with trains := s.trains.set k (some { y with planned := y.planned + m }),
                         units := s.units.set u { x with opposite := 0 } }) ∧
      (y.dir = dir → 1023 < y.planned + m →
        exec (.step f ub count) s = .next (turnedAway f.tag .overflow h)) ∧
      (y.dir ≠ dir → m < y.planned - y.issued →
        exec (.step f ub count) s =
          .next { h with trains := s.trains.set k (some { y with planned := y.planned - m }) }) ∧
      (y.dir ≠ dir → y.planned - y.issued ≤ m → y.state = .pulse ∨ y.state = .gap →
        exec (.step f ub count) s =
          .next { h with trains := s.trains.set k (some { y with planned := y.issued }),
                         units := s.units.set u { x with opposite := m - (y.planned - y.issued) } }) ∧
      (y.dir ≠ dir → y.planned - y.issued ≤ m → y.state = .wait ∨ y.state = .settle →
        ∃ t, exec (.step f ub count) s = .next t ∧ t.units[u].opposite = 0 ∧ TablesKept s t ∧
          (m = y.planned - y.issued → t.trains[k] = none ∧ ∀ e ∈ t.queue, e.source ≠ .train k) ∧
          ∀ c : Chan, y.planned - y.issued < m → (if 0 < n then x.up else x.down).toNat = c.val →
            s.coils[c].enabled = true → s.chans[c].isLocked = false →
            ∃ (k' : TrainNo) (z : Train), t.trains[k'] = some z ∧ z.owner = .counter u ∧ z.channel = c ∧ z.dir = dir ∧
              z.planned = m - (y.planned - y.issued))) ∧
    ∀ (k : TrainNo) (y : Train), n ≠ 0 → x.inUse = true → limit = false → trainOf s (.counter u) = some k →
      s.trains[k] = some y → 0 < x.opposite → y.planned ≤ 1023 →
      (y.dir ≠ dir → exec (.step f ub count) s =
        .next { h with units := s.units.set u { x with opposite := min 99 (x.opposite + m) } }) ∧
      (y.dir = dir → m ≤ x.opposite → exec (.step f ub count) s =
        .next { h with units := s.units.set u { x with opposite := x.opposite - m } }) ∧
      (y.dir = dir → x.opposite < m → y.planned + (m - x.opposite) ≤ 1023 → y.state ≠ .verify →
        exec (.step f ub count) s =
          .next { h with trains := s.trains.set k (some { y with planned := y.planned + (m - x.opposite) }),
                         units := s.units.set u { x with opposite := 0 } }) ∧
      (y.dir = dir → 1023 < y.planned + (m - x.opposite) →
        exec (.step f ub count) s = .next (turnedAway f.tag .overflow h))

/-- Lock takes a channel that is not LOCKED to LOCKED with cause Manual: its drive is cut, its entries and its train go, its strikes stay and the Locked
latch is set (R21, R131); a LOCKED channel is left as it is, and a number that names no channel refuses it. Unlock returns a LOCKED channel to IDLE with a
clean protection record, leaves any other channel as it is, and is refused with State in TRIPPED and with Range for a channel that does not exist (R22,
R127), the Range check coming first in TRIPPED too (the model's reading, log entry 15). -/
def Obligations.LockAndUnlockTakeTheChannel : Prop :=
  (∀ (f : Head) (ch : Byte) (s : State), Heard f s → 23 < ch.toNat →
    exec (.lock f ch) s = .next (turnedAway f.tag .range (heard (encodeFrame (.lock f ch)) s))) ∧
  (∀ (f : Head) (ch : Byte) (c : Chan) (s : State), Heard f s → ch.toNat = c.val →
    (s.chans[c].isLocked = true → exec (.lock f ch) s = .next (heard (encodeFrame (.lock f ch)) s)) ∧
    (s.chans[c].isLocked = false →
      (∀ (k : TrainNo) (x : Train), s.trains[k] = some x → x.channel = c → trainOn s c = some k) →
      ∃ t, exec (.lock f ch) s = .next t ∧ t.chans[c].act = .locked ∧ t.chans[c].waiting = none ∧
        t.guards[c].cause = some .manual ∧ t.guards[c].strikes = s.guards[c].strikes ∧ t.latches.getLsbD 6 = true ∧
        (∀ e ∈ t.queue, e.channel ≠ c) ∧ (∀ (k : TrainNo) (x : Train), t.trains[k] = some x → x.channel ≠ c) ∧
        TablesKept s t ∧ t.node = s.node ∧ t.inputs = s.inputs)) ∧
  ∀ (f : Head) (ch : Byte) (s : State), Heard f s →
    let h := heard (encodeFrame (.unlock f ch)) s
    (23 < ch.toNat → exec (.unlock f ch) s = .next (turnedAway f.tag .range h)) ∧
    ∀ c : Chan, ch.toNat = c.val →
      (s.node.st = .tripped → exec (.unlock f ch) s = .next (turnedAway f.tag .state h)) ∧
      (s.node.st ≠ .tripped → s.chans[c].isLocked = false → exec (.unlock f ch) s = .next h) ∧
      (s.node.st ≠ .tripped → s.chans[c].act = .locked → Calm s →
        exec (.unlock f ch) s = .next { h with
          chans := s.chans.set c { s.chans[c] with act := .idle }
          guards := s.guards.set c { s.guards[c] with cause := none, strikes := 0, shortRun := 0, leakRun := 0 } })

/-! ### Lamp orders and counts -/

/-- SetLamps and SetModes change the lamps of their run and nothing else; a run past lamp 63, or a mode that does not exist, refuses
them (R146, R147). A Move by a positive count rotates a ring: member i takes the level that member (i − n) mod L held, and no mode and no other lamp
changes; 0 is taken without effect and an unused ring refuses it (R149). -/
def Obligations.LampRunsAreSetAndRingsRotate : Prop :=
  (∀ (f : Head) (first count : Byte) (items : List Byte) (s : State), Heard f s → items.length = count.toNat →
    let hl := heard (encodeFrame (.setLamps f first count items)) s
    let hm := heard (encodeFrame (.setModes f first count items)) s
    let inRun := fun l : LampNo => first.toNat ≤ l.val ∧ l.val < first.toNat + count.toNat
    (first.toNat ≤ 63 → first.toNat + count.toNat ≤ 64 →
      ∃ t, exec (.setLamps f first count items) s = .next t ∧ t = { hl with lamps := t.lamps } ∧
        ∀ l : LampNo,
          (inRun l → t.lamps[l] = { s.lamps[l] with level := min 15 (items.getD (l.val - first.toNat) 0).toNat }) ∧
          (¬ inRun l → t.lamps[l] = s.lamps[l])) ∧
    (first.toNat ≤ 63 → first.toNat + count.toNat ≤ 64 → (∀ m ∈ items, m.toNat ≤ 2) →
      ∃ t, exec (.setModes f first count items) s = .next t ∧ t = { hm with lamps := t.lamps } ∧
        ∀ l : LampNo,
          (inRun l → t.lamps[l].level = s.lamps[l].level ∧
            modeCode t.lamps[l].mode = (items.getD (l.val - first.toNat) 0).toNat) ∧
          (¬ inRun l → t.lamps[l] = s.lamps[l])) ∧
    (63 < first.toNat ∨ 64 < first.toNat + count.toNat →
      exec (.setLamps f first count items) s = .next (turnedAway f.tag .range hl) ∧
      exec (.setModes f first count items) s = .next (turnedAway f.tag .range hm)) ∧
    ((∃ m ∈ items, 2 < m.toNat) → exec (.setModes f first count items) s = .next (turnedAway f.tag .range hm))) ∧
  ∀ (f : Head) (rb count : Byte) (s : State), Heard f s →
    let h := heard (encodeFrame (.move f rb count)) s
    (3 < rb.toNat → exec (.move f rb count) s = .next (turnedAway f.tag .range h)) ∧
    ∀ r : RingNo, rb.toNat = r.val →
      let ms := s.rings[r].members
      (ms = [] → exec (.move f rb count) s = .next (turnedAway f.tag .range h)) ∧
      (ms ≠ [] → count = 0 → exec (.move f rb count) s = .next h) ∧
      (ms ≠ [] → 0 < count.toInt → ms.Nodup →
        ∃ t, exec (.move f rb count) s = .next t ∧ t = { h with lamps := t.lamps } ∧
          (∀ l : LampNo, t.lamps[l].mode = s.lamps[l].mode ∧ (l ∉ ms → t.lamps[l] = s.lamps[l])) ∧
          ∀ (i j : Nat) (a b : LampNo), ms[i]? = some a → ms[j]? = some b →
            (j + count.toNat) % ms.length = i → t.lamps[a].level = s.lamps[b].level)

/-- A Move by a negative count fills a ring: member i takes the level of member i − |n|, or of member 0 where i is below |n|, and no mode and
no other lamp changes (R150). -/
def Obligations.MoveFillsTheRing : Prop :=
  ∀ (f : Head) (rb count : Byte) (r : RingNo) (s : State), Heard f s → rb.toNat = r.val →
    let ms := s.rings[r].members
    ms ≠ [] → count.toInt < 0 → ms.Nodup →
      ∃ t, exec (.move f rb count) s = .next t ∧
        t = { heard (encodeFrame (.move f rb count)) s with lamps := t.lamps } ∧
        (∀ l : LampNo, t.lamps[l].mode = s.lamps[l].mode ∧ (l ∉ ms → t.lamps[l] = s.lamps[l])) ∧
        ∀ (i : Nat) (a b : LampNo), ms[i]? = some a → ms[i - count.toInt.natAbs]? = some b →
          t.lamps[a].level = s.lamps[b].level

/-- ClearCounts sets the closure counts of the inputs of its mask to 0 and clears their change latches, in every node state and for every
mask, and touches no other input, no level, no run and no record; outside CHAIN-LOST nothing else changes (R73). -/
def Obligations.ClearCountsClearsItsInputs : Prop :=
  ∀ (f : Head) (mask : BitVec 32) (s : State),
    f.damage = 0 → s.port.address ≠ 0 → f.dest = 0 ∨ f.dest = s.port.address.setWidth 8 →
    ∃ t, exec (.clearCounts f mask) s = .next t ∧
      (∀ i : InputNo, t.inputs[i] =
        if mask.getLsbD i.val then { s.inputs[i] with count := 0, closeLatch := false, openLatch := false }
        else s.inputs[i]) ∧
      t.port.refusals = s.port.refusals ∧
      (s.node.st ≠ .chainLost → s.passDue = false →
        t = { heard (encodeFrame (.clearCounts f mask)) s with inputs := t.inputs })

/-! ### Loads -/

/-- A load of the node settings record replaces every field, each clamped to its range (R34, R50, R130, R134 to R136, R141, R143, R145, R159,
R163). A load of an input record re-seats the input where the polarity changes, discards the run where the debounce class changes, and is
refused with Range for an input, a polarity or a class that does not exist (R64, R67). -/
def Obligations.SettingsAndInputLoadsAct : Prop :=
  (∀ (f : Head) (r : SettingsRec) (s : State), Heard f s → Calm s →
    exec (.loadNodeSettings f r) s = .next { heard (encodeFrame (.loadNodeSettings f r)) s with
      settings :=
        { budget := max 1 r.budget.toNat
          reserve := min r.reserve.toNat (max 1 r.budget.toNat)
          silence := max 20 (min r.silence.toNat 2000)
          settle := max 20 (min r.settle.toNat 1000)
          sagThreshold := r.sagThreshold.toNat
          supplyFloor := r.supplyFloor.toNat
          leakThreshold := max 1 r.leakThreshold.toNat
          warmTemp := max 50 (min r.warmTemp.toNat 90)
          tripTemp := max 80 (min r.tripTemp.toNat 110)
          warmCap := max 1 (min r.warmCap.toNat 16)
          master := min r.master.toNat 15
          quietMaster := min r.quietMaster.toNat 15
          blink := max 100 (min r.blink.toNat 2000)
          warmLamp := min r.warmLamp.toNat 3
          attention := r.attention } }) ∧
  ∀ (f : Head) (r : InputRec) (s : State), Heard f s →
    let h := heard (encodeFrame (.loadInput f r)) s
    (31 < r.input.toNat ∨ 1 < r.polarity.toNat ∨ 2 < r.debounce.toNat →
      exec (.loadInput f r) s = .next (turnedAway f.tag .range h)) ∧
    ∀ (i : InputNo) (high : Bool) (d : Debounce), r.input.toNat = i.val →
      r.polarity = (if high then 1 else 0) → r.debounce = debounceCode d →
      let x := s.inputs[i]
      exec (.loadInput f r) s = .next { h with
        inputs := s.inputs.set i
         (if high ≠ x.closedHigh then { x with closedHigh := high, debounce := d, closed := x.raw == high, since := none }
         else if d ≠ x.debounce then { x with debounce := d, since := none }
         else x) }

/-- A load of a coil record on an IDLE or LOCKED channel without a train replaces the record, withdraws every entry of the channel, which counts none as
dropped, lowers the heat account to the new limit, and, where the new open floor is 0, clears the strikes of an IDLE channel; those of a LOCKED channel are
untouched, and so is its lock cause. In any other case it is refused with Busy, and first with Range for a number that names no channel (R1, R2, R38, R48).
That an enabled byte above 1 counts as yes, and that R127's clearing of the strikes at open floor 0 stops short of a LOCKED channel, whose strikes R2 keeps,
are the model's readings (log entries 9 and 27). -/
def Obligations.CoilLoadReplacesTheRecord : Prop :=
  (∀ (f : Head) (r : CoilRec) (s : State), Heard f s → 23 < r.channel.toNat →
    exec (.loadCoil f r) s = .next (turnedAway f.tag .range (heard (encodeFrame (.loadCoil f r)) s))) ∧
  ∀ (f : Head) (r : CoilRec) (c : Chan) (s : State), Heard f s → r.channel.toNat = c.val →
    let h := heard (encodeFrame (.loadCoil f r)) s
    let k := max 1 (min r.kick.toNat 250)
    let l := r.heatLimit.toNat
    let q := min l s.heat[c].q
    let alert := fun (l a q : Nat) => decide (0 < l ∧ 0 < q ∧ a ≤ q)
    ((s.chans[c].act ≠ .idle ∧ s.chans[c].act ≠ .locked) ∨ trainOn s c ≠ none →
      exec (.loadCoil f r) s = .next (turnedAway f.tag .busy h)) ∧
    let record : Coil :=
      { enabled := r.enabled != 0, p := max 1 (min r.power.toNat 15), k := k, kMin := max 1 (min r.kickMin.toNat k),
        h := min r.hold.toNat 16, holdLimit := min r.holdLimit.toNat 60000, recovery := min r.recovery.toNat 250,
        l := l, a := min r.alert.toNat l, s := max 1 (min r.shift.toNat 12), ck := max 1 r.rate.toNat,
        openFloor := r.openFloor.toNat, shortCeiling := max 1 r.shortCeiling.toNat }
    (s.chans[c].act = .idle ∨ s.chans[c].act = .locked → trainOn s c = none →
      ∃ t, exec (.loadCoil f r) s = .next t ∧ t.coils = s.coils.set c record ∧ t.heat[c].q = q ∧
        (∀ e ∈ t.queue, e.channel ≠ c) ∧ t.chans[c].waiting = none ∧ t.dropped = s.dropped) ∧
    (s.chans[c].act = .idle ∨ s.chans[c].act = .locked → trainOn s c = none → Calm s →
      exec (.loadCoil f r) s = .next { h with
        coils := s.coils.set c record
        chans := s.chans.set c { s.chans[c] with waiting := none }
        heat := s.heat.set c { s.heat[c] with q := q }
        latches := if !alert s.coils[c].l s.coils[c].a s.heat[c].q && alert l (min r.alert.toNat l) q then s.latches ||| 8
          else s.latches
        guards := if r.openFloor = 0 ∧ s.chans[c].act ≠ .locked then
            s.guards.set c { s.guards[c] with strikes := 0 }
          else s.guards })

/-- A load of a rule replaces it, stops its holdoff and leaves no Flip drive, no waiting Flip and no RULE entry of the old one; a Pulse or
Flip naming a claimed channel is refused with Claimed, and a number, code or Flip that R76 does not admit with Range (R20, R75, R76, R77). A persistent
byte above 1 counts as yes and the bytes an action does not use are ignored (the model's readings, log entries 9 and 24). -/
def Obligations.RuleLoadReplacesTheRule : Prop :=
  (∀ (f : Head) (r : RuleRec) (s : State), Heard f s →
    31 < r.rule.toNat ∨ 31 < r.trigger.toNat ∨ 7 < r.group.toNat ∨ 1 < r.edge.toNat ∨ 4 < r.action.toNat ∨
      ((r.action = 1 ∨ r.action = 2) ∧ 23 < r.p0.toNat) ∨ ((r.action = 3 ∨ r.action = 4) ∧ 3 < r.p0.toNat) ∨
      (r.action = 2 ∧ (r.edge ≠ 0 ∨ 2 < r.p2.toNat ∨ r.p1 = r.trigger ∨ (31 < r.p1.toNat ∧ r.p1 ≠ 255))) →
    exec (.loadRule f r) s = .next (turnedAway f.tag .range (heard (encodeFrame (.loadRule f r)) s))) ∧
  ∀ (f : Head) (r : RuleRec) (n : RuleNo) (t₀ : InputNo) (g : GroupNo) (a : Action) (s : State), Heard f s →
    r.rule.toNat = n.val → r.trigger.toNat = t₀.val → r.group.toNat = g.val → r.edge.toNat ≤ 1 → ActionLoaded r a →
    ((∃ c, a.channel? = some c ∧ claimed s c = true) →
      exec (.loadRule f r) s = .next (turnedAway f.tag .claimed (heard (encodeFrame (.loadRule f r)) s))) ∧
    ((∀ c, a.channel? = some c → claimed s c = false) →
      ∃ t, exec (.loadRule f r) s = .next t ∧
        t.rules = s.rules.set n { trigger := t₀, onClose := r.edge == 0, action := a, group := g,
                                  holdoff := min r.holdoff.toNat 1000, persistent := r.persistent != 0 && a.drives } ∧
        t.holdoffs = s.holdoffs.set n none ∧
        (∀ (c : Chan) (x : FlipContext), t.chans[c].running? = some x ∨ t.chans[c].waiting = some x → x.rule ≠ n) ∧
        (∀ e ∈ t.queue, e.cls = .rule → e.source ≠ .rule n) ∧
        t.armed = s.armed ∧ t.coils = s.coils ∧ t.settings = s.settings ∧ t.lamps = s.lamps ∧ t.node = s.node)

/-- A load of a bank record replaces the bank with every reel Unknown, its rollover count 0 and IDLE, and withdraws the FLIP, RULE and ORDER entries of
its channels, none counted as dropped; it is refused with Range for a bank, or a channel or zero switch within its width, that does not exist, then with
Claimed for a channel named twice or claimed elsewhere, then with Busy for a bank with contexts or a channel in work (R20, R48, R107). -/
def Obligations.BankLoadReplacesTheBank : Prop :=
  (∀ (f : Head) (r : BankRec) (s : State), Heard f s → r.reels.length = 5 →
    3 < r.bank.toNat ∨ (∃ (i : Nat) (p : Byte × Byte), i < r.width.toNat ∧ r.reels[i]? = some p ∧ (23 < p.1.toNat ∨ 31 < p.2.toNat)) →
    exec (.loadBank f r) s = .next (turnedAway f.tag .range (heard (encodeFrame (.loadBank f r)) s))) ∧
  ∀ (f : Head) (r : BankRec) (b : BankNo) (reels : List Reel) (s : State), Heard f s → r.bank.toNat = b.val →
    r.reels.length = 5 → reels.length = min r.width.toNat 5 →
    (∀ (i : Nat) (x : Reel) (p : Byte × Byte), reels[i]? = some x → r.reels[i]? = some p →
      x.position = none ∧ p.1.toNat = x.channel.val ∧ p.2.toNat = x.zero.val) →
    let h := heard (encodeFrame (.loadBank f r)) s
    let named := reels.map (·.channel)
    let free := named.Nodup ∧ ∀ c ∈ named, claimedBesideBank s b c = false
    let still := bankTrains s b = [] ∧ ∀ c ∈ named, trainOn s c = none ∧ s.chans[c].driven = false
    let start := max 10 (min r.startIv.toNat 500)
    (¬ free → exec (.loadBank f r) s = .next (turnedAway f.tag .claimed h)) ∧
    (free → ¬ still → exec (.loadBank f r) s = .next (turnedAway f.tag .busy h)) ∧
    let record : Bank :=
      { reels := reels, state := .idle, rollover := 0,
        profile := { start := start, floor := max 10 (min r.floorIv.toNat start), ramp := r.ramp.toNat, idle := min r.idle.toNat 7 } }
    (free → still →
      ∃ t, exec (.loadBank f r) s = .next t ∧ t.banks = s.banks.set b record ∧
        (∀ e ∈ t.queue, e.channel ∈ named → e.cls = .step) ∧ (∀ c ∈ named, t.chans[c].waiting = none) ∧
        t.dropped = s.dropped) ∧
    (free → still → Calm s →
      ∃ t, exec (.loadBank f r) s = .next t ∧ t = { h with banks := t.banks, chans := t.chans } ∧
        t.banks = s.banks.set b record ∧
        ∀ c : Chan, t.chans[c] = if c ∈ named then { s.chans[c] with waiting := none } else s.chans[c])

/-- A load of a counter-unit record replaces the unit, with its position from its limits, no pending opposite count and no settle record, and
withdraws the FLIP, RULE and ORDER entries of its channels, none counted as dropped; one in use is refused with Range, Claimed or Busy in that order,
and one not in use with Range for its unit number and Busy alone (R20, R48, R118). That an in-use byte above 1 counts as yes, and
what a record not in use stores, are the model's readings (log entries 9 and 12). -/
def Obligations.UnitLoadReplacesTheUnit : Prop :=
  (∀ (f : Head) (r : UnitRec) (s : State), Heard f s → 3 < r.unit.toNat →
    exec (.loadUnit f r) s = .next (turnedAway f.tag .range (heard (encodeFrame (.loadUnit f r)) s))) ∧
  ∀ (f : Head) (r : UnitRec) (u : UnitNo) (s : State), Heard f s → r.unit.toNat = u.val →
    let h := heard (encodeFrame (.loadUnit f r)) s
    let start := max 10 (min r.startIv.toNat 500)
    let top := max 1 (min r.maximum.toNat 99)
    let loaded := fun position : Option Nat =>
      ({ inUse := r.inUse != 0, up := r.up, down := r.down, top := r.top, zero := r.zero, maximum := top,
         settle := min r.settle.toNat 500,
         profile := { start := start, floor := max 10 (min r.floorIv.toNat start), ramp := r.ramp.toNat,
                      idle := min r.idle.toNat 7 },
         position := position, opposite := 0, last := none } : CounterUnit)
    (r.inUse = 0 → trainOf s (.counter u) ≠ none → exec (.loadUnit f r) s = .next (turnedAway f.tag .busy h)) ∧
    (r.inUse = 0 → trainOf s (.counter u) = none →
      exec (.loadUnit f r) s = .next { h with units := s.units.set u (loaded
        (if s.closedByte r.top && !s.closedByte r.zero then some top
         else if s.closedByte r.zero && !s.closedByte r.top then some 0
         else none)) }) ∧
    (r.inUse ≠ 0 → 23 < r.up.toNat ∨ 23 < r.down.toNat ∨ 31 < r.top.toNat ∨ 31 < r.zero.toNat ∨ r.top = r.zero →
      exec (.loadUnit f r) s = .next (turnedAway f.tag .range h)) ∧
    ∀ (up down : Chan) (t₀ z₀ : InputNo), r.inUse ≠ 0 → r.up.toNat = up.val → r.down.toNat = down.val →
      r.top.toNat = t₀.val → r.zero.toNat = z₀.val → t₀ ≠ z₀ →
      let free := up ≠ down ∧ claimedBesideUnit s u up = false ∧ claimedBesideUnit s u down = false
      let still := trainOf s (.counter u) = none ∧ ∀ c : Chan, c = up ∨ c = down →
        trainOn s c = none ∧ s.chans[c].driven = false
      (¬ free → exec (.loadUnit f r) s = .next (turnedAway f.tag .claimed h)) ∧
      (free → ¬ still → exec (.loadUnit f r) s = .next (turnedAway f.tag .busy h)) ∧
      let record := loaded
        (if s.inputs[t₀].closed && !s.inputs[z₀].closed then some top
         else if s.inputs[z₀].closed && !s.inputs[t₀].closed then some 0
         else none)
      (free → still →
        ∃ t, exec (.loadUnit f r) s = .next t ∧ t.units = s.units.set u record ∧
          (∀ e ∈ t.queue, e.channel = up ∨ e.channel = down → e.cls = .step) ∧
          t.chans[up].waiting = none ∧ t.chans[down].waiting = none ∧ t.dropped = s.dropped) ∧
      (free → still → Calm s →
        exec (.loadUnit f r) s = .next { h with
          units := s.units.set u record
          chans := (s.chans.set up { s.chans[up] with waiting := none }).set down { s.chans[down] with waiting := none } })

/-- A load of a ring record replaces the ring and starts its chase timer afresh; a ring or a lamp that does not exist refuses it with Range, and then
a lamp named twice or a member of another ring with Claimed (R148, R151). That a load of length 0 keeps the chase period and starts no timer is the
model's choice (log entry 33). -/
def Obligations.RingLoadReplacesTheRing : Prop :=
  (∀ (f : Head) (r : RingRec) (s : State), Heard f s → r.members.length = 16 →
    3 < r.ring.toNat ∨ (∃ (i : Nat) (m : Byte), i < r.length.toNat ∧ r.members[i]? = some m ∧ 63 < m.toNat) →
    exec (.loadRing f r) s = .next (turnedAway f.tag .range (heard (encodeFrame (.loadRing f r)) s))) ∧
  ∀ (f : Head) (r : RingRec) (n : RingNo) (ms : List LampNo) (s : State), Heard f s → r.ring.toNat = n.val →
    r.members.length = 16 → ms.length = min r.length.toNat 16 →
    (∀ (i : Nat) (l : LampNo) (m : Byte), ms[i]? = some l → r.members[i]? = some m → m.toNat = l.val) →
    let h := heard (encodeFrame (.loadRing f r)) s
    let free := ms.Nodup ∧ ∀ (l : LampNo) (o : RingNo), l ∈ ms → o ≠ n → l ∉ s.rings[o].members
    let period := if r.chase = 0 then 0 else max 50 (min r.chase.toNat 2000)
    (¬ free → exec (.loadRing f r) s = .next (turnedAway f.tag .claimed h)) ∧
    (free → exec (.loadRing f r) s = .next { h with
      rings := s.rings.set n
        { members := ms, period := period,
          timer := if ms = [] ∨ period = 0 then none else some (s.now + period * 1000) } })

/-! ### Queries and sweeps -/

/-- A query to the node's own address is answered in place from the third payload byte on, its kind sent as REPLY and its checks made anew, whether
it comes as its row or as the bytes of a FRAME, and does nothing else but what every good or damaged frame does; each kind of the table has its own answer,
and a kind not in it is answered with Kind. One with fewer than 2 payload bytes goes on as REPLY with its payload as received, and where its payload
check fails with that check as received (the model's choice, log entry 30) (R155, R157, R161). -/
def Obligations.QueriesAreAnsweredInPlace : Prop :=
  (answererOf 1 = some answerSettings ∧ answererOf 2 = some answerCoil ∧ answererOf 3 = some answerInput ∧
    answererOf 4 = some answerRule ∧ answererOf 5 = some answerBank ∧ answererOf 6 = some answerCounterUnit ∧
    answererOf 7 = some answerRing ∧ answererOf 8 = some answerChannel ∧ answererOf 9 = some answerQueue ∧
    answererOf 10 = some answerTrain ∧ answererOf 11 = some answerBankStatus ∧ answererOf 12 = some answerCounter ∧
    answererOf 13 = some answerIdentity ∧ answererOf 14 = some answerMonitor ∧ answererOf 15 = some answerLamps ∧
    ∀ k : Byte, k = 0 ∨ 15 < k.toNat → answererOf k = none) ∧
  (∀ (i : Instr) (k n : Byte) (f : Head) (rest : List Byte) (s : State),
    framePayload i = some (3, f, k :: n :: rest) ∨ (i = .frame (frameBytes 3 f (k :: n :: rest)) ∧ rest.length ≤ 238) →
    f.dest = s.port.address.setWidth 8 → s.port.address ≠ 0 →
    let head := [0xD2, f.dest, 4, f.tag, BitVec.ofNat 8 (rest.length + 2)]
    let written : List Byte :=
      match answererOf k with
      | some a =>
        match a s n with
        | .ok record => if record.length + 1 ≤ rest.length then 0 :: record else [8]
        | .error why => [reasonCode why]
      | none => [10]
    let payload := k :: n :: (written ++ rest.drop written.length)
    (rest ≠ [] → f.damage = 0 → s.node.st ≠ .chainLost → s.passDue = false →
      exec i s = .next (heard (head ++ [crc8 head] ++ payload ++ halfBytes (crc16 payload)) s)) ∧
    (rest ≠ [] → f.damage ≠ 0 →
      exec i s = .next (damaged (head ++ [crc8 head] ++ payload ++ halfBytes (~~~(crc16 payload))) s)) ∧
    (rest = [] → f.damage = 0 → s.node.st ≠ .chainLost → s.passDue = false →
      exec i s = .next (heard (head ++ [crc8 head, k, n] ++ halfBytes (crc16 [k, n])) s)) ∧
    (rest = [] → f.damage ≠ 0 →
      exec i s = .next (damaged (head ++ [crc8 head, k, n] ++ halfBytes (crc16 [k, n] ^^^ f.damage)) s))) ∧
  ∀ (f : Head) (p : List Byte) (s : State), p.length ≤ 1 → f.dest = s.port.address.setWidth 8 → s.port.address ≠ 0 →
    let head := [0xD2, f.dest, 4, f.tag, BitVec.ofNat 8 p.length]
    let bytes := head ++ [crc8 head] ++ p ++ halfBytes (crc16 p ^^^ f.damage)
    (f.damage = 0 → s.node.st ≠ .chainLost → s.passDue = false →
      exec (.frame (frameBytes 3 f p)) s = .next (heard bytes s)) ∧
    (f.damage ≠ 0 → exec (.frame (frameBytes 3 f p)) s = .next (damaged bytes s))

/-- A query of kind input is answered with the record, the debounced level, the run, the closure count and the change latches of the input it
names, with Range for a number above 31, and clears nothing (R74). -/
def Obligations.InputQueriesReportAndClearNothing : Prop :=
  debounceCode .fast = 0 ∧ debounceCode .normal = 1 ∧ debounceCode .slow = 2 ∧
  ∀ (n : Byte) (s : State),
    (31 < n.toNat → answerInput s n = .error .range) ∧
    (∀ i : InputNo, n.toNat = i.val →
      answerInput s n = .ok [n, if s.inputs[i].closedHigh then 1 else 0, debounceCode s.inputs[i].debounce,
        if s.inputs[i].closed then 1 else 0, if s.inputs[i].since.isSome then 1 else 0,
        BitVec.ofNat 8 s.inputs[i].count, if s.inputs[i].closeLatch then 1 else 0,
        if s.inputs[i].openLatch then 1 else 0]) ∧
    (∀ (f : Head) (rest : List Byte), ∃ t, exec (.queryInput f n rest) s = .next t ∧ t.inputs = s.inputs) ∧
    ∀ (f : Head) (m₁ m₀ : Byte) (rest : List Byte), f.damage = 0 → s.port.address ≠ 0 →
      f.dest = s.port.address.setWidth 8 → rest.length = 9 →
      ∃ t record check, exec (.queryInput f n rest) s = .next t ∧
        answerInput s n = (if n.toNat ≤ 31 then .ok record else .error .range) ∧
        t.port.downstream = [0xD2, f.dest, 4, f.tag, 11, check, 3, n] ++
          (if n.toNat ≤ 31 then 0 :: record else 8 :: rest.drop 1) ++
          halfBytes (crc16 ([3, n] ++ (if n.toNat ≤ 31 then 0 :: record else 8 :: rest.drop 1)))

/-- The node's slot of a sweep and the identity, channel, monitor, train, bank and counter status answers, byte by byte (R23, R39, R72, R106, R124, R125,
R139, R158, R160, R161). A byte without content is a free value, and a FREE context and a unit not in use answer with their number and zeros: the model's
choices (log entry 8); the rounding of milliseconds left is a free value too (log entry 7). -/
def Obligations.SlotAndStatusAnswersHoldTheirRecords : Prop :=
  ([Reason.disabled, .claimed, .busy, .unknown, .locked, .atLimit, .overflow, .range, .state, .kind].map reasonCode =
    [1, 2, 3, 4, 5, 6, 7, 8, 9, 10]) ∧
  (actCode .idle = 0 ∧ (∀ d k ends, actCode (.kicking d k ends) = 1) ∧ (∀ d heff, actCode (.holding d heff) = 2) ∧
    (∀ ends, actCode (.recovering ends) = 3) ∧ actCode .locked = 4) ∧
  ([none, some LockCause.opened, some .shorted, some .manual].map causeCode = [0, 1, 2, 3]) ∧
  ([none, some TripCause.leak, some .supply, some .heat].map tripCode = [0, 1, 2, 3]) ∧
  ([TrainState.settle, .wait, .pulse, .gap, .verify].map trainCode = [1, 2, 3, 4, 5]) ∧
  ([Dir.up, .down].map dirCode = [0, 1]) ∧
  ∀ (n : Byte) (s : State),
    (∃ m : BitVec 32, (∀ i : InputNo, m.getLsbD i.val = s.inputs[i].closed) ∧
      sweepSlot s =
        [BitVec.ofNat 8 ((match s.node.st with
            | .safe => 0
            | .arming => 1
            | .live => 2
            | .quiet => 3
            | .chainLost => 4
            | .tripped => 5) + if s.latches &&& s.settings.attention = 0 then 0 else 128),
          s.latches.extractLsb' 8 8, s.latches.extractLsb' 0 8,
          m.extractLsb' 24 8, m.extractLsb' 16 8, m.extractLsb' 8 8, m.extractLsb' 0 8] ++
        ((List.finRange 16).map fun j => BitVec.ofNat 8 (s.inputs[2 * j.val].count + 16 * s.inputs[2 * j.val + 1].count)) ++
        [BitVec.ofNat 8 s.port.refusals,
          (match s.port.lastAsker with
            | .order tag => tag
            | .rule r => BitVec.ofNat 8 r.val),
          ((match s.port.lastReason with
            | some why => reasonCode why
            | none => 0) + match s.port.lastAsker with
              | .order _ => 0
              | .rule _ => 128),
          BitVec.ofNat 8 s.port.damage, BitVec.ofNat 8 s.dropped,
          (match s.node.wake with
            | .never => 0
            | .goOrder => 1
            | .resetOrder => 2
            | .input i => BitVec.ofNat 8 (64 + i.val)),
          BitVec.ofNat 8 ((List.finRange 24).filter fun c : Chan => decide (s.chans[c].act = .locked)).length,
          BitVec.ofNat 8 ((List.finRange 24).filter fun c : Chan =>
            decide (0 < s.coils[c].l ∧ 0 < s.heat[c].q ∧ s.coils[c].a ≤ s.heat[c].q)).length,
          BitVec.ofNat 8 (bankCode s.banks[0] + 4 * bankCode s.banks[1] + 16 * bankCode s.banks[2] + 64 * bankCode s.banks[3])]) ∧
    (∀ b : Bank, bankCode b = if b.reels = [] then 0 else if b.state = .idle then 1 else if b.state = .adding then 2 else 3) ∧
    answerIdentity s n =
      .ok [0x24, 0x08, 1, s.port.address.setWidth 8, 24, 32, 64, 32, 16, 12, 4, 4, 4] ∧
    (23 < n.toNat → answerChannel s n = .error .range) ∧
    (∀ c : Chan, n.toNat = c.val →
      answerChannel s n = .ok ([n, actCode s.chans[c].act,
        (match s.chans[c].act with
          | .holding _ heff => BitVec.ofNat 8 heff
          | _ => 0)] ++ two s.heat[c].q ++ [BitVec.ofNat 8 s.guards[c].strikes, causeCode s.guards[c].cause])) ∧
    answerMonitor s n = .ok [s.mon.supply, bit s.mon.sag, BitVec.ofNat 8 s.mon.floorRun, s.mon.temp,
      bit s.mon.warm, BitVec.ofNat 8 s.mon.hotCount, tripCode s.mon.tripCause,
      (match s.mon.tripChan with
        | some c => BitVec.ofNat 8 c.val
        | none => 255),
      BitVec.ofNat 8 s.mon.trips, s.latches.extractLsb' 8 8, s.latches.extractLsb' 0 8,
      s.settings.attention.extractLsb' 8 8, s.settings.attention.extractLsb' 0 8,
      if s.latches &&& s.settings.attention = 0 then 0 else 1] ∧
    (11 < n.toNat → answerTrain s n = .error .range) ∧
    (∀ k : TrainNo, n.toNat = k.val →
      (s.trains[k] = none → answerTrain s n = .ok (n :: List.replicate 21 0)) ∧
      ∀ x : Train, s.trains[k] = some x → ∃ ms : Nat,
        answerTrain s n = .ok ([n, trainCode x.state] ++
          (match x.owner with
            | .reel b r => [0, BitVec.ofNat 8 b.val, BitVec.ofNat 8 r, BitVec.ofNat 8 x.channel.val, Config.openByte 0]
            | .counter u => [1, BitVec.ofNat 8 u.val, Config.openByte 2, BitVec.ofNat 8 x.channel.val, dirCode x.dir]
            | .bare => [2, Config.openByte 3, Config.openByte 4, BitVec.ofNat 8 x.channel.val, Config.openByte 5]) ++
          two x.planned ++ two x.issued ++ [BitVec.ofNat 8 x.profile.idle] ++ two x.profile.start ++ two x.profile.floor ++
          [BitVec.ofNat 8 x.profile.ramp] ++ two ms ++ [bit x.inFlight, bit x.held] ++
          (match x.owner with
            | .reel _ _ => [Config.openByte 1]
            | .counter u => [BitVec.ofNat 8 s.units[u].opposite]
            | .bare => [Config.openByte 6])) ∧
        (∀ ends, x.interval = some ends ∨ (x.interval = none ∧ (x.verify = .running ends ∨
            ((∀ e, x.verify ≠ .running e) ∧ x.settle = some ends))) → ms = (ends - s.now) / 1000 ∨
          ((ends - s.now) % 1000 ≠ 0 ∧ ms = (ends - s.now) / 1000 + 1)) ∧
        (x.interval = none → (∀ ends, x.verify ≠ .running ends) → x.settle = none → ms = 0)) ∧
    (3 < n.toNat → answerBankStatus s n = .error .range ∧ answerCounter s n = .error .range) ∧
    (∀ b : BankNo, n.toNat = b.val →
      answerBankStatus s n = .ok ([n, BitVec.ofNat 8 (bankCode s.banks[b]), BitVec.ofNat 8 s.banks[b].reels.length] ++
        ((List.range 5).flatMap fun r =>
          match s.banks[b].reels[r]? with
          | none => [0, 0, 0, 0]
          | some x =>
            (match x.position with
              | some p => BitVec.ofNat 8 p.val
              | none => 255) ::
            (match trainOf s (.reel b r) with
              | none => [255, Config.openByte 7, Config.openByte 8]
              | some k => BitVec.ofNat 8 k.val :: (match s.trains[k] with
                | some y => two (y.planned - y.issued)
                | none => [Config.openByte 7, Config.openByte 8]))) ++
        [BitVec.ofNat 8 s.banks[b].rollover])) ∧
    ∀ u : UnitNo, n.toNat = u.val →
      let x := s.units[u]
      (x.inUse = false → answerCounter s n = .ok (n :: List.replicate 11 0)) ∧
      (x.inUse = true →
        answerCounter s n = .ok ([n, 1,
          (match x.position with
            | some p => BitVec.ofNat 8 p
            | none => 255),
          bit (s.closedByte x.top), bit (s.closedByte x.zero)] ++
          (match trainOf s (.counter u) with
            | none => 255 :: (List.range 5).map fun j => Config.openByte (9 + j)
            | some k => BitVec.ofNat 8 k.val :: (match s.trains[k] with
              | some y => dirCode y.dir :: (two y.planned ++ two y.issued)
              | none => (List.range 5).map fun j => Config.openByte (9 + j))) ++
          [BitVec.ofNat 8 x.opposite]))

/-- The answers that hold a loaded record, the queue snapshot and the lamp image, byte by byte, and Range for a number that names nothing (R1, R50, R63,
R75, R90, R107, R118, R148, R152, R157, R161). The rounding of milliseconds is a free value (log entry 7). -/
def Obligations.RecordAnswersHoldTheirRecords : Prop :=
  ([Cls.flip, .rule, .step, .order].map clsCode = [0, 1, 2, 3]) ∧
  ([EntryKind.flip, .rekick, .pulse, .stepPulse].map kindCode = [0, 1, 2, 3]) ∧
  ([Wait.notReached, .channelBusy, .heatWait, .budget].map waitCode = [0, 1, 2, 3]) ∧
  ([EosMode.off, .stop, .rekick].map eosCode = [0, 1, 2]) ∧
  ([LampMode.steady, .blinkA, .blinkB].map modeCode = [0, 1, 2]) ∧
  (∀ us : Nat, (us % 1000 = 0 → msReported us = us / 1000) ∧
    (msReported us = us / 1000 ∨ msReported us = us / 1000 + 1)) ∧
  ∀ (n : Byte) (s : State),
    (23 < n.toNat → answerCoil s n = .error .range) ∧ (31 < n.toNat → answerRule s n = .error .range) ∧
    (3 < n.toNat → answerBank s n = .error .range ∧ answerCounterUnit s n = .error .range ∧ answerRing s n = .error .range) ∧
    (let x := s.settings
     answerSettings s n = .ok ([BitVec.ofNat 8 x.budget, BitVec.ofNat 8 x.reserve] ++ two x.silence ++ two x.settle ++
      [BitVec.ofNat 8 x.sagThreshold, BitVec.ofNat 8 x.supplyFloor, BitVec.ofNat 8 x.leakThreshold, BitVec.ofNat 8 x.warmTemp,
        BitVec.ofNat 8 x.tripTemp, BitVec.ofNat 8 x.warmCap, BitVec.ofNat 8 x.master, BitVec.ofNat 8 x.quietMaster] ++
      two x.blink ++ [BitVec.ofNat 8 x.warmLamp, x.attention.extractLsb' 8 8, x.attention.extractLsb' 0 8])) ∧
    (∀ c : Chan, n.toNat = c.val →
      let x := s.coils[c]
      answerCoil s n = .ok ([n, bit x.enabled, BitVec.ofNat 8 x.p, BitVec.ofNat 8 x.k, BitVec.ofNat 8 x.kMin, BitVec.ofNat 8 x.h] ++
        two x.holdLimit ++ [BitVec.ofNat 8 x.recovery] ++ two x.l ++ two x.a ++
        [BitVec.ofNat 8 x.s, BitVec.ofNat 8 x.ck, BitVec.ofNat 8 x.openFloor, BitVec.ofNat 8 x.shortCeiling])) ∧
    (∀ r : RuleNo, n.toNat = r.val →
      let x := s.rules[r]
      answerRule s n = .ok ([n, BitVec.ofNat 8 x.trigger.val, if x.onClose then 0 else 1,
          (match x.action with
            | .inert => 0
            | .pulse _ _ => 1
            | .flip _ _ _ _ => 2
            | .step _ _ => 3
            | .add _ _ => 4), BitVec.ofNat 8 x.group.val] ++ two x.holdoff ++ [bit x.persistent] ++
        (match x.action with
          | .inert => [0, 0, 0, 0]
          | .pulse c k => [BitVec.ofNat 8 c.val, BitVec.ofNat 8 k, 0, 0]
          | .flip c eos mode a => [BitVec.ofNat 8 c.val, (match eos with
              | some e => BitVec.ofNat 8 e.val
              | none => 255), eosCode mode, BitVec.ofNat 8 a]
          | .step u m => [BitVec.ofNat 8 u.val, BitVec.ofInt 8 m, 0, 0]
          | .add b v => [BitVec.ofNat 8 b.val, BitVec.ofNat 8 (v / 65536), BitVec.ofNat 8 (v / 256), BitVec.ofNat 8 v]) ++
        two (match s.holdoffs[r] with
          | some ends => msReported (ends - s.now)
          | none => 0) ++ [s.armed])) ∧
    (∀ b : BankNo, n.toNat = b.val →
      let x := s.banks[b]
      answerBank s n = .ok ([n, BitVec.ofNat 8 x.reels.length] ++ two x.profile.start ++ two x.profile.floor ++
        [BitVec.ofNat 8 x.profile.ramp, BitVec.ofNat 8 x.profile.idle] ++
        (List.range 5).flatMap fun i =>
          match x.reels[i]? with
          | some r => [BitVec.ofNat 8 r.channel.val, BitVec.ofNat 8 r.zero.val]
          | none => [0, 0])) ∧
    (∀ u : UnitNo, n.toNat = u.val →
      let x := s.units[u]
      answerCounterUnit s n = .ok ([n, bit x.inUse, x.up, x.down, x.top, x.zero, BitVec.ofNat 8 x.maximum] ++ two x.settle ++
        two x.profile.start ++ two x.profile.floor ++ [BitVec.ofNat 8 x.profile.ramp, BitVec.ofNat 8 x.profile.idle])) ∧
    (∀ r : RingNo, n.toNat = r.val →
      let x := s.rings[r]
      answerRing s n = .ok ([n, BitVec.ofNat 8 x.members.length] ++ two x.period ++
        ((List.range 16).map fun i =>
          match x.members[i]? with
          | some l => BitVec.ofNat 8 l.val
          | none => 0) ++
        two (match x.timer with
          | some ends => msReported (ends - s.now)
          | none => 0))) ∧
    answerQueue s n = .ok ([BitVec.ofNat 8 s.inUse, BitVec.ofNat 8 (budgetInForce s), BitVec.ofNat 8 s.settings.reserve,
        BitVec.ofNat 8 s.queue.length, BitVec.ofNat 8 s.held.length] ++
      s.held.map (fun t : TrainNo => BitVec.ofNat 8 t.val) ++
      s.queue.flatMap fun e =>
        [BitVec.ofNat 8 e.channel.val, BitVec.ofNat 8 (clsCode e.cls), kindCode e.kind,
          (match e.source with
            | .rule r => BitVec.ofNat 8 r.val
            | .train t => BitVec.ofNat 8 t.val
            | .order tag => tag), bit e.persistent] ++
        two (min 65535 (msReported (s.now - e.joined))) ++
        [BitVec.ofNat 8 e.merged, BitVec.ofNat 8 e.kReq,
          BitVec.ofNat 8 (kickFor s.coils[e.channel] s.heat[e.channel].q e.kReq), waitCode e.wait]) ∧
    answerLamps s n = .ok ((List.finRange 64).map (fun l : LampNo => BitVec.ofNat 8 (s.lamps[l].level + 16 * modeCode s.lamps[l].mode)) ++
      [bit s.blink.second] ++ two (msReported (s.blink.ends - s.now)) ++
      [BitVec.ofNat 8 (if s.node.st = .quiet then s.settings.quietMaster else s.settings.master)])

/-- A well-formed sweep whose range takes in the node's address carries the node's slot in its place; the counts and change latches it reports
are cleared at a good frame end and stay at a damaged one, and a sweep of other addresses is forwarded, damaged or not. The edges of the samples between
the slot and the frame's end are counted live: they alone are left at a good end, and are added to what the slot reported, up to 15, at a damaged one
(R72, R155, R158). -/
def Obligations.SweepsCarryTheSlot : Prop :=
  ∀ (f : Head) (a c : Byte) (slots : List Byte) (s : State),
    f.dest = 0 → s.port.address ≠ 0 → 1 ≤ c.toNat → c.toNat ≤ 7 → slots.length = 32 * c.toNat →
    let place := 32 * (s.port.address.toNat - a.toNat)
    let head := [0xD2, 0, 5, f.tag, BitVec.ofNat 8 (slots.length + 2)]
    let payload := [a, c] ++ slots.take place ++ sweepSlot s ++ slots.drop (place + 32)
    let good := head ++ [crc8 head] ++ payload ++ halfBytes (crc16 payload)
    let bad := head ++ [crc8 head] ++ payload ++ halfBytes (~~~(crc16 payload))
    let mine := a.toNat ≤ s.port.address.toNat ∧ s.port.address.toNat < a.toNat + c.toNat
    (mine → f.damage = 0 → s.node.st ≠ .chainLost → s.passDue = false →
      ∃ t, exec (.sweep f a c slots []) s = .next t ∧
        t = { heard good s with inputs := t.inputs, reported := none } ∧
        ∀ i : InputNo, t.inputs[i] = { s.inputs[i] with count := 0, closeLatch := false, openLatch := false }) ∧
    (mine → f.damage ≠ 0 → (∀ i : InputNo, s.inputs[i].count ≤ 15) →
      exec (.sweep f a c slots []) s = .next { damaged bad s with reported := none }) ∧
    ∀ during : List Sample,
      let sampled := fun u : State => during.foldl (fun v x => sampleInputs x v) u
      let moved := { s with
        reported := some (s.inputs.map fun x => { count := x.count, closeLatch := x.closeLatch, openLatch := x.openLatch })
        inputs := s.inputs.map fun x => { x with count := 0, closeLatch := false, openLatch := false } }
      let u := sampled moved
      let v := sampled s
      (mine → f.damage = 0 → u.node.st ≠ .chainLost → u.passDue = false →
        exec (.sweep f a c slots during) s = .next { heard good u with reported := none }) ∧
      (mine → f.damage ≠ 0 →
        ∃ t, exec (.sweep f a c slots during) s = .next t ∧ t = { damaged bad u with inputs := t.inputs, reported := none } ∧
          ∀ i : InputNo, t.inputs[i] = { u.inputs[i] with
            count := min 15 (s.inputs[i].count + u.inputs[i].count)
            closeLatch := s.inputs[i].closeLatch || u.inputs[i].closeLatch
            openLatch := s.inputs[i].openLatch || u.inputs[i].openLatch }) ∧
      (¬ mine → f.damage = 0 → v.node.st ≠ .chainLost → v.passDue = false →
        exec (.sweep f a c slots during) s = .next (heard (encodeFrame (.sweep f a c slots [])) v)) ∧
      (¬ mine → f.damage ≠ 0 →
        exec (.sweep f a c slots during) s = .next (damaged (encodeFrame (.sweep f a c slots [])) v))

/-! ### Power-on and the node's timers -/

/-- Power-on reset gives every block its power-on values, reads the straps, and seats every input at its first sample under closed-low
polarity with no edge (R1, R24, R50, R64, R68, R75, R107, R118, R127, R140, R153, R162). That the commands that wait stay, the readings of 0, the first
expiries of the clocks and the chase periods of 0 are the model's (log entries 20, 2, 26 and 31). -/
def Obligations.PowerOnResetGivesPowerOnValues : Prop :=
  ∀ (straps : BitVec 4) (levels : BitVec 32) (s : State),
    ∃ t, exec (.powerOnReset straps levels) s = .next t ∧
      t = { State.reset with
            pending := s.pending, port := { State.reset.port with address := straps }, inputs := t.inputs } ∧
      (∀ i : InputNo, t.inputs[i] =
        { closedHigh := false, debounce := .normal, closed := !levels.getLsbD i.val, since := none, raw := levels.getLsbD i.val,
          count := 0, closeLatch := false, openLatch := false }) ∧
      t.settings =
        { budget := 24, reserve := 8, silence := 250, settle := 200, sagThreshold := 84, supplyFloor := 48, leakThreshold := 5,
          warmTemp := 70, tripTemp := 95, warmCap := 8, master := 15, quietMaster := 2, blink := 500, warmLamp := 0,
          attention := 0xFFFF } ∧
      t.node = { st := .safe, relay := false, settle := none, wakeMask := 0, wake := .never } ∧
      t.port = { address := straps, silence := none, damage := 0, refusals := 0, lastAsker := .order 0, lastReason := none,
                 downstream := [] } ∧
      t.now = 0 ∧ t.passDue = false ∧ t.reported = none ∧ t.armed = 0 ∧ t.queue = [] ∧ t.held = [] ∧ t.inUse = 0 ∧ t.dropped = 0 ∧
      t.latches = 0 ∧
      (∀ r : RuleNo, t.holdoffs[r] = none ∧
        t.rules[r] = { trigger := 0, onClose := true, action := .inert, group := 0, holdoff := 0, persistent := false }) ∧
      (∀ c : Chan, t.chans[c] = { act := .idle, waiting := none } ∧ t.heat[c] = { q := 0, f := 0 } ∧
        t.guards[c] = { strikes := 0, verdict := .noneYet, shortRun := 0, leakRun := 0, cause := none } ∧
        t.coils[c] = { enabled := false, p := 1, k := 1, kMin := 1, h := 0, holdLimit := 0, recovery := 0, l := 0, a := 0, s := 1,
                       ck := 1, openFloor := 0, shortCeiling := 1 }) ∧
      (∀ k : TrainNo, t.trains[k] = none) ∧
      (∀ b : BankNo, t.banks[b] = { reels := [], profile := { start := 10, floor := 10, ramp := 0, idle := 0 }, state := .idle,
                                    rollover := 0 }) ∧
      (∀ u : UnitNo, t.units[u] =
        { inUse := false, up := 0, down := 0, top := 0, zero := 0, maximum := 1, settle := 0,
          profile := { start := 10, floor := 10, ramp := 0, idle := 0 }, position := none, opposite := 0, last := none }) ∧
      t.mon = { supply := 0, lowRun := 0, goodRun := 0, sag := false, floorRun := 0, temp := 0, warm := false, hotCount := 0,
                tripCause := none, tripChan := none, trips := 0, lastDriven := none } ∧
      t.clocks = { sample := 250, cooling := 16000, supply := 1000, temp := 100000, strobe := 1000, driven := 0, undriven := 0 } ∧
      (∀ l : LampNo, t.lamps[l] = { level := 0, mode := .steady }) ∧
      (∀ r : RingNo, t.rings[r] = { members := [], period := 0, timer := none }) ∧
      t.blink = { second := false, ends := 250000, period := 500 } ∧ t.scan = { next := 0, slot := none, drive := [] }

/-- The silence timer's expiry takes the node to CHAIN-LOST: the relay stays closed for a persistent rule of an armed group alone, the trains and
every drive and entry that is not persistent are gone, and the groups, the holdoffs and the tables are kept (R8, R62, R105, R159, R167). The settle
timer's expiry takes the node to LIVE with the relay as it is where the supply stands at the floor or above, and otherwise trips it with cause Supply
(R132, R164, R168), the trip record's channel then none (the model's reading, log entry 17). -/
def Obligations.SilenceAndSettleTimersExpire : Prop :=
  (∀ (s : State) (ends : Nat), s.port.silence = some ends →
    ∃ t, exec .silenceExpiry s = .next t ∧
      t.node = { s.node with st := .chainLost, settle := none,
                             relay := s.rules.toList.any fun r => r.persistent && s.armed.getLsbD r.group.val } ∧
      t.port.silence = none ∧ t.held = [] ∧ (∀ k : TrainNo, t.trains[k] = none) ∧ (∀ e ∈ t.queue, e.persistent = true) ∧
      (∀ (c : Chan) (d : Drive), t.chans[c].drive? = some d → d.persistent = true ∧ t.node.relay = true) ∧
      TablesKept s t ∧ t.armed = s.armed ∧ t.holdoffs = s.holdoffs ∧ t.now = max s.now ends) ∧
  ∀ (s : State) (ends : Nat), s.node.settle = some ends → s.node.st = .arming →
    (s.settings.supplyFloor ≤ s.mon.supply.toNat →
      exec .settleExpiry s = .next { s with now := max s.now ends, node := { s.node with st := .live, settle := none } }) ∧
    (s.mon.supply.toNat < s.settings.supplyFloor →
      ∃ t, exec .settleExpiry s = .next t ∧ t.node = { s.node with st := .tripped, relay := false, settle := none } ∧
        AllStopped t ∧ TablesKept s t ∧ t.latches.getLsbD 14 = true ∧
        t.mon = { s.mon with tripCause := some .supply, tripChan := none, trips := min 255 (s.mon.trips + 1) })

/-- A sample debounces every input: a settled input that differs begins a run, a reading equal to the level ends one, a run still shorter than the
class time goes on, and one that has lasted it makes the edge, with its count and latch (R65, R66, R71); where no input makes one nothing else
changes. -/
def Obligations.SamplesDebounceEveryInput : Prop :=
  ∀ (x : Sample) (s : State), ∃ t, exec (.inputSample x) s = .next t ∧
    (∀ i : InputNo,
      let u := s.inputs[i]
      let high := x.levels.getLsbD i.val
      let reads := high == u.closedHigh
      (reads = u.closed → t.inputs[i] = { u with raw := high, since := none }) ∧
      (reads ≠ u.closed → u.since = none → t.inputs[i] = { u with raw := high, since := some s.clocks.sample }) ∧
      (∀ first, reads ≠ u.closed → u.since = some first → s.clocks.sample - first < timeFor u →
        t.inputs[i] = { u with raw := high }) ∧
      (∀ first, reads ≠ u.closed → u.since = some first → timeFor u ≤ s.clocks.sample - first → reads = true →
        t.inputs[i] = { u with raw := high, since := none, closed := true, count := min 15 (u.count + 1),
                               closeLatch := true }) ∧
      (∀ first, reads ≠ u.closed → u.since = some first → timeFor u ≤ s.clocks.sample - first → reads = false →
        t.inputs[i] = { u with raw := high, since := none, closed := false, openLatch := true })) ∧
    ((∀ i : InputNo, (x.levels.getLsbD i.val == s.inputs[i].closedHigh) = s.inputs[i].closed ∨
        ∀ first, s.inputs[i].since = some first → s.clocks.sample - first < timeFor s.inputs[i]) →
      t = { s with inputs := t.inputs, now := max s.now s.clocks.sample,
                   clocks := { s.clocks with sample := s.clocks.sample + 250 } })

/-! ### Edges -/

/-- A sample whose only edge is of one input hands it to the four consumers in the order the sample names, each finding the new level (R66, R69; that
the command names the order is the model's choice, log entry 4). The Rule Engine's taking of an edge starts the holdoff of every rule that fires and no
other, and does nothing where none fires; a rule that fires alone makes its Pulse, Flip, Step or Add request, which is granted, refused, left waiting with the
reason its wait has, or taken as its destination has it, and recorded against the rule where it is refused (R56, R58, R80 to R82, R84 to R88). -/
def Obligations.EdgesFireTheirRules : Prop :=
  (∀ (x : Sample) (i : InputNo) (first : Nat) (order : List Consumer) (s : State),
    let reads := fun j : InputNo => x.levels.getLsbD j.val == s.inputs[j].closedHigh
    reads i ≠ s.inputs[i].closed → s.inputs[i].since = some first → timeFor s.inputs[i] ≤ s.clocks.sample - first →
    (∀ j : InputNo, j ≠ i → reads j = s.inputs[j].closed ∨
      ∀ f, s.inputs[j].since = some f → s.clocks.sample - f < timeFor s.inputs[j]) →
    order.Nodup → order.length = 4 → x.order = order.map (fun y => (i, y)) →
    ∃ t, t = { s with inputs := t.inputs, now := max s.now s.clocks.sample,
                      clocks := { s.clocks with sample := s.clocks.sample + 250 } } ∧
      t.inputs[i].closed = reads i ∧
      exec (.inputSample x) s = .next (order.foldl (fun t y => deliver i (reads i) y t) t)) ∧
  ∀ (i : InputNo) (close : Bool) (s : State),
    let t := deliver i close .ruleEngine s
    let firing := fun n : RuleNo =>
      s.rules[n].trigger = i ∧ s.rules[n].onClose = close ∧ s.rules[n].action ≠ .inert ∧
      (s.node.st = .live ∨ (s.node.st = .chainLost ∧ s.rules[n].persistent = true)) ∧
      s.armed.getLsbD s.rules[n].group.val = true ∧ s.holdoffs[n] = none
    (∀ n : RuleNo,
      (firing n → s.rules[n].holdoff ≠ 0 → t.holdoffs[n] = some (s.now + s.rules[n].holdoff * 1000)) ∧
      (¬ firing n ∨ s.rules[n].holdoff = 0 → t.holdoffs[n] = s.holdoffs[n])) ∧
    ((∀ n : RuleNo, ¬ firing n) → t = s) ∧
    ∀ n : RuleNo, firing n → (∀ m : RuleNo, m ≠ n → ¬ firing m) → s.passDue = false →
      let r := s.rules[n]
      let h := { s with
        holdoffs := if r.holdoff = 0 then s.holdoffs else s.holdoffs.set n (some (s.now + r.holdoff * 1000)) }
      let turned := fun c : Chan =>
        (claimed s c = true → t = ruleRefused n .claimed h) ∧
        (claimed s c = false → s.coils[c].enabled = false → t = ruleRefused n .disabled h) ∧
        (claimed s c = false → s.coils[c].enabled = true → s.chans[c].act = .locked → t = ruleRefused n .locked h)
      let open_ := fun c : Chan =>
        claimed s c = false ∧ s.coils[c].enabled = true ∧ s.chans[c].act ≠ .locked ∧ Calm s ∧ s.node.relay = true
      let waits := fun (c : Chan) (cls : Cls) (kind : EntryKind) (asked ms : Nat) (w : Wait) => { h with queue :=
        [{ channel := c, cls := cls, kind := kind, source := .rule n, persistent := r.persistent, joined := s.now, merged := 1,
           kReq := asked, wait := w, stale := some (s.now + ms * 1000) }] }
      let kicked := fun (c : Chan) (kind : DriveKind) (given : Nat) => { h with
        chans := s.chans.set c { s.chans[c] with
          act := .kicking { kind := kind, source := .rule n, persistent := r.persistent, began := s.now, charged := 0 }
            given (s.now + given * 1000)
          waiting := match kind with
            | .flip _ _ _ => none
            | _ => s.chans[c].waiting }
        guards := s.guards.set c { s.guards[c] with verdict := .noneYet, shortRun := 0, leakRun := 0 }
        inUse := s.inUse + s.coils[c].p }
      (∀ (c : Chan) (kick : Nat), r.action = .pulse c kick →
        turned c ∧
        (open_ c →
          let asked := if kick = 0 then s.coils[c].k else min kick s.coils[c].k
          let given := kickFor s.coils[c] s.heat[c].q asked
          let limit := budgetInForce s - s.settings.reserve
          (s.chans[c].act = .idle → min s.coils[c].kMin asked ≤ given → s.inUse + s.coils[c].p ≤ limit →
            t = kicked c .pulse given) ∧
          (s.chans[c].act = .idle → given < min s.coils[c].kMin asked → t = waits c .rule .pulse asked 25 .heatWait) ∧
          (s.chans[c].act = .idle → min s.coils[c].kMin asked ≤ given → limit < s.inUse + s.coils[c].p →
            t = waits c .rule .pulse asked 25 .budget) ∧
          (s.chans[c].act ≠ .idle → t = waits c .rule .pulse asked 25 .channelBusy))) ∧
      (∀ (c : Chan) (eos : Option InputNo) (mode : EosMode) (allowance : Nat), r.action = .flip c eos mode allowance →
        let ctx : FlipContext := { trigger := r.trigger, rule := n, group := r.group, persistent := r.persistent, eos := eos,
                                   mode := mode, allowance := allowance }
        turned c ∧
        (claimed s c = false → s.coils[c].enabled = true → s.chans[c].running? ≠ none → t = ruleRefused n .busy h) ∧
        (open_ c →
          let given := kickFor s.coils[c] s.heat[c].q s.coils[c].k
          let clear := mode = .off ∨ ∀ e, eos = some e → s.inputs[e].closed = false
          let left := fun w : Wait =>
            { waits c .flip .flip s.coils[c].k 4 w with chans := s.chans.set c { s.chans[c] with waiting := some ctx } }
          (s.chans[c].act = .idle → clear → s.coils[c].kMin ≤ given → s.inUse + s.coils[c].p ≤ budgetInForce s →
            t = kicked c (.flip ctx allowance none) given) ∧
          (s.chans[c].act = .idle → clear → s.coils[c].kMin ≤ given → budgetInForce s < s.inUse + s.coils[c].p →
            t = left .budget) ∧
          (s.chans[c].act ≠ .idle → s.chans[c].running? = none → t = left .channelBusy))) ∧
      (∀ (u : UnitNo) (count : Int), r.action = .step u count →
        let x := s.units[u]
        let dir : Dir := if 0 < count then .up else .down
        let limit := s.closedByte (if 0 < count then x.top else x.zero)
        (count = 0 → t = h) ∧
        (count ≠ 0 → x.inUse = false → t = ruleRefused n .range h) ∧
        (count ≠ 0 → x.inUse = true → limit = true →
          t = { ruleRefused n .atLimit h with
            latches := s.latches ||| 0x802
            units := s.units.set u { x with position := some (if 0 < count then x.maximum else 0) } }) ∧
        ∀ (c : Chan) (k : TrainNo), count ≠ 0 → x.inUse = true → limit = false → trainOf s (.counter u) = none →
          (if 0 < count then x.up else x.down).toNat = c.val → s.coils[c].enabled = true → s.chans[c].isLocked = false →
          firstFree s = some k →
          ∃ y, t.trains[k] = some y ∧ y.owner = .counter u ∧ y.channel = c ∧ y.dir = dir ∧ y.planned = count.natAbs) ∧
      ∀ (b : BankNo) (v : Nat), r.action = .add b v →
        let reels := s.banks[b].reels
        (v = 0 → t = h) ∧
        (v ≠ 0 → 10 ^ reels.length ≤ v → t = ruleRefused n .range h) ∧
        (v < 10 ^ reels.length → v ≠ 0 → s.banks[b].state = .zeroing → t = ruleRefused n .busy h) ∧
        (v < 10 ^ reels.length → v ≠ 0 → s.banks[b].state ≠ .zeroing → (∃ x ∈ reels, x.position = none) →
          t = ruleRefused n .unknown h) ∧
        (v < 10 ^ reels.length → v ≠ 0 → s.banks[b].state = .idle → bankTrains s b = [] → reels.length ≤ freeTrains s →
          (∀ x ∈ reels, x.position ≠ none ∧ s.coils[x.channel].enabled = true ∧ s.chans[x.channel].isLocked = false) →
          t.banks = s.banks.set b { s.banks[b] with state := .adding } ∧
          ∀ (j : Nat) (x : Reel), reels[j]? = some x → ∃ (k : TrainNo) (y : Train),
            s.trains[k] = none ∧ t.trains[k] = some y ∧ y.owner = .reel b j ∧ y.channel = x.channel ∧
            y.planned = v / 10 ^ j % 10)

/-- The other consumers of an edge. A trigger's Open edge withdraws a waiting Flip, cuts a kick and ends a hold; an end-of-stroke Close edge completes a
kick in modes Stop and Rekick and withdraws a waiting re-kick, and its Open edge during a hold asks for one while allowance is left (R12, R14 to R17).
A limit's Close edge sets its unit's position and ends a train toward it, and a zero switch's sets a zeroing reel's position to 0 and ends its train
(R102, R117, R122). A Close edge of a masked input wakes a QUIET node, and no other edge does (R166). The heat account and the hold duty that a
kick's end leaves charge the millisecond that ends with the kick once: the model's reading (log entry 6). The clauses on drives are of a coil without an
open check and with a recovery time. -/
def Obligations.EdgesActOnDrivesModelsAndTheNode : Prop :=
  (∀ (i : InputNo) (close : Bool) (c : Chan) (s : State),
    let t := deliver i close .channelDrivers s
    let k := s.coils[c]
    let names := fun x : FlipContext => x.trigger = i ∨ x.eos = some i
    let rest := Activity.recovering (s.now + k.recovery * 1000)
    s.passDue = false → k.openFloor = 0 → k.recovery ≠ 0 →
    (∀ (c' : Chan) (x : FlipContext), c' ≠ c → s.chans[c'].running? = some x ∨ s.chans[c'].waiting = some x → ¬ names x) →
    ((∀ x : FlipContext, s.chans[c].running? = some x ∨ s.chans[c].waiting = some x → ¬ names x) → t = s) ∧
    (∀ ctx : FlipContext, s.chans[c].waiting = some ctx → ctx.trigger = i → close = false → s.chans[c].running? = none →
      t.chans[c].waiting = none ∧ (∀ e ∈ t.queue, ¬ (e.channel = c ∧ e.kind = .flip)) ∧ t.dropped = s.dropped) ∧
    (∀ (d : Drive) (g ends : Nat) (ctx : FlipContext) (left : Nat) (limit : Option Nat),
      s.chans[c].act = .kicking d g ends → d.kind = .flip ctx left limit → s.chans[c].waiting = none → Calm s →
      let q := heatAtKickEnd k s.heat[c].q d s.now
      (close = false → ctx.trigger = i → t.chans[c].act = rest ∧ t.inUse = s.inUse - k.p ∧ t.heat[c].q = q) ∧
      (close = true → ctx.eos = some i → ctx.mode ≠ .off →
        (k.h = 0 ∨ s.inputs[ctx.trigger].closed = false → t.chans[c].act = rest ∧ t.inUse = s.inUse - k.p) ∧
        (s.inputs[ctx.trigger].closed = true → 0 < dutyFor s k q →
          ∃ d', t.chans[c].act = .holding d' (dutyFor s k q) ∧ d'.began = s.now ∧ t.heat[c] = { q := q, f := 0 } ∧
            t.inUse = s.inUse - k.p + drawFor k (dutyFor s k q))) ∧
      ((close = false ∧ ctx.trigger ≠ i) ∨ (close = true ∧ (ctx.eos ≠ some i ∨ ctx.mode = .off)) → t = s)) ∧
    ∀ (d : Drive) (heff : Nat) (ctx : FlipContext) (left : Nat) (limit : Option Nat),
      s.chans[c].act = .holding d heff → d.kind = .flip ctx left limit → s.chans[c].waiting = none →
      (close = false → ctx.trigger = i → Calm s → t.chans[c].act = rest ∧ t.inUse = s.inUse - drawFor k heff) ∧
      (ctx.eos = some i → ctx.mode = .rekick → close = true →
        t.chans[c] = s.chans[c] ∧ (∀ e ∈ t.queue, ¬ (e.channel = c ∧ e.kind = .rekick)) ∧ t.dropped = s.dropped) ∧
      (ctx.eos = some i → ctx.mode = .rekick → close = false → ctx.trigger ≠ i →
        (left = 0 → t = s) ∧
        (0 < left → Calm s → s.node.relay = true →
          let given := kickFor k s.heat[c].q k.k
          (k.kMin ≤ given → s.inUse - drawFor k heff + k.p ≤ budgetInForce s →
            t.chans[c].act = .kicking
              { kind := .flip ctx (left - 1) limit, source := .rule ctx.rule, persistent := ctx.persistent, began := s.now,
                charged := 0 } given (s.now + given * 1000) ∧
            t.inUse = s.inUse - drawFor k heff + k.p ∧ t.queue = []) ∧
          (k.kMin ≤ given → budgetInForce s < s.inUse - drawFor k heff + k.p →
            t = { s with queue :=
              [{ channel := c, cls := .flip, kind := .rekick, source := .rule ctx.rule, persistent := ctx.persistent,
                 joined := s.now, merged := 1, kReq := k.k, wait := .budget, stale := some (s.now + 4000) }] }) ∧
          (given < k.kMin → t = s)))) ∧
  (∀ (i : InputNo) (u : UnitNo) (d : Dir) (s : State),
    let x := s.units[u]
    let t := deliver i true .unitLogic s
    x.inUse = true → x.top ≠ x.zero → (if d = .up then x.top else x.zero).toNat = i.val →
    t.units[u].position = some (if d = .up then x.maximum else 0) ∧ t.latches.getLsbD 11 = true ∧
    ∀ (k : TrainNo) (y : Train), trainOf s (.counter u) = some k → s.trains[k] = some y →
      (y.dir ≠ d → ∃ z, t.trains[k] = some z ∧ z.planned = y.planned ∧ z.owner = y.owner) ∧
      (y.dir = d → y.state = .pulse ∨ y.state = .gap →
        ∃ z, t.trains[k] = some z ∧ z.planned = y.issued ∧ z.owner = y.owner ∧ t.units[u].opposite = x.opposite) ∧
      (y.dir = d → y.state = .wait → y.issued < y.planned → x.opposite = 0 →
        (∀ u' : UnitNo, u' ≠ u → s.units[u'].inUse = true →
          s.units[u'].top.toNat ≠ i.val ∧ s.units[u'].zero.toNat ≠ i.val) →
        t.trains[k] = none ∧ ∀ e ∈ t.queue, e.source ≠ .train k)) ∧
  (∀ (i : InputNo) (b : BankNo) (r : Nat) (reel : Reel) (k : TrainNo) (y : Train) (s : State),
    let t := deliver i true .unitLogic s
    s.banks[b].state = .zeroing → s.banks[b].reels[r]? = some reel → reel.zero = i → reel.position = none →
    trainOf s (.reel b r) = some k → s.trains[k] = some y → y.verify ≠ .expired →
    t.banks[b].reels[r]? = some { reel with position := some 0 } ∧
    (y.state = .pulse ∨ y.state = .gap → ∃ z, t.trains[k] = some z ∧ z.planned = y.issued ∧ z.owner = y.owner) ∧
    (y.state = .wait → y.issued < y.planned → ∃ z, t.trains[k] = some z ∧ z.planned = y.issued ∧ z.state = .verify ∧
      z.verify = .running (s.now + y.profile.start * 1000) ∧ ∀ e ∈ t.queue, e.source ≠ .train k)) ∧
  ∀ (i : InputNo) (close : Bool) (s : State), Calm s → s.passDue = false →
    (close = true → s.node.st = .quiet → s.node.wakeMask.getLsbD i.val = true →
      deliver i close .nodeState s = { s with
        node := { s.node with st := .arming, relay := true, settle := some (s.now + s.settings.settle * 1000), wake := .input i }
        port := { s.port with silence := some (s.now + s.settings.silence * 1000) }
        latches := s.latches ||| 0x8000 }) ∧
    (close = false ∨ s.node.st ≠ .quiet ∨ s.node.wakeMask.getLsbD i.val = false → deliver i close .nodeState s = s)

/-! ### The Admission Queue -/

/-- A request at the Drive Scheduler merges into the entry of its channel and class; else joins behind its class; at a full queue takes the place of
the youngest entry of the lowest class it may evict; and else is dropped, or held at its train (R41 to R45, R49). So a Pulse order merges or is dropped,
a dropped Flip leaves its channel no context, and a Run is held; a free place goes to the held train (R46). -/
def Obligations.RequestsJoinMergeEvictOrDrop : Prop :=
  (∀ (e : Entry) (s : State), QueueInOrder s →
    let same := ∃ x ∈ s.queue, x.channel = e.channel ∧ x.cls = e.cls
    let joined := fun (q q' : List Entry) => ∃ q₁ q₂, q = q₁ ++ q₂ ∧ q' = q₁ ++ e :: q₂ ∧
      (∀ x ∈ q₁, clsCode x.cls ≤ clsCode e.cls) ∧ ∀ x ∈ q₂, clsCode e.cls < clsCode x.cls
    (same → submit e s = (.merged, { s with
      queue := s.queue.map fun x =>
        if x.channel = e.channel ∧ x.cls = e.cls then { x with merged := min 15 (x.merged + 1) } else x })) ∧
    (¬ same → s.queue.length < 16 →
      ∃ q, joined s.queue q ∧ submit e s = (.joined, { s with queue := q, passDue := true })) ∧
    (∀ k : Cls, ¬ same → s.queue.length = 16 →
      (k = .order ∧ e.cls ≠ .order) ∨ (k = .rule ∧ e.cls = .flip ∧ ∀ x ∈ s.queue, x.cls ≠ .order) →
      (∃ x ∈ s.queue, x.cls = k) →
      ∃ q₁ y q₂ q, s.queue = q₁ ++ y :: q₂ ∧ y.cls = k ∧ (∀ x ∈ q₂, x.cls ≠ k) ∧ joined (q₁ ++ q₂) q ∧
        submit e s = (.joined, { s with queue := q, passDue := true, dropped := min 255 (s.dropped + 1),
                                        latches := s.latches ||| 4 })) ∧
    (¬ same → s.queue.length = 16 → e.cls = .order ∨ (∀ x ∈ s.queue, x.cls ≠ .order) →
      e.cls ≠ .flip ∨ (∀ x ∈ s.queue, x.cls ≠ .rule) → submit e s = (.full, s))) ∧
  (∀ (f : Head) (ch k : Byte) (c : Chan) (s : State), Heard f s → s.node.st = .live → ch.toNat = c.val →
    claimed s c = false → s.coils[c].enabled = true → s.chans[c].isLocked = false →
    let h := heard (encodeFrame (.pulse f ch k)) s
    ((∃ x ∈ s.queue, x.channel = c ∧ x.cls = .order) →
      exec (.pulse f ch k) s = .next { h with
        queue := s.queue.map fun x =>
          if x.channel = c ∧ x.cls = .order then { x with merged := min 15 (x.merged + 1) } else x }) ∧
    ((∀ x ∈ s.queue, ¬ (x.channel = c ∧ x.cls = .order)) → s.queue.length = 16 →
      exec (.pulse f ch k) s = .next { h with dropped := min 255 (s.dropped + 1), latches := s.latches ||| 4 })) ∧
  (∀ (c : Chan) (ctx : FlipContext) (s : State), s.queue.length = 16 →
    (∀ x ∈ s.queue, x.cls ≠ .rule ∧ x.cls ≠ .order ∧ ¬ (x.channel = c ∧ x.cls = .flip)) →
    let lost := { s with dropped := min 255 (s.dropped + 1), latches := s.latches ||| 4 }
    submitFlip c ctx s = lost ∧ submitRekick c ctx s = lost) ∧
  (∀ (f : Head) (ch n : Byte) (si fi : Half) (d k : Byte) (c : Chan) (t₀ : TrainNo) (s : State),
    Heard f s → s.node.st = .live → ch.toNat = c.val → claimed s c = false → s.coils[c].enabled = true →
    s.chans[c].isLocked = false → trainOn s c = none → firstFree s = some t₀ → s.queue.length = 16 →
    (∀ x ∈ s.queue, x.cls ≠ .order ∧ ¬ (x.channel = c ∧ x.cls = .step)) →
    ∃ x, x.held = true ∧ x.state = .wait ∧ x.owner = .bare ∧ x.channel = c ∧ x.planned = max 1 n.toNat ∧ x.issued = 0 ∧
      exec (.run f ch n si fi d k) s = .next { heard (encodeFrame (.run f ch n si fi d k)) s with
        trains := s.trains.set t₀ (some x), held := s.held ++ [t₀] }) ∧
  ∀ (k : TrainNo) (x : Train) (s : State), s.held = [k] → s.trains[k] = some x →
    (16 ≤ s.queue.length → handOver s = s) ∧
    (QueueInOrder s → s.queue.length < 16 → (∀ e ∈ s.queue, ¬ (e.channel = x.channel ∧ e.cls = .step)) →
      ∃ q₁ q₂, s.queue = q₁ ++ q₂ ∧ (∀ e ∈ q₁, e.cls ≠ .order) ∧ (∀ e ∈ q₂, e.cls = .order) ∧
        handOver s = { s with
          held := [], passDue := true, trains := s.trains.set k (some { x with held := false })
          queue := q₁ ++ { channel := x.channel, cls := .step, kind := .stepPulse, source := .train k, persistent := false,
                           joined := s.now, merged := 1, kReq := s.coils[x.channel].k, wait := .notReached,
                           stale := none } :: q₂ })

/-- A pass on an IDLE channel's waiting Flip: a kick of the grantable length; a hold without a kick where the end-of-stroke input is closed (EosStuck) or
the account gives less than Kmin; a removal where that hold would be at 0 (HeatCutoff) or H is 0. A waiting Pulse or StepPulse is kicked too, the train
of the step issuing its pulse, or waits as HeatWait, and an entry of a channel in another state as ChannelBusy: the pass goes on behind these. Where the
drive does not fit the budget the pass stops, the entries behind it not reached; under an open relay it changes no entry. A Rekick's gives a kick from
HOLDING with one less allowance left, or its removal, or its waiting for budget (R13, R17, R30 to R32, R53, R55 to R58, R94, R95). The passes are those
that a recovery timer's expiry makes. -/
def Obligations.PassesGrantFlipsAndRekicks : Prop :=
  (∀ (c : Chan) (e : Entry) (es : List Entry) (ctx : FlipContext) (ends : Nat) (s : State),
    s.chans[c].act = .recovering ends → s.chans[c].waiting = some ctx → s.queue = e :: es → s.held = [] →
    e.channel = c → e.cls = .flip → e.kind = .flip → s.node.relay = true →
    let k := s.coils[c]
    let now := max s.now ends
    let shut := ctx.mode ≠ .off ∧ ∃ i, ctx.eos = some i ∧ s.inputs[i].closed = true
    let given := kickFor k s.heat[c].q e.kReq
    let duty := dutyFor s k s.heat[c].q
    let after := fun (x : Activity) (q : List Entry) (w : Option FlipContext) =>
      { s with now := now, passDue := false, queue := q, chans := s.chans.set c { act := x, waiting := w } }
    let drive : Drive :=
      { kind := .flip ctx ctx.allowance none, source := e.source, persistent := e.persistent, began := now, charged := 0 }
    let holding := { after (.holding { drive with
        kind := .flip ctx ctx.allowance (if k.holdLimit = 0 then none else some (now + k.holdLimit * 1000)) } duty) [] none with
      heat := s.heat.set c { s.heat[c] with f := 0 }
      guards := s.guards.set c { s.guards[c] with shortRun := 0, leakRun := 0 }
      inUse := s.inUse + drawFor k duty }
    let stopped := after .idle ({ e with wait := .budget } :: es.map fun x => { x with wait := .notReached }) (some ctx)
    (es = [] → ¬ shut → k.kMin ≤ given → s.inUse + k.p ≤ budgetInForce s →
      exec (.recoveryExpiry c) s = .next { after (.kicking drive given (now + given * 1000)) [] none with
        guards := s.guards.set c { s.guards[c] with verdict := .noneYet, shortRun := 0, leakRun := 0 }
        inUse := s.inUse + k.p }) ∧
    (¬ shut → k.kMin ≤ given → budgetInForce s < s.inUse + k.p → exec (.recoveryExpiry c) s = .next stopped) ∧
    (es = [] → shut → k.h = 0 →
      exec (.recoveryExpiry c) s = .next { after .idle [] none with latches := s.latches ||| 0x80 }) ∧
    (es = [] → shut → 0 < k.h → duty = 0 →
      exec (.recoveryExpiry c) s = .next { after .idle [] none with latches := s.latches ||| 0x90 }) ∧
    (es = [] → ¬ shut → given < k.kMin → duty = 0 →
      exec (.recoveryExpiry c) s = .next { after .idle [] none with latches := s.latches ||| 0x10 }) ∧
    (es = [] → shut → 0 < duty → s.inUse + drawFor k duty ≤ budgetInForce s →
      exec (.recoveryExpiry c) s = .next { holding with latches := s.latches ||| 0x80 }) ∧
    (es = [] → ¬ shut → given < k.kMin → 0 < duty → s.inUse + drawFor k duty ≤ budgetInForce s →
      exec (.recoveryExpiry c) s = .next holding) ∧
    (shut ∨ given < k.kMin → 0 < duty → budgetInForce s < s.inUse + drawFor k duty →
      exec (.recoveryExpiry c) s = .next stopped)) ∧
  (∀ (c : Chan) (e : Entry) (es : List Entry) (ends : Nat) (s : State),
    s.chans[c].act = .recovering ends → s.queue = e :: es → s.held = [] → e.channel = c →
    e.kind = .pulse ∨ e.kind = .stepPulse → s.node.relay = true →
    let k := s.coils[c]
    let now := max s.now ends
    let given := kickFor k s.heat[c].q e.kReq
    let least := if e.kind = .pulse then min k.kMin e.kReq else e.kReq
    let limit := budgetInForce s - s.settings.reserve
    let after := fun (x : Activity) (q : List Entry) =>
      { s with now := now, passDue := false, queue := q, chans := s.chans.set c { s.chans[c] with act := x } }
    let kicked := fun kind : DriveKind =>
      { after (.kicking { kind := kind, source := e.source, persistent := e.persistent, began := now, charged := 0 } given
          (now + given * 1000)) [] with
        guards := s.guards.set c { s.guards[c] with verdict := .noneYet, shortRun := 0, leakRun := 0 }
        inUse := s.inUse + k.p }
    (given < least →
      ∃ t, exec (.recoveryExpiry c) { s with queue := es } = .next t ∧
        exec (.recoveryExpiry c) s = .next { t with queue := { e with wait := .heatWait } :: t.queue }) ∧
    (least ≤ given → limit < s.inUse + k.p →
      exec (.recoveryExpiry c) s =
        .next (after .idle ({ e with wait := .budget } :: es.map fun x => { x with wait := .notReached }))) ∧
    (es = [] → least ≤ given → s.inUse + k.p ≤ limit → e.kind = .pulse →
      exec (.recoveryExpiry c) s = .next (kicked .pulse)) ∧
    ∀ (t₀ : TrainNo) (x : Train), es = [] → least ≤ given → s.inUse + k.p ≤ limit → e.kind = .stepPulse →
      e.source = .train t₀ → s.trains[t₀] = some x →
      exec (.recoveryExpiry c) s = .next { kicked .stepPulse with
        trains := s.trains.set t₀ (some { x with
          state := .pulse, issued := x.issued + 1, inFlight := true,
          interval := some (now + intervalFor x.profile (x.issued + 1) x.planned * 1000) }) }) ∧
  (∀ (c c' : Chan) (e : Entry) (es : List Entry) (ends : Nat) (s : State),
    c' ≠ c → s.chans[c'].act = .recovering ends → s.queue = e :: es → s.held = [] → e.channel = c → s.node.relay = true →
    (if e.kind = .rekick then s.chans[c].isHolding = false else s.chans[c].act ≠ .idle) →
    ∃ t, exec (.recoveryExpiry c') { s with queue := es } = .next t ∧
      exec (.recoveryExpiry c') s = .next { t with queue := { e with wait := .channelBusy } :: t.queue }) ∧
  (∀ (c : Chan) (ends : Nat) (s : State), s.chans[c].act = .recovering ends → s.held = [] → s.node.relay = false →
    exec (.recoveryExpiry c) s = .next { s with
      now := max s.now ends, passDue := false, chans := s.chans.set c { s.chans[c] with act := .idle } }) ∧
  ∀ (c c' : Chan) (e : Entry) (d : Drive) (heff : Nat) (ctx : FlipContext) (left ends : Nat) (limit : Option Nat) (s : State),
    c' ≠ c → s.chans[c'].act = .recovering ends → s.chans[c].act = .holding d heff → d.kind = .flip ctx left limit →
    s.queue = [e] → s.held = [] → e.channel = c → e.cls = .flip → e.kind = .rekick → s.node.relay = true →
    let k := s.coils[c]
    let now := max s.now ends
    let given := kickFor k s.heat[c].q e.kReq
    let raised := s.inUse - drawFor k heff + k.p
    let rested := s.chans.set c' { s.chans[c'] with act := .idle }
    (k.kMin ≤ given → raised ≤ budgetInForce s →
      ∃ t, exec (.recoveryExpiry c') s = .next t ∧ t.queue = [] ∧ t.inUse = raised ∧
        t.chans = rested.set c { s.chans[c] with
          act := .kicking { kind := .flip ctx (left - 1) limit, source := e.source, persistent := e.persistent, began := now,
                            charged := 0 } given (now + given * 1000) } ∧
        t.guards[c].verdict = .noneYet) ∧
    (k.kMin ≤ given → budgetInForce s < raised →
      exec (.recoveryExpiry c') s =
        .next { s with now := now, passDue := false, chans := rested, queue := [{ e with wait := .budget }] }) ∧
    (given < k.kMin →
      exec (.recoveryExpiry c') s = .next { s with now := now, passDue := false, chans := rested, queue := [] })

/-! ### Drives -/

/-- A kick timer's expiry charges the last millisecond and ends a Pulse's kick in RECOVERING and a Flip's in HOLDING at Heff where H is above 0 and the
trigger closed, in RECOVERING with a heat cutoff where Heff is then 0, and in RECOVERING otherwise; a hold-limit timer's expiry ends the hold, or cuts
the re-kick, in RECOVERING (R5, R6, R14, R15, R17, R26, R33, R34, R36, R51). That a millisecond that ends with the kick is charged once is the model's
reading (log entry 6). -/
def Obligations.KicksAndHoldsEndAtTheirTimers : Prop :=
  ∀ (c : Chan) (s : State), Calm s → s.coils[c].openFloor = 0 → s.coils[c].recovery ≠ 0 →
    let K := s.coils[c]
    (∀ (d : Drive) (k ends : Nat), s.chans[c].act = .kicking d k ends → s.now ≤ ends →
      let q := heatAtKickEnd K s.heat[c].q d ends
      let rest := Activity.recovering (ends + K.recovery * 1000)
      (d.kind = .pulse →
        ∃ t, exec (.kickTimerExpiry c) s = .next t ∧ t.chans[c].act = rest ∧ t.heat[c].q = q ∧
          t.inUse = s.inUse - K.p ∧ ∀ c' : Chan, c' ≠ c → t.chans[c'] = s.chans[c'] ∧ t.heat[c'] = s.heat[c']) ∧
      (∀ (ctx : FlipContext) (left : Nat) (limit : Option Nat), d.kind = .flip ctx left limit →
        (K.h = 0 ∨ s.inputs[ctx.trigger].closed = false →
          ∃ t, exec (.kickTimerExpiry c) s = .next t ∧ t.chans[c].act = rest ∧ t.heat[c].q = q ∧ t.inUse = s.inUse - K.p) ∧
        (0 < K.h → s.inputs[ctx.trigger].closed = true → dutyFor s K q = 0 →
          ∃ t, exec (.kickTimerExpiry c) s = .next t ∧ t.chans[c].act = rest ∧ t.heat[c].q = q ∧ t.inUse = s.inUse - K.p ∧
            t.latches.getLsbD 4 = true) ∧
        (s.inputs[ctx.trigger].closed = true → 0 < dutyFor s K q →
          ∃ t d', exec (.kickTimerExpiry c) s = .next t ∧ t.chans[c].act = .holding d' (dutyFor s K q) ∧
            d'.began = ends ∧ d'.charged = 0 ∧ d'.source = d.source ∧ d'.persistent = d.persistent ∧
            t.heat[c] = { q := q, f := 0 } ∧
            d'.kind = .flip ctx left (if limit.isSome then limit
              else if K.holdLimit = 0 then none else some (ends + K.holdLimit * 1000)) ∧
            t.inUse = s.inUse - K.p + drawFor K (dutyFor s K q)))) ∧
    (∀ (d : Drive) (heff : Nat) (ctx : FlipContext) (left ends : Nat), s.chans[c].act = .holding d heff →
      d.kind = .flip ctx left (some ends) → s.now ≤ ends →
      ∃ t, exec (.holdLimitExpiry c) s = .next t ∧ t.chans[c].act = .recovering (ends + K.recovery * 1000) ∧
        t.inUse = s.inUse - drawFor K heff) ∧
    ∀ (d : Drive) (k e : Nat) (ctx : FlipContext) (left ends : Nat), s.chans[c].act = .kicking d k e →
      d.kind = .flip ctx left (some ends) → s.now ≤ ends →
      ∃ t, exec (.holdLimitExpiry c) s = .next t ∧ t.chans[c].act = .recovering (ends + K.recovery * 1000) ∧
        t.inUse = s.inUse - K.p

/-- The completed kick of a reel's pulse moves a known reel of an ADDING bank one step and no other reel, whether or not the reel's context still shows
it in flight; from 9 to 0 it carries: a rollover at the top reel, one more pulse planned for a known next reel, nothing for an Unknown one, and a mismatch
of one whose count would pass 1023; an Unknown reel, and any reel of a bank not ADDING, is left as it is. The kick end after which the bank is finished
returns it to IDLE with its contexts free, and one beside which another reel's kick still runs keeps its state (R114, R117; that a kick left over from a
cancelled train counts here is the model's reading of R116, log entry 32). That of a counter unit moves the unit one step within 0 to M, an Unknown
position staying so (R111, R112, R122). Where the kick end locks the channel the models become Unknown, and so they do for a kick cut by a Reset (R115,
R123, R128). -/
def Obligations.StepPulsesMoveTheModels : Prop :=
  ∀ (c : Chan) (d : Drive) (k ends : Nat) (s : State), s.chans[c].act = .kicking d k ends → d.kind = .stepPulse →
    let locks := s.coils[c].openFloor ≠ 0 ∧ s.guards[c].verdict = .openSoFar ∧ 2 ≤ s.guards[c].strikes
    (¬ locks → ∀ (b : BankNo) (r : Nat) (x : Reel), reelOf s c = some (b, r) → unitOn s c = none →
      s.banks[b].reels[r]? = some x →
      let reels := s.banks[b].reels
      let top := r + 1 = reels.length
      (x.position = none ∨ s.banks[b].state ≠ .adding →
        ∃ t, exec (.kickTimerExpiry c) s = .next t ∧ t.banks[b].reels = reels) ∧
      (∀ p : Fin 10, x.position = some p → s.banks[b].state = .adding → p ≠ 9 →
        ∃ t, exec (.kickTimerExpiry c) s = .next t ∧ t.banks[b].reels = reels.set r { x with position := some (p + 1) } ∧
          t.banks[b].rollover = s.banks[b].rollover) ∧
      (x.position = some 9 → s.banks[b].state = .adding → top →
        ∃ t, exec (.kickTimerExpiry c) s = .next t ∧ t.banks[b].reels = reels.set r { x with position := some 0 } ∧
          t.banks[b].rollover = min 15 (s.banks[b].rollover + 1) ∧ t.latches.getLsbD 10 = true) ∧
      (s.banks[b].state ≠ .idle → (s.banks[b].state = .adding → x.position ≠ some 9) →
        (∀ (k' : TrainNo) (w : Train), k' ∈ bankTrains s b → s.trains[k'] = some w →
          w.issued = w.planned ∧ w.verify = .expired ∧ (w.inFlight = false ∨ trainOn s c = some k')) →
        ((∀ z ∈ reels, z.channel ≠ c → s.chans[z.channel].isKicking = false) →
          ∃ t, exec (.kickTimerExpiry c) s = .next t ∧ t.banks[b].state = .idle ∧ ∀ k' ∈ bankTrains s b, t.trains[k'] = none) ∧
        ((∃ z ∈ reels, z.channel ≠ c ∧ s.chans[z.channel].isKicking = true) →
          ∃ t, exec (.kickTimerExpiry c) s = .next t ∧ t.banks[b].state = s.banks[b].state)) ∧
      ∀ (y : Reel) (k' : TrainNo) (w : Train), x.position = some 9 → s.banks[b].state = .adding →
        reels[r + 1]? = some y → trainOf s (.reel b (r + 1)) = some k' → s.trains[k'] = some w →
        (y.position ≠ none → w.planned + 1 ≤ 1023 → w.issued ≤ w.planned →
          ∃ t z, exec (.kickTimerExpiry c) s = .next t ∧ t.banks[b].reels = reels.set r { x with position := some 0 } ∧
            t.trains[k'] = some z ∧ z.planned = w.planned + 1 ∧ z.owner = w.owner) ∧
        (y.position = none →
          ∃ t, exec (.kickTimerExpiry c) s = .next t ∧ t.banks[b].reels = reels.set r { x with position := some 0 } ∧
            ∀ z, t.trains[k'] = some z → z.planned = w.planned) ∧
        (y.position ≠ none → 1023 < w.planned + 1 →
          ∃ t, exec (.kickTimerExpiry c) s = .next t ∧ t.latches.getLsbD 8 = true ∧
            t.banks[b].reels = (reels.set r { x with position := some 0 }).set (r + 1) { y with position := none } ∧
            (w.state ≠ .verify → ∀ z, t.trains[k'] = some z → z.planned = w.issued))) ∧
    (¬ locks → ∀ u : UnitNo, reelOf s c = none → unitOn s c = some u →
      ∃ t, exec (.kickTimerExpiry c) s = .next t ∧
        t.units[u].position = s.units[u].position.map fun p =>
          if s.units[u].up.toNat = c.val then min s.units[u].maximum (p + 1) else p - 1) ∧
    (locks →
      (∀ u : UnitNo, unitOn s c = some u →
        ∃ t, exec (.kickTimerExpiry c) s = .next t ∧ t.units[u].position = none ∧ t.chans[c].act = .locked) ∧
      ∀ (b : BankNo) (r : Nat) (k' : TrainNo) (w : Train), reelOf s c = some (b, r) → unitOn s c = none →
        trainOn s c = some k' → s.trains[k'] = some w → w.owner = .reel b r →
        ∃ t, exec (.kickTimerExpiry c) s = .next t ∧ t.banks[b].state = .idle ∧
          (∀ x ∈ t.banks[b].reels, x.position = none) ∧ t.chans[c].act = .locked) ∧
    ∀ f : Head, Heard f s →
      ∃ t, exec (.reset f) s = .next t ∧
        (∀ u : UnitNo, unitOn s c = some u → t.units[u].position = none) ∧
        ∀ (b : BankNo) (r : Nat), reelOf s c = some (b, r) → s.banks[b].state = .adding → bankTrains s b ≠ [] →
          t.banks[b].state = .idle ∧ ∀ x ∈ t.banks[b].reels, x.position = none

/-- A recovery timer's expiry leaves the channel IDLE, a stale timer's expiry removes its entry and counts it as dropped, and a holdoff timer's
expiry lets its rule fire again (R7, R47, R49, R82). -/
def Obligations.RecoveryStaleAndHoldoffTimersExpire : Prop :=
  (∀ (c : Chan) (ends : Nat) (s : State), s.chans[c].act = .recovering ends → Calm s → s.passDue = false →
    exec (.recoveryExpiry c) s =
      .next { s with now := max s.now ends, chans := s.chans.set c { s.chans[c] with act := .idle } }) ∧
  (∀ (c : Chan) (k : Fin 4) (e : Entry) (ends : Nat) (s : State),
    s.queue.find? (fun x => x.channel == c && x.cls == clsOf k) = some e → e.stale = some ends → clsOf k ≠ .step →
    ∃ t, exec (.staleTimerExpiry c k) s = .next t ∧ (∀ x ∈ t.queue, ¬ (x.channel = c ∧ x.cls = clsOf k)) ∧
      t.dropped = min 255 (s.dropped + 1) ∧ t.latches.getLsbD 2 = true ∧ (e.kind = .flip → t.chans[c].waiting = none) ∧
      t.now = max s.now ends ∧ TablesKept s t ∧ t.node = s.node) ∧
  ∀ (r : RuleNo) (ends : Nat) (s : State), s.holdoffs[r] = some ends →
    exec (.holdoffExpiry r) s = .next { s with now := max s.now ends, holdoffs := s.holdoffs.set r none }

/-- Each full millisecond of a kick adds Ck to a metered account, up to L; each of a hold adds the whole part of (Ck × Heff + f) / 16 and carries
the rest, and one that would pass L ends the hold as a heat cutoff; an unmetered account takes nothing; and the accrual that brings the channel into
heat alert sets the HeatAlert latch (R25, R26, R27, R36, R37). That a hold's millisecond is charged at the duty in force at its end is the model's reading
(log entry 6). -/
def Obligations.DriveHeatsTheAccount : Prop :=
  ∀ (c : Chan) (s : State), s.heat[c].q ≤ s.coils[c].l →
    let k := s.coils[c]
    let alert := fun q : Nat => decide (0 < k.l ∧ 0 < q ∧ k.a ≤ q)
    let alerted := fun q : Nat => if !alert s.heat[c].q && alert q then s.latches ||| 8 else s.latches
    (∀ (d : Drive) (g ends : Nat), s.chans[c].act = .kicking d g ends → d.charged < g →
      let q := min k.l (s.heat[c].q + k.ck)
      exec (.kickAccrual c) s = .next
        { s with now := max s.now (d.began + (d.charged + 1) * 1000), latches := alerted q,
                 heat := s.heat.set c { s.heat[c] with q := q },
                 chans := s.chans.set c { s.chans[c] with act := .kicking { d with charged := d.charged + 1 } g ends } }) ∧
    ∀ (d : Drive) (heff : Nat), s.chans[c].act = .holding d heff → Calm s → s.passDue = false →
      let sum := s.heat[c].q + (k.ck * heff + s.heat[c].f) / 16
      let charged := s.chans.set c { s.chans[c] with act := .holding { d with charged := d.charged + 1 } heff }
      (k.l = 0 → exec (.holdAccrual c) s =
        .next { s with now := max s.now (d.began + (d.charged + 1) * 1000), chans := charged }) ∧
      (0 < k.l → sum ≤ k.l →
        exec (.holdAccrual c) s = .next
          { s with now := max s.now (d.began + (d.charged + 1) * 1000), latches := alerted sum, chans := charged,
                   heat := s.heat.set c { q := sum, f := (k.ck * heff + s.heat[c].f) % 16 } }) ∧
      (0 < k.l → k.l < sum → s.now ≤ d.began + (d.charged + 1) * 1000 → k.recovery ≠ 0 →
        ∃ t, exec (.holdAccrual c) s = .next t ∧ t.heat[c].q = k.l ∧ t.latches = alerted k.l ||| 0x10 ∧
          t.chans[c].act = .recovering (d.began + (d.charged + 1) * 1000 + k.recovery * 1000) ∧
          t.inUse = s.inUse - drawFor k heff)

/-- A cooling tick with no channel driven lowers every account by floor((Q + 2^(S−1)) / 2^S), at least 1 where it is above 0, and changes nothing
else. With channels driven, a millisecond of a kick or a hold that ends at the tick is charged before the decay (the model's reading, log entry 6); then
every hold takes a lower Heff, or ends as a heat cutoff at 0; and then the higher ones are taken in ascending channel number, each where the budget in use
left by those before it allows it (R28, R33 to R36). -/
def Obligations.CoolingTicksDecayAndDerate : Prop :=
  (∀ s : State, (∀ c : Chan, s.chans[c].driven = false) → Calm s → s.passDue = false →
    ∃ t, exec .coolingTick s = .next t ∧
      t = { s with now := max s.now s.clocks.cooling, heat := t.heat,
                   clocks := { s.clocks with cooling := s.clocks.cooling + 16000 } } ∧
      ∀ c : Chan, t.heat[c] = { s.heat[c] with
        q := if s.heat[c].q = 0 then 0
          else s.heat[c].q - max 1 ((s.heat[c].q + 2 ^ (s.coils[c].s - 1)) / 2 ^ s.coils[c].s) }) ∧
  ∀ s : State, Calm s →
    let ending := fun d : Drive => decide (d.began + (d.charged + 1) * 1000 = s.clocks.cooling)
    let sum := fun (c : Chan) (heff : Nat) => s.heat[c].q + (s.coils[c].ck * heff + s.heat[c].f) / 16
    let charged := fun c : Chan =>
      if s.coils[c].l = 0 then s.heat[c].q
      else match s.chans[c].act with
        | .kicking d _ _ => if ending d then min s.coils[c].l (s.heat[c].q + s.coils[c].ck) else s.heat[c].q
        | .holding d heff => if ending d then sum c heff else s.heat[c].q
        | _ => s.heat[c].q
    let cooled := fun c : Chan => if charged c = 0 then 0
      else charged c - max 1 ((charged c + 2 ^ (s.coils[c].s - 1)) / 2 ^ s.coils[c].s)
    let counted := fun d : Drive => if ending d then { d with charged := d.charged + 1 } else d
    let duty := fun c : Chan => dutyFor s s.coils[c] (cooled c)
    (∀ (c : Chan) (d : Drive) (heff : Nat), s.chans[c].act = .holding d heff → ending d = true →
      s.coils[c].l = 0 ∨ sum c heff ≤ s.coils[c].l) →
    ∃ t, ∃ low high : Nat → Nat, exec .coolingTick s = .next t ∧
      (∀ c : Chan, s.chans[c].driven = false → t.chans[c] = s.chans[c] ∧ t.heat[c].q = cooled c) ∧
      (∀ (c : Chan) (d : Drive) (g ends : Nat), s.chans[c].act = .kicking d g ends →
        t.chans[c] = { s.chans[c] with act := .kicking (counted d) g ends } ∧ t.heat[c].q = cooled c) ∧
      low 0 = s.inUse ∧ high 0 = low 24 ∧ t.inUse = high 24 ∧
      (∀ c : Chan, s.chans[c].isHolding = false → low (c.val + 1) = low c.val ∧ high (c.val + 1) = high c.val) ∧
      ∀ (c : Chan) (d : Drive) (heff : Nat), s.chans[c].act = .holding d heff →
        let k := s.coils[c]
        let holds := fun e : Nat => { s.chans[c] with act := Activity.holding (counted d) e }
        let risen := high c.val - drawFor k heff + drawFor k (duty c)
        (0 < duty c → t.heat[c].q = cooled c) ∧
        (duty c = 0 →
          t.chans[c].act = (if k.recovery = 0 then .idle
            else .recovering (max s.now s.clocks.cooling + k.recovery * 1000)) ∧
          t.latches.getLsbD 4 = true ∧ low (c.val + 1) = low c.val - drawFor k heff ∧ high (c.val + 1) = high c.val) ∧
        (0 < duty c → duty c < heff → t.chans[c] = holds (duty c) ∧
          low (c.val + 1) = low c.val - drawFor k heff + drawFor k (duty c) ∧ high (c.val + 1) = high c.val) ∧
        (duty c = heff → 0 < heff → t.chans[c] = holds heff ∧ low (c.val + 1) = low c.val ∧ high (c.val + 1) = high c.val) ∧
        (heff < duty c → low (c.val + 1) = low c.val ∧
          (risen ≤ budgetInForce s → t.chans[c] = holds (duty c) ∧ high (c.val + 1) = risen) ∧
          (budgetInForce s < risen → t.chans[c] = holds heff ∧ high (c.val + 1) = high c.val))

/-! ### Trains -/

/-- An interval timer's expiry offers the next pulse of a train that has one left, a reel's that its check does not end among them; it ends a unit's or bare
train that has none, and puts a finished reel in VERIFY with its verify timer at Is; a direction settle timer's expiry offers the train's first pulse. An
offered pulse is granted at once, and starts the interval of R95, where its channel is IDLE, its account allows the full kick and its draw fits; else it
waits with its reason (R11, R30, R40, R53, R56, R58, R94, R95, R97, R98, R101, R113). -/
def Obligations.IntervalsAndSettleTimersRunTheTrains : Prop :=
  (∀ (k : TrainNo) (x : Train) (ends : Nat) (s : State), s.trains[k] = some x → x.interval = some ends → Calm s →
    let passes := ∀ (b : BankNo) (r : Nat) (reel : Reel) (p : Fin 10), x.owner = .reel b r → s.banks[b].reels[r]? = some reel →
      reel.position = some p → s.banks[b].state = .adding → x.inFlight = false → s.inputs[reel.zero].closed = decide (p = 0)
    (passes → x.issued < x.planned →
      ∃ t y, exec (.intervalExpiry k) s = .next t ∧ t.trains[k] = some y ∧ y.planned = x.planned ∧ y.owner = x.owner ∧
        y.channel = x.channel ∧ (y.state = .wait → y.interval = none) ∧ PulseOffered k x y (max s.now ends) s t) ∧
    (x.planned ≤ x.issued → x.owner = .bare → ∃ t, exec (.intervalExpiry k) s = .next t ∧ t.trains[k] = none) ∧
    (∀ u : UnitNo, x.planned ≤ x.issued → 0 < x.issued → x.owner = .counter u → s.units[u].opposite = 0 →
      ∃ t, exec (.intervalExpiry k) s = .next t ∧ t.trains[k] = none ∧
        t.units[u] = { s.units[u] with last := some (x.dir, max s.now ends) }) ∧
    ∀ (b : BankNo) (r : Nat), passes → x.planned ≤ x.issued → x.owner = .reel b r →
      ∃ t, exec (.intervalExpiry k) s = .next t ∧ t.banks = s.banks ∧
        t.trains[k] = some { x with state := .verify, interval := none,
                                    verify := .running (max s.now ends + x.profile.start * 1000) }) ∧
  (∀ (k : TrainNo) (x : Train) (ends : Nat) (s : State), s.trains[k] = some x → x.settle = some ends → Calm s →
    ∃ t y, exec (.trainSettleExpiry k) s = .next t ∧ t.trains[k] = some y ∧ y.settle = none ∧ y.planned = x.planned ∧
      PulseOffered k x y (max s.now ends) s t)

/-- A known reel of an ADDING bank whose zero switch disagrees with its position at an interval's or the verify timer's expiry, no kick in flight, becomes
Unknown with ReelMismatch set and makes no further pulse, and one that agrees goes on, its next pulse offered or its verify timer started; a zeroing reel is
settled at its verify timer's expiry by its position and its zero switch. The verify expiry after which every reel of the bank is finished returns the bank
to IDLE with its contexts free, the rollover count 0 where every reel of a zeroing stands at 0; where one is not finished the bank keeps its state (R98,
R113, R114, R117). The kick in flight of a check is the one the expiry reports, the context's; that a kick left over from a cancelled train keeps the bank from
IDLE too is the model's reading of R116 (log entry 32). -/
def Obligations.ReelsAreCheckedAndZeroed : Prop :=
  (∀ (k : TrainNo) (x : Train) (b : BankNo) (r : Nat) (reel : Reel) (p : Fin 10) (ends : Nat) (s : State),
    trainOf s (.reel b r) = some k → s.trains[k] = some x → x.interval = some ends → x.inFlight = false →
    s.banks[b].reels[r]? = some reel → reel.position = some p → s.banks[b].state = .adding →
    x.state = .pulse ∨ x.state = .gap → x.issued ≤ x.planned → Calm s →
    (s.inputs[reel.zero].closed ≠ decide (p = 0) →
      ∃ t y z, exec (.intervalExpiry k) s = .next t ∧ t.banks[b].reels[r]? = some z ∧ z.position = none ∧
        t.latches.getLsbD 8 = true ∧ t.trains[k] = some y ∧ y.planned = x.issued ∧ y.issued = x.issued ∧ y.state = .verify) ∧
    (s.inputs[reel.zero].closed = decide (p = 0) →
      ∃ t y, exec (.intervalExpiry k) s = .next t ∧ t.banks = s.banks ∧ t.trains[k] = some y ∧
        (x.issued < x.planned → y.planned = x.planned ∧ y.owner = x.owner ∧ PulseOffered k x y (max s.now ends) s t) ∧
        (x.issued = x.planned → y = { x with state := .verify, interval := none,
                                             verify := .running (max s.now ends + x.profile.start * 1000) }))) ∧
  (∀ (k : TrainNo) (x : Train) (b : BankNo) (r : Nat) (reel : Reel) (ends : Nat) (s : State),
    s.trains[k] = some x → x.owner = .reel b r → x.verify = .running ends → s.banks[b].reels[r]? = some reel →
    s.banks[b].state = .zeroing →
    ∃ t z, exec (.verifyExpiry k) s = .next t ∧ t.banks[b].reels[r]? = some z ∧
      (s.inputs[reel.zero].closed = true → reel.position ≠ none → z = reel) ∧
      (s.inputs[reel.zero].closed = true → reel.position = none → z = { reel with position := some 0 }) ∧
      (s.inputs[reel.zero].closed = false → z = { reel with position := none }) ∧
      (s.inputs[reel.zero].closed = false → reel.position ≠ none → t.latches.getLsbD 8 = true) ∧
      (s.inputs[reel.zero].closed = false → reel.position = none → t.latches.getLsbD 9 = true) ∧
      (t.trains[k] = none ∨ ∃ y, t.trains[k] = some y ∧ y.verify = .expired)) ∧
  (∀ (k : TrainNo) (x : Train) (b : BankNo) (r : Nat) (reel : Reel) (ends : Nat) (s : State),
    s.trains[k] = some x → x.owner = .reel b r → x.verify = .running ends → s.banks[b].reels[r]? = some reel →
    s.banks[b].state = .adding →
    ∃ t z, exec (.verifyExpiry k) s = .next t ∧ t.banks[b].reels[r]? = some z ∧
      (x.inFlight = true ∨ reel.position = none ∨
        (∃ p : Fin 10, reel.position = some p ∧ s.inputs[reel.zero].closed = decide (p = 0)) → z = reel) ∧
      ∀ p : Fin 10, x.inFlight = false → reel.position = some p → s.inputs[reel.zero].closed ≠ decide (p = 0) →
        z = { reel with position := none } ∧ t.latches.getLsbD 8 = true) ∧
  ∀ (k : TrainNo) (x : Train) (b : BankNo) (r : Nat) (reel : Reel) (ends : Nat) (s : State),
    trainOf s (.reel b r) = some k → s.trains[k] = some x → x.verify = .running ends → x.state = .verify →
    s.banks[b].reels[r]? = some reel → s.banks[b].state ≠ .idle →
    let others := ∀ (k' : TrainNo) (y : Train), k' ∈ bankTrains s b → k' ≠ k → s.trains[k'] = some y →
      y.issued = y.planned ∧ y.inFlight = false ∧ y.verify = .expired
    let still := ∀ z ∈ s.banks[b].reels, s.chans[z.channel].isKicking = false
    (x.issued = x.planned → x.inFlight = false → still → others →
      ∃ t, exec (.verifyExpiry k) s = .next t ∧ t.banks[b].state = .idle ∧ (∀ k' ∈ bankTrains s b, t.trains[k'] = none) ∧
        t.banks[b].rollover =
          (if s.banks[b].state == .zeroing && t.banks[b].reels.all (fun z => z.position == some 0) then 0
           else s.banks[b].rollover)) ∧
    (x.issued ≠ x.planned ∨ x.inFlight = true ∨ ¬ still ∨ ¬ others →
      ∃ t y, exec (.verifyExpiry k) s = .next t ∧ t.banks[b].state = s.banks[b].state ∧ t.trains[k] = some y ∧
        y.verify = .expired ∧ t.banks[b].rollover = s.banks[b].rollover)

/-! ### Protection -/

/-- A drive sample goes to the lowest driven channel above the one sampled last, else to the lowest driven one, at the next multiple of 50 µs: at or below
the short ceiling it clears that channel's short run, a first one above it makes the run 1, past 2 ms of a kick it also sets the open verdict, and nothing
else changes. The second high drive sample in a row locks the channel with cause Short. A kick's end settles the verdict on the strikes, and the third open
kick locks the channel with cause Open (R21, R126, R128, R129). That the rows SHORT_LOCK and OPEN_LOCK are the sample and the kick timer's expiry
themselves, and that a settled verdict is put back to none yet, are the model's choices (log entries 11 and 29). -/
def Obligations.SamplesSetTheVerdictAndLock : Prop :=
  (∀ (c : Chan) (s : State), nextDriven s = some c ↔
    s.chans[c].driven = true ∧
    ((∃ last : Chan, s.mon.lastDriven = some last ∧ last < c ∧ ∀ c' : Chan, last < c' → c' < c → s.chans[c'].driven = false) ∨
     ((∀ last : Chan, s.mon.lastDriven = some last → ∀ c' : Chan, last < c' → s.chans[c'].driven = false) ∧
      ∀ c' : Chan, c' < c → s.chans[c'].driven = false))) ∧
  (∀ (v : Byte) (c : Chan) (s : State), nextDriven s = some c →
    let k := s.coils[c]
    let g := s.guards[c]
    let at_ := max s.clocks.driven ((s.now + 49) / 50 * 50)
    (s.passDue = false → v.toNat ≤ k.shortCeiling ∨ g.shortRun = 0 →
      ∃ x : Verdict, exec (.driveSample v) s = .next { s with
        now := at_
        clocks := { s.clocks with driven := at_ + 50 }
        mon := { s.mon with lastDriven := some c }
        guards := s.guards.set c { g with shortRun := if k.shortCeiling < v.toNat then 1 else 0, verdict := x } } ∧
        (∀ (d : Drive) (n ends : Nat), s.chans[c].act = .kicking d n ends → k.openFloor ≠ 0 → d.began + 2000 < at_ →
          x = if k.openFloor ≤ v.toNat ∨ g.verdict = .good then .good else .openSoFar) ∧
        ((∀ (d : Drive) (n ends : Nat), s.chans[c].act = .kicking d n ends → k.openFloor = 0 ∨ at_ ≤ d.began + 2000) →
          x = g.verdict)) ∧
    (v.toNat ≤ k.shortCeiling ∨ g.shortRun = 0 → exec (.shortLock v) s = .next s) ∧
    (g.shortRun = 1 → k.shortCeiling < v.toNat → ∀ i : Instr, i = .driveSample v ∨ i = .shortLock v →
      ∃ t, exec i s = .next t ∧ t.chans[c].act = .locked ∧
        t.guards[c] = { strikes := g.strikes, verdict := .noneYet, shortRun := 2, leakRun := g.leakRun, cause := some .shorted } ∧
        t.latches.getLsbD 6 = true ∧ t.now = at_)) ∧
  ∀ (c : Chan) (d : Drive) (k ends : Nat) (s : State), s.chans[c].act = .kicking d k ends → s.coils[c].openFloor ≠ 0 →
    let g := s.guards[c]
    let settled := fun n : Nat => ∃ t, exec (.kickTimerExpiry c) s = .next t ∧ t.guards[c].strikes = n ∧
      (n ≠ g.strikes → s.latches.getLsbD 5 = false → t.latches.getLsbD 5 = decide (n = 1))
    (g.verdict ≠ .openSoFar ∨ g.strikes < 2 → exec (.openLock c) s = .next s) ∧
    (g.verdict = .noneYet → settled g.strikes) ∧
    (g.verdict = .good → settled 0) ∧
    (g.verdict = .openSoFar → g.strikes < 2 → settled (g.strikes + 1)) ∧
    (g.verdict = .openSoFar → 2 ≤ g.strikes → ∀ i : Instr, i = .kickTimerExpiry c ∨ i = .openLock c →
      ∃ t, exec i s = .next t ∧ t.chans[c].act = .locked ∧ t.guards[c].cause = some .opened ∧
        t.guards[c].strikes = 3 ∧ t.latches.getLsbD 6 = true)

/-- An undriven sample is taken at the channel's next turn; at or below the leak threshold it clears the leak run, above it it raises it, and the one that
takes it to 5 trips the node with cause Leak and the channel, except in TRIPPED, where it is only counted (R126, R130, R132, R168). That the row LEAK_TRIP is
the sample itself, and nothing where it trips nothing, is the model's choice (log entry 11). -/
def Obligations.UndrivenSamplesFindLeaks : Prop :=
  ∀ (v : Byte) (c : Chan) (s : State), s.chans[c].driven = false →
    let high := s.settings.leakThreshold < v.toNat
    let run := if high then min 5 (s.guards[c].leakRun + 1) else 0
    let turn := 500 * c.val / 3
    let from_ := max s.now s.clocks.undriven
    let at_ := turn + (from_ - turn + 3999) / 4000 * 4000
    let sampled := { s with now := max s.now at_, clocks := { s.clocks with undriven := at_ + 1 },
                            guards := s.guards.set c { s.guards[c] with leakRun := run } }
    (¬ high ∨ s.guards[c].leakRun < 4 → exec (.undrivenSample c v) s = .next sampled) ∧
    (high → 4 ≤ s.guards[c].leakRun → s.node.st ≠ .tripped → ∀ i : Instr, i = .undrivenSample c v ∨ i = .leakTrip c v →
      ∃ t, exec i s = .next t ∧ t.node = { s.node with st := .tripped, relay := false, settle := none } ∧
        AllStopped t ∧ TablesKept s t ∧ t.guards[c].leakRun = 5 ∧ t.latches.getLsbD 14 = true ∧
        t.mon = { s.mon with tripCause := some .leak, tripChan := some c, trips := min 255 (s.mon.trips + 1) }) ∧
    (¬ high ∨ s.guards[c].leakRun < 4 ∨ s.node.st = .tripped → exec (.leakTrip c v) s = .next s) ∧
    (s.node.st = .tripped → s.passDue = false → exec (.undrivenSample c v) s = .next sampled)

/-- A supply reading raises its own run and clears the other, and changes nothing else where it neither sets nor clears the Sag flag nor trips; the
reading that takes the low run to 4 sets the flag and its latch, the one that takes the good run to 20 clears it, and the one that takes the floor
run to 50 trips the node (R133, R134). A temperature reading sets the Warm flag at the warm temperature, clears it 5 °C below, counts readings at
the trip temperature, and trips the node with cause Heat where it leaves the count at 10 or more (R132, R135, R136, R168). The rows that name an outcome
are the reading itself, the trip record's channel is none for Supply and Heat, and the temperature byte is unsigned: the model's choices and readings (log
entries 11, 17 and 18). -/
def Obligations.ReadingsRunTheSagAndWarmFlags : Prop :=
  (∀ (v : Byte) (s : State),
    let low := v.toNat < s.settings.sagThreshold
    let floor := if v.toNat < s.settings.supplyFloor ∧ s.node.st = .live then s.mon.floorRun + 1 else 0
    let runs := { s.mon with supply := v, lowRun := if low then s.mon.lowRun + 1 else 0,
                             goodRun := if low then 0 else s.mon.goodRun + 1, floorRun := floor }
    let ticked := { s with now := max s.now s.clocks.supply, clocks := { s.clocks with supply := s.clocks.supply + 1000 } }
    (floor ≠ 50 → s.passDue = false → (low → s.mon.sag = false → s.mon.lowRun ≠ 3) → (¬ low → s.mon.sag = true → s.mon.goodRun ≠ 19) →
      exec (.supplyReading v) s = .next { ticked with mon := runs } ∧ exec (.sagSet v) s = .next s ∧
      exec (.sagClear v) s = .next s ∧ exec (.supplyFloorTrip v) s = .next s) ∧
    (¬ low ∨ s.mon.sag = true ∨ s.mon.lowRun ≠ 3 → exec (.sagSet v) s = .next s) ∧
    (low ∨ s.mon.sag = false ∨ s.mon.goodRun ≠ 19 → exec (.sagClear v) s = .next s) ∧
    (floor ≠ 50 → exec (.supplyFloorTrip v) s = .next s) ∧
    (floor ≠ 50 → s.passDue = false → low → s.mon.sag = false → s.mon.lowRun = 3 →
      ∀ i : Instr, i = .supplyReading v ∨ i = .sagSet v →
      exec i s = .next { ticked with mon := { runs with sag := true }, latches := s.latches ||| 0x1000 }) ∧
    (floor ≠ 50 → Calm s → ¬ low → s.mon.sag = true → s.mon.goodRun = 19 →
      ∀ i : Instr, i = .supplyReading v ∨ i = .sagClear v →
      exec i s = .next { ticked with mon := { runs with sag := false }, passDue := false }) ∧
    (floor = 50 → ∀ i : Instr, i = .supplyReading v ∨ i = .supplyFloorTrip v → ∃ t, exec i s = .next t ∧
      t.node = { s.node with st := .tripped, relay := false, settle := none } ∧ AllStopped t ∧ TablesKept s t ∧
      t.latches.getLsbD 14 = true ∧ t.mon.tripCause = some .supply ∧ t.mon.tripChan = none ∧
      t.mon.trips = min 255 (s.mon.trips + 1) ∧ t.mon.supply = v)) ∧
  (∀ (v : Byte) (s : State),
    let count := if s.settings.tripTemp ≤ v.toNat then min 255 (s.mon.hotCount + 1) else 0
    let warm := if s.mon.warm then !decide (v.toNat + 5 < s.settings.warmTemp) else decide (s.settings.warmTemp ≤ v.toNat)
    (count < 10 ∨ s.node.st = .tripped →
      exec (.temperatureReading v) s = .next { s with
        now := max s.now s.clocks.temp
        clocks := { s.clocks with temp := s.clocks.temp + 100000 }
        mon := { s.mon with temp := v, hotCount := count, warm := warm }
        latches := if warm && !s.mon.warm then s.latches ||| 0x2000 else s.latches } ∧
      exec (.heatTrip v) s = .next s) ∧
    (10 ≤ count → s.node.st ≠ .tripped → ∀ i : Instr, i = .temperatureReading v ∨ i = .heatTrip v →
      ∃ t, exec i s = .next t ∧ t.node = { s.node with st := .tripped, relay := false, settle := none } ∧
        AllStopped t ∧ TablesKept s t ∧ t.latches.getLsbD 14 = true ∧
        t.mon = { s.mon with temp := v, hotCount := count, warm := warm, tripCause := some .heat, tripChan := none,
                             trips := min 255 (s.mon.trips + 1) }))

/-! ### The lamp clocks -/

/-- At a slot start the eight lamps of the next strobe are driven at their effective levels: the base level by mode and blink half, scaled by the
master level in force to the nearest and never below 1, and the warm lamp level where that is 0 and the Warm flag set; with levels and a master
level of 0 to 15, and a warm lamp level of 0 to 3, the result is 0 to 15 and is above 0 wherever base and master are (R142, R144, R145). -/
def Obligations.SlotsDriveTheEffectiveLevels : Prop :=
  ∀ s : State,
    let m := if s.node.st = .quiet then s.settings.quietMaster else s.settings.master
    let base := fun x : Lamp => match x.mode with
      | .steady => x.level
      | .blinkA => if s.blink.second then 0 else x.level
      | .blinkB => if s.blink.second then x.level else 0
    let e := fun x : Lamp => if base x = 0 ∨ m = 0 then 0 else max 1 ((base x * m + 7) / 15)
    let shown := fun x : Lamp => if e x = 0 ∧ s.mon.warm = true then s.settings.warmLamp else e x
    (∃ t, exec .strobeSlot s = .next t ∧
      t = { s with now := max s.now s.clocks.strobe, clocks := { s.clocks with strobe := s.clocks.strobe + 1000 }
                   scan := t.scan } ∧
      t.scan.slot = some s.scan.next ∧ t.scan.next = s.scan.next + 1 ∧ t.scan.drive.length = 8 ∧
      ∀ (l : LampNo) (r : Nat), l.val = 8 * s.scan.next.val + r → r < 8 → t.scan.drive[r]? = some (shown s.lamps[l])) ∧
    ∀ x : Lamp, x.level ≤ 15 → m ≤ 15 → e x ≤ 15 ∧ (base x ≠ 0 → m ≠ 0 → e x ≠ 0) ∧ (m = 15 → e x = base x) ∧
      (1 < e x → 15 * e x ≤ base x * m + 7 ∧ base x * m ≤ 15 * e x + 7) ∧ (s.settings.warmLamp ≤ 3 → shown x ≤ 15)

/-- The blink clock ends its first half after floor(P / 2) ms and its second after the rest of P, the next period taking the settings' blink period;
a chase timer's expiry rotates the ring by one and starts the timer again (R143, R149, R151). -/
def Obligations.BlinkAndChaseClocksRun : Prop :=
  (∀ s : State,
    (s.blink.second = false → exec .blinkHalfChange s = .next { s with
      now := max s.now s.blink.ends
      blink := { second := true, ends := s.blink.ends + (s.blink.period - s.blink.period / 2) * 1000,
                 period := s.blink.period } }) ∧
    (s.blink.second = true → exec .blinkHalfChange s = .next { s with
      now := max s.now s.blink.ends
      blink := { second := false, ends := s.blink.ends + s.settings.blink / 2 * 1000, period := s.settings.blink } })) ∧
  ∀ (r : RingNo) (ends : Nat) (s : State), s.rings[r].timer = some ends → s.rings[r].members.Nodup →
    let ms := s.rings[r].members
    ∃ t, exec (.chaseExpiry r) s = .next t ∧
      t = { s with now := max s.now ends, lamps := t.lamps,
                   rings := s.rings.set r { s.rings[r] with timer := some (ends + s.rings[r].period * 1000) } } ∧
      (∀ l : LampNo, t.lamps[l].mode = s.lamps[l].mode ∧ (l ∉ ms → t.lamps[l] = s.lamps[l])) ∧
      ∀ (i j : Nat) (a b : LampNo), ms[i]? = some a → ms[j]? = some b → (j + 1) % ms.length = i →
        t.lamps[a].level = s.lamps[b].level
end

