-- ==== Sys2Proof/Laws/State.lean ====
section
/-! SUPPORT. What each named update of the state makes of each field, true by `rfl`. -/

namespace Sys2Proof.Machine

/-! ### setInput -/

@[simp] theorem State.setInput_pending (i : InputNo) (x : Input) (s : State) : (s.setInput i x).pending = s.pending := rfl
@[simp] theorem State.setInput_now (i : InputNo) (x : Input) (s : State) : (s.setInput i x).now = s.now := rfl
@[simp] theorem State.setInput_passDue (i : InputNo) (x : Input) (s : State) : (s.setInput i x).passDue = s.passDue := rfl
@[simp] theorem State.setInput_node (i : InputNo) (x : Input) (s : State) : (s.setInput i x).node = s.node := rfl
@[simp] theorem State.setInput_port (i : InputNo) (x : Input) (s : State) : (s.setInput i x).port = s.port := rfl
@[simp] theorem State.setInput_inputs (i : InputNo) (x : Input) (s : State) : (s.setInput i x).inputs = s.inputs.set i x := rfl
@[simp] theorem State.setInput_reported (i : InputNo) (x : Input) (s : State) : (s.setInput i x).reported = s.reported := rfl
@[simp] theorem State.setInput_rules (i : InputNo) (x : Input) (s : State) : (s.setInput i x).rules = s.rules := rfl
@[simp] theorem State.setInput_holdoffs (i : InputNo) (x : Input) (s : State) : (s.setInput i x).holdoffs = s.holdoffs := rfl
@[simp] theorem State.setInput_armed (i : InputNo) (x : Input) (s : State) : (s.setInput i x).armed = s.armed := rfl
@[simp] theorem State.setInput_coils (i : InputNo) (x : Input) (s : State) : (s.setInput i x).coils = s.coils := rfl
@[simp] theorem State.setInput_chans (i : InputNo) (x : Input) (s : State) : (s.setInput i x).chans = s.chans := rfl
@[simp] theorem State.setInput_heat (i : InputNo) (x : Input) (s : State) : (s.setInput i x).heat = s.heat := rfl
@[simp] theorem State.setInput_guards (i : InputNo) (x : Input) (s : State) : (s.setInput i x).guards = s.guards := rfl
@[simp] theorem State.setInput_queue (i : InputNo) (x : Input) (s : State) : (s.setInput i x).queue = s.queue := rfl
@[simp] theorem State.setInput_held (i : InputNo) (x : Input) (s : State) : (s.setInput i x).held = s.held := rfl
@[simp] theorem State.setInput_inUse (i : InputNo) (x : Input) (s : State) : (s.setInput i x).inUse = s.inUse := rfl
@[simp] theorem State.setInput_dropped (i : InputNo) (x : Input) (s : State) : (s.setInput i x).dropped = s.dropped := rfl
@[simp] theorem State.setInput_trains (i : InputNo) (x : Input) (s : State) : (s.setInput i x).trains = s.trains := rfl
@[simp] theorem State.setInput_banks (i : InputNo) (x : Input) (s : State) : (s.setInput i x).banks = s.banks := rfl
@[simp] theorem State.setInput_units (i : InputNo) (x : Input) (s : State) : (s.setInput i x).units = s.units := rfl
@[simp] theorem State.setInput_mon (i : InputNo) (x : Input) (s : State) : (s.setInput i x).mon = s.mon := rfl
@[simp] theorem State.setInput_clocks (i : InputNo) (x : Input) (s : State) : (s.setInput i x).clocks = s.clocks := rfl
@[simp] theorem State.setInput_latches (i : InputNo) (x : Input) (s : State) : (s.setInput i x).latches = s.latches := rfl
@[simp] theorem State.setInput_lamps (i : InputNo) (x : Input) (s : State) : (s.setInput i x).lamps = s.lamps := rfl
@[simp] theorem State.setInput_rings (i : InputNo) (x : Input) (s : State) : (s.setInput i x).rings = s.rings := rfl
@[simp] theorem State.setInput_blink (i : InputNo) (x : Input) (s : State) : (s.setInput i x).blink = s.blink := rfl
@[simp] theorem State.setInput_scan (i : InputNo) (x : Input) (s : State) : (s.setInput i x).scan = s.scan := rfl
@[simp] theorem State.setInput_settings (i : InputNo) (x : Input) (s : State) : (s.setInput i x).settings = s.settings := rfl

/-! ### setRule -/

@[simp] theorem State.setRule_pending (i : RuleNo) (x : Rule) (s : State) : (s.setRule i x).pending = s.pending := rfl
@[simp] theorem State.setRule_now (i : RuleNo) (x : Rule) (s : State) : (s.setRule i x).now = s.now := rfl
@[simp] theorem State.setRule_passDue (i : RuleNo) (x : Rule) (s : State) : (s.setRule i x).passDue = s.passDue := rfl
@[simp] theorem State.setRule_node (i : RuleNo) (x : Rule) (s : State) : (s.setRule i x).node = s.node := rfl
@[simp] theorem State.setRule_port (i : RuleNo) (x : Rule) (s : State) : (s.setRule i x).port = s.port := rfl
@[simp] theorem State.setRule_inputs (i : RuleNo) (x : Rule) (s : State) : (s.setRule i x).inputs = s.inputs := rfl
@[simp] theorem State.setRule_reported (i : RuleNo) (x : Rule) (s : State) : (s.setRule i x).reported = s.reported := rfl
@[simp] theorem State.setRule_rules (i : RuleNo) (x : Rule) (s : State) : (s.setRule i x).rules = s.rules.set i x := rfl
@[simp] theorem State.setRule_holdoffs (i : RuleNo) (x : Rule) (s : State) : (s.setRule i x).holdoffs = s.holdoffs := rfl
@[simp] theorem State.setRule_armed (i : RuleNo) (x : Rule) (s : State) : (s.setRule i x).armed = s.armed := rfl
@[simp] theorem State.setRule_coils (i : RuleNo) (x : Rule) (s : State) : (s.setRule i x).coils = s.coils := rfl
@[simp] theorem State.setRule_chans (i : RuleNo) (x : Rule) (s : State) : (s.setRule i x).chans = s.chans := rfl
@[simp] theorem State.setRule_heat (i : RuleNo) (x : Rule) (s : State) : (s.setRule i x).heat = s.heat := rfl
@[simp] theorem State.setRule_guards (i : RuleNo) (x : Rule) (s : State) : (s.setRule i x).guards = s.guards := rfl
@[simp] theorem State.setRule_queue (i : RuleNo) (x : Rule) (s : State) : (s.setRule i x).queue = s.queue := rfl
@[simp] theorem State.setRule_held (i : RuleNo) (x : Rule) (s : State) : (s.setRule i x).held = s.held := rfl
@[simp] theorem State.setRule_inUse (i : RuleNo) (x : Rule) (s : State) : (s.setRule i x).inUse = s.inUse := rfl
@[simp] theorem State.setRule_dropped (i : RuleNo) (x : Rule) (s : State) : (s.setRule i x).dropped = s.dropped := rfl
@[simp] theorem State.setRule_trains (i : RuleNo) (x : Rule) (s : State) : (s.setRule i x).trains = s.trains := rfl
@[simp] theorem State.setRule_banks (i : RuleNo) (x : Rule) (s : State) : (s.setRule i x).banks = s.banks := rfl
@[simp] theorem State.setRule_units (i : RuleNo) (x : Rule) (s : State) : (s.setRule i x).units = s.units := rfl
@[simp] theorem State.setRule_mon (i : RuleNo) (x : Rule) (s : State) : (s.setRule i x).mon = s.mon := rfl
@[simp] theorem State.setRule_clocks (i : RuleNo) (x : Rule) (s : State) : (s.setRule i x).clocks = s.clocks := rfl
@[simp] theorem State.setRule_latches (i : RuleNo) (x : Rule) (s : State) : (s.setRule i x).latches = s.latches := rfl
@[simp] theorem State.setRule_lamps (i : RuleNo) (x : Rule) (s : State) : (s.setRule i x).lamps = s.lamps := rfl
@[simp] theorem State.setRule_rings (i : RuleNo) (x : Rule) (s : State) : (s.setRule i x).rings = s.rings := rfl
@[simp] theorem State.setRule_blink (i : RuleNo) (x : Rule) (s : State) : (s.setRule i x).blink = s.blink := rfl
@[simp] theorem State.setRule_scan (i : RuleNo) (x : Rule) (s : State) : (s.setRule i x).scan = s.scan := rfl
@[simp] theorem State.setRule_settings (i : RuleNo) (x : Rule) (s : State) : (s.setRule i x).settings = s.settings := rfl

/-! ### setHoldoff -/

@[simp] theorem State.setHoldoff_pending (i : RuleNo) (x : Option Nat) (s : State) : (s.setHoldoff i x).pending = s.pending := rfl
@[simp] theorem State.setHoldoff_now (i : RuleNo) (x : Option Nat) (s : State) : (s.setHoldoff i x).now = s.now := rfl
@[simp] theorem State.setHoldoff_passDue (i : RuleNo) (x : Option Nat) (s : State) : (s.setHoldoff i x).passDue = s.passDue := rfl
@[simp] theorem State.setHoldoff_node (i : RuleNo) (x : Option Nat) (s : State) : (s.setHoldoff i x).node = s.node := rfl
@[simp] theorem State.setHoldoff_port (i : RuleNo) (x : Option Nat) (s : State) : (s.setHoldoff i x).port = s.port := rfl
@[simp] theorem State.setHoldoff_inputs (i : RuleNo) (x : Option Nat) (s : State) : (s.setHoldoff i x).inputs = s.inputs := rfl
@[simp] theorem State.setHoldoff_reported (i : RuleNo) (x : Option Nat) (s : State) : (s.setHoldoff i x).reported = s.reported := rfl
@[simp] theorem State.setHoldoff_rules (i : RuleNo) (x : Option Nat) (s : State) : (s.setHoldoff i x).rules = s.rules := rfl
@[simp] theorem State.setHoldoff_holdoffs (i : RuleNo) (x : Option Nat) (s : State) : (s.setHoldoff i x).holdoffs = s.holdoffs.set i x := rfl
@[simp] theorem State.setHoldoff_armed (i : RuleNo) (x : Option Nat) (s : State) : (s.setHoldoff i x).armed = s.armed := rfl
@[simp] theorem State.setHoldoff_coils (i : RuleNo) (x : Option Nat) (s : State) : (s.setHoldoff i x).coils = s.coils := rfl
@[simp] theorem State.setHoldoff_chans (i : RuleNo) (x : Option Nat) (s : State) : (s.setHoldoff i x).chans = s.chans := rfl
@[simp] theorem State.setHoldoff_heat (i : RuleNo) (x : Option Nat) (s : State) : (s.setHoldoff i x).heat = s.heat := rfl
@[simp] theorem State.setHoldoff_guards (i : RuleNo) (x : Option Nat) (s : State) : (s.setHoldoff i x).guards = s.guards := rfl
@[simp] theorem State.setHoldoff_queue (i : RuleNo) (x : Option Nat) (s : State) : (s.setHoldoff i x).queue = s.queue := rfl
@[simp] theorem State.setHoldoff_held (i : RuleNo) (x : Option Nat) (s : State) : (s.setHoldoff i x).held = s.held := rfl
@[simp] theorem State.setHoldoff_inUse (i : RuleNo) (x : Option Nat) (s : State) : (s.setHoldoff i x).inUse = s.inUse := rfl
@[simp] theorem State.setHoldoff_dropped (i : RuleNo) (x : Option Nat) (s : State) : (s.setHoldoff i x).dropped = s.dropped := rfl
@[simp] theorem State.setHoldoff_trains (i : RuleNo) (x : Option Nat) (s : State) : (s.setHoldoff i x).trains = s.trains := rfl
@[simp] theorem State.setHoldoff_banks (i : RuleNo) (x : Option Nat) (s : State) : (s.setHoldoff i x).banks = s.banks := rfl
@[simp] theorem State.setHoldoff_units (i : RuleNo) (x : Option Nat) (s : State) : (s.setHoldoff i x).units = s.units := rfl
@[simp] theorem State.setHoldoff_mon (i : RuleNo) (x : Option Nat) (s : State) : (s.setHoldoff i x).mon = s.mon := rfl
@[simp] theorem State.setHoldoff_clocks (i : RuleNo) (x : Option Nat) (s : State) : (s.setHoldoff i x).clocks = s.clocks := rfl
@[simp] theorem State.setHoldoff_latches (i : RuleNo) (x : Option Nat) (s : State) : (s.setHoldoff i x).latches = s.latches := rfl
@[simp] theorem State.setHoldoff_lamps (i : RuleNo) (x : Option Nat) (s : State) : (s.setHoldoff i x).lamps = s.lamps := rfl
@[simp] theorem State.setHoldoff_rings (i : RuleNo) (x : Option Nat) (s : State) : (s.setHoldoff i x).rings = s.rings := rfl
@[simp] theorem State.setHoldoff_blink (i : RuleNo) (x : Option Nat) (s : State) : (s.setHoldoff i x).blink = s.blink := rfl
@[simp] theorem State.setHoldoff_scan (i : RuleNo) (x : Option Nat) (s : State) : (s.setHoldoff i x).scan = s.scan := rfl
@[simp] theorem State.setHoldoff_settings (i : RuleNo) (x : Option Nat) (s : State) : (s.setHoldoff i x).settings = s.settings := rfl

/-! ### setCoil -/

@[simp] theorem State.setCoil_pending (i : Chan) (x : Coil) (s : State) : (s.setCoil i x).pending = s.pending := rfl
@[simp] theorem State.setCoil_now (i : Chan) (x : Coil) (s : State) : (s.setCoil i x).now = s.now := rfl
@[simp] theorem State.setCoil_passDue (i : Chan) (x : Coil) (s : State) : (s.setCoil i x).passDue = s.passDue := rfl
@[simp] theorem State.setCoil_node (i : Chan) (x : Coil) (s : State) : (s.setCoil i x).node = s.node := rfl
@[simp] theorem State.setCoil_port (i : Chan) (x : Coil) (s : State) : (s.setCoil i x).port = s.port := rfl
@[simp] theorem State.setCoil_inputs (i : Chan) (x : Coil) (s : State) : (s.setCoil i x).inputs = s.inputs := rfl
@[simp] theorem State.setCoil_reported (i : Chan) (x : Coil) (s : State) : (s.setCoil i x).reported = s.reported := rfl
@[simp] theorem State.setCoil_rules (i : Chan) (x : Coil) (s : State) : (s.setCoil i x).rules = s.rules := rfl
@[simp] theorem State.setCoil_holdoffs (i : Chan) (x : Coil) (s : State) : (s.setCoil i x).holdoffs = s.holdoffs := rfl
@[simp] theorem State.setCoil_armed (i : Chan) (x : Coil) (s : State) : (s.setCoil i x).armed = s.armed := rfl
@[simp] theorem State.setCoil_coils (i : Chan) (x : Coil) (s : State) : (s.setCoil i x).coils = s.coils.set i x := rfl
@[simp] theorem State.setCoil_chans (i : Chan) (x : Coil) (s : State) : (s.setCoil i x).chans = s.chans := rfl
@[simp] theorem State.setCoil_heat (i : Chan) (x : Coil) (s : State) : (s.setCoil i x).heat = s.heat := rfl
@[simp] theorem State.setCoil_guards (i : Chan) (x : Coil) (s : State) : (s.setCoil i x).guards = s.guards := rfl
@[simp] theorem State.setCoil_queue (i : Chan) (x : Coil) (s : State) : (s.setCoil i x).queue = s.queue := rfl
@[simp] theorem State.setCoil_held (i : Chan) (x : Coil) (s : State) : (s.setCoil i x).held = s.held := rfl
@[simp] theorem State.setCoil_inUse (i : Chan) (x : Coil) (s : State) : (s.setCoil i x).inUse = s.inUse := rfl
@[simp] theorem State.setCoil_dropped (i : Chan) (x : Coil) (s : State) : (s.setCoil i x).dropped = s.dropped := rfl
@[simp] theorem State.setCoil_trains (i : Chan) (x : Coil) (s : State) : (s.setCoil i x).trains = s.trains := rfl
@[simp] theorem State.setCoil_banks (i : Chan) (x : Coil) (s : State) : (s.setCoil i x).banks = s.banks := rfl
@[simp] theorem State.setCoil_units (i : Chan) (x : Coil) (s : State) : (s.setCoil i x).units = s.units := rfl
@[simp] theorem State.setCoil_mon (i : Chan) (x : Coil) (s : State) : (s.setCoil i x).mon = s.mon := rfl
@[simp] theorem State.setCoil_clocks (i : Chan) (x : Coil) (s : State) : (s.setCoil i x).clocks = s.clocks := rfl
@[simp] theorem State.setCoil_latches (i : Chan) (x : Coil) (s : State) : (s.setCoil i x).latches = s.latches := rfl
@[simp] theorem State.setCoil_lamps (i : Chan) (x : Coil) (s : State) : (s.setCoil i x).lamps = s.lamps := rfl
@[simp] theorem State.setCoil_rings (i : Chan) (x : Coil) (s : State) : (s.setCoil i x).rings = s.rings := rfl
@[simp] theorem State.setCoil_blink (i : Chan) (x : Coil) (s : State) : (s.setCoil i x).blink = s.blink := rfl
@[simp] theorem State.setCoil_scan (i : Chan) (x : Coil) (s : State) : (s.setCoil i x).scan = s.scan := rfl
@[simp] theorem State.setCoil_settings (i : Chan) (x : Coil) (s : State) : (s.setCoil i x).settings = s.settings := rfl

/-! ### setChan -/

@[simp] theorem State.setChan_pending (i : Chan) (x : Channel) (s : State) : (s.setChan i x).pending = s.pending := rfl
@[simp] theorem State.setChan_now (i : Chan) (x : Channel) (s : State) : (s.setChan i x).now = s.now := rfl
@[simp] theorem State.setChan_passDue (i : Chan) (x : Channel) (s : State) : (s.setChan i x).passDue = s.passDue := rfl
@[simp] theorem State.setChan_node (i : Chan) (x : Channel) (s : State) : (s.setChan i x).node = s.node := rfl
@[simp] theorem State.setChan_port (i : Chan) (x : Channel) (s : State) : (s.setChan i x).port = s.port := rfl
@[simp] theorem State.setChan_inputs (i : Chan) (x : Channel) (s : State) : (s.setChan i x).inputs = s.inputs := rfl
@[simp] theorem State.setChan_reported (i : Chan) (x : Channel) (s : State) : (s.setChan i x).reported = s.reported := rfl
@[simp] theorem State.setChan_rules (i : Chan) (x : Channel) (s : State) : (s.setChan i x).rules = s.rules := rfl
@[simp] theorem State.setChan_holdoffs (i : Chan) (x : Channel) (s : State) : (s.setChan i x).holdoffs = s.holdoffs := rfl
@[simp] theorem State.setChan_armed (i : Chan) (x : Channel) (s : State) : (s.setChan i x).armed = s.armed := rfl
@[simp] theorem State.setChan_coils (i : Chan) (x : Channel) (s : State) : (s.setChan i x).coils = s.coils := rfl
@[simp] theorem State.setChan_chans (i : Chan) (x : Channel) (s : State) : (s.setChan i x).chans = s.chans.set i x := rfl
@[simp] theorem State.setChan_heat (i : Chan) (x : Channel) (s : State) : (s.setChan i x).heat = s.heat := rfl
@[simp] theorem State.setChan_guards (i : Chan) (x : Channel) (s : State) : (s.setChan i x).guards = s.guards := rfl
@[simp] theorem State.setChan_queue (i : Chan) (x : Channel) (s : State) : (s.setChan i x).queue = s.queue := rfl
@[simp] theorem State.setChan_held (i : Chan) (x : Channel) (s : State) : (s.setChan i x).held = s.held := rfl
@[simp] theorem State.setChan_inUse (i : Chan) (x : Channel) (s : State) : (s.setChan i x).inUse = s.inUse := rfl
@[simp] theorem State.setChan_dropped (i : Chan) (x : Channel) (s : State) : (s.setChan i x).dropped = s.dropped := rfl
@[simp] theorem State.setChan_trains (i : Chan) (x : Channel) (s : State) : (s.setChan i x).trains = s.trains := rfl
@[simp] theorem State.setChan_banks (i : Chan) (x : Channel) (s : State) : (s.setChan i x).banks = s.banks := rfl
@[simp] theorem State.setChan_units (i : Chan) (x : Channel) (s : State) : (s.setChan i x).units = s.units := rfl
@[simp] theorem State.setChan_mon (i : Chan) (x : Channel) (s : State) : (s.setChan i x).mon = s.mon := rfl
@[simp] theorem State.setChan_clocks (i : Chan) (x : Channel) (s : State) : (s.setChan i x).clocks = s.clocks := rfl
@[simp] theorem State.setChan_latches (i : Chan) (x : Channel) (s : State) : (s.setChan i x).latches = s.latches := rfl
@[simp] theorem State.setChan_lamps (i : Chan) (x : Channel) (s : State) : (s.setChan i x).lamps = s.lamps := rfl
@[simp] theorem State.setChan_rings (i : Chan) (x : Channel) (s : State) : (s.setChan i x).rings = s.rings := rfl
@[simp] theorem State.setChan_blink (i : Chan) (x : Channel) (s : State) : (s.setChan i x).blink = s.blink := rfl
@[simp] theorem State.setChan_scan (i : Chan) (x : Channel) (s : State) : (s.setChan i x).scan = s.scan := rfl
@[simp] theorem State.setChan_settings (i : Chan) (x : Channel) (s : State) : (s.setChan i x).settings = s.settings := rfl

/-! ### setHeat -/

@[simp] theorem State.setHeat_pending (i : Chan) (x : Heat) (s : State) : (s.setHeat i x).pending = s.pending := rfl
@[simp] theorem State.setHeat_now (i : Chan) (x : Heat) (s : State) : (s.setHeat i x).now = s.now := rfl
@[simp] theorem State.setHeat_passDue (i : Chan) (x : Heat) (s : State) : (s.setHeat i x).passDue = s.passDue := rfl
@[simp] theorem State.setHeat_node (i : Chan) (x : Heat) (s : State) : (s.setHeat i x).node = s.node := rfl
@[simp] theorem State.setHeat_port (i : Chan) (x : Heat) (s : State) : (s.setHeat i x).port = s.port := rfl
@[simp] theorem State.setHeat_inputs (i : Chan) (x : Heat) (s : State) : (s.setHeat i x).inputs = s.inputs := rfl
@[simp] theorem State.setHeat_reported (i : Chan) (x : Heat) (s : State) : (s.setHeat i x).reported = s.reported := rfl
@[simp] theorem State.setHeat_rules (i : Chan) (x : Heat) (s : State) : (s.setHeat i x).rules = s.rules := rfl
@[simp] theorem State.setHeat_holdoffs (i : Chan) (x : Heat) (s : State) : (s.setHeat i x).holdoffs = s.holdoffs := rfl
@[simp] theorem State.setHeat_armed (i : Chan) (x : Heat) (s : State) : (s.setHeat i x).armed = s.armed := rfl
@[simp] theorem State.setHeat_coils (i : Chan) (x : Heat) (s : State) : (s.setHeat i x).coils = s.coils := rfl
@[simp] theorem State.setHeat_chans (i : Chan) (x : Heat) (s : State) : (s.setHeat i x).chans = s.chans := rfl
@[simp] theorem State.setHeat_heat (i : Chan) (x : Heat) (s : State) : (s.setHeat i x).heat = s.heat.set i x := rfl
@[simp] theorem State.setHeat_guards (i : Chan) (x : Heat) (s : State) : (s.setHeat i x).guards = s.guards := rfl
@[simp] theorem State.setHeat_queue (i : Chan) (x : Heat) (s : State) : (s.setHeat i x).queue = s.queue := rfl
@[simp] theorem State.setHeat_held (i : Chan) (x : Heat) (s : State) : (s.setHeat i x).held = s.held := rfl
@[simp] theorem State.setHeat_inUse (i : Chan) (x : Heat) (s : State) : (s.setHeat i x).inUse = s.inUse := rfl
@[simp] theorem State.setHeat_dropped (i : Chan) (x : Heat) (s : State) : (s.setHeat i x).dropped = s.dropped := rfl
@[simp] theorem State.setHeat_trains (i : Chan) (x : Heat) (s : State) : (s.setHeat i x).trains = s.trains := rfl
@[simp] theorem State.setHeat_banks (i : Chan) (x : Heat) (s : State) : (s.setHeat i x).banks = s.banks := rfl
@[simp] theorem State.setHeat_units (i : Chan) (x : Heat) (s : State) : (s.setHeat i x).units = s.units := rfl
@[simp] theorem State.setHeat_mon (i : Chan) (x : Heat) (s : State) : (s.setHeat i x).mon = s.mon := rfl
@[simp] theorem State.setHeat_clocks (i : Chan) (x : Heat) (s : State) : (s.setHeat i x).clocks = s.clocks := rfl
@[simp] theorem State.setHeat_latches (i : Chan) (x : Heat) (s : State) : (s.setHeat i x).latches = s.latches := rfl
@[simp] theorem State.setHeat_lamps (i : Chan) (x : Heat) (s : State) : (s.setHeat i x).lamps = s.lamps := rfl
@[simp] theorem State.setHeat_rings (i : Chan) (x : Heat) (s : State) : (s.setHeat i x).rings = s.rings := rfl
@[simp] theorem State.setHeat_blink (i : Chan) (x : Heat) (s : State) : (s.setHeat i x).blink = s.blink := rfl
@[simp] theorem State.setHeat_scan (i : Chan) (x : Heat) (s : State) : (s.setHeat i x).scan = s.scan := rfl
@[simp] theorem State.setHeat_settings (i : Chan) (x : Heat) (s : State) : (s.setHeat i x).settings = s.settings := rfl

/-! ### setGuard -/

@[simp] theorem State.setGuard_pending (i : Chan) (x : Guard) (s : State) : (s.setGuard i x).pending = s.pending := rfl
@[simp] theorem State.setGuard_now (i : Chan) (x : Guard) (s : State) : (s.setGuard i x).now = s.now := rfl
@[simp] theorem State.setGuard_passDue (i : Chan) (x : Guard) (s : State) : (s.setGuard i x).passDue = s.passDue := rfl
@[simp] theorem State.setGuard_node (i : Chan) (x : Guard) (s : State) : (s.setGuard i x).node = s.node := rfl
@[simp] theorem State.setGuard_port (i : Chan) (x : Guard) (s : State) : (s.setGuard i x).port = s.port := rfl
@[simp] theorem State.setGuard_inputs (i : Chan) (x : Guard) (s : State) : (s.setGuard i x).inputs = s.inputs := rfl
@[simp] theorem State.setGuard_reported (i : Chan) (x : Guard) (s : State) : (s.setGuard i x).reported = s.reported := rfl
@[simp] theorem State.setGuard_rules (i : Chan) (x : Guard) (s : State) : (s.setGuard i x).rules = s.rules := rfl
@[simp] theorem State.setGuard_holdoffs (i : Chan) (x : Guard) (s : State) : (s.setGuard i x).holdoffs = s.holdoffs := rfl
@[simp] theorem State.setGuard_armed (i : Chan) (x : Guard) (s : State) : (s.setGuard i x).armed = s.armed := rfl
@[simp] theorem State.setGuard_coils (i : Chan) (x : Guard) (s : State) : (s.setGuard i x).coils = s.coils := rfl
@[simp] theorem State.setGuard_chans (i : Chan) (x : Guard) (s : State) : (s.setGuard i x).chans = s.chans := rfl
@[simp] theorem State.setGuard_heat (i : Chan) (x : Guard) (s : State) : (s.setGuard i x).heat = s.heat := rfl
@[simp] theorem State.setGuard_guards (i : Chan) (x : Guard) (s : State) : (s.setGuard i x).guards = s.guards.set i x := rfl
@[simp] theorem State.setGuard_queue (i : Chan) (x : Guard) (s : State) : (s.setGuard i x).queue = s.queue := rfl
@[simp] theorem State.setGuard_held (i : Chan) (x : Guard) (s : State) : (s.setGuard i x).held = s.held := rfl
@[simp] theorem State.setGuard_inUse (i : Chan) (x : Guard) (s : State) : (s.setGuard i x).inUse = s.inUse := rfl
@[simp] theorem State.setGuard_dropped (i : Chan) (x : Guard) (s : State) : (s.setGuard i x).dropped = s.dropped := rfl
@[simp] theorem State.setGuard_trains (i : Chan) (x : Guard) (s : State) : (s.setGuard i x).trains = s.trains := rfl
@[simp] theorem State.setGuard_banks (i : Chan) (x : Guard) (s : State) : (s.setGuard i x).banks = s.banks := rfl
@[simp] theorem State.setGuard_units (i : Chan) (x : Guard) (s : State) : (s.setGuard i x).units = s.units := rfl
@[simp] theorem State.setGuard_mon (i : Chan) (x : Guard) (s : State) : (s.setGuard i x).mon = s.mon := rfl
@[simp] theorem State.setGuard_clocks (i : Chan) (x : Guard) (s : State) : (s.setGuard i x).clocks = s.clocks := rfl
@[simp] theorem State.setGuard_latches (i : Chan) (x : Guard) (s : State) : (s.setGuard i x).latches = s.latches := rfl
@[simp] theorem State.setGuard_lamps (i : Chan) (x : Guard) (s : State) : (s.setGuard i x).lamps = s.lamps := rfl
@[simp] theorem State.setGuard_rings (i : Chan) (x : Guard) (s : State) : (s.setGuard i x).rings = s.rings := rfl
@[simp] theorem State.setGuard_blink (i : Chan) (x : Guard) (s : State) : (s.setGuard i x).blink = s.blink := rfl
@[simp] theorem State.setGuard_scan (i : Chan) (x : Guard) (s : State) : (s.setGuard i x).scan = s.scan := rfl
@[simp] theorem State.setGuard_settings (i : Chan) (x : Guard) (s : State) : (s.setGuard i x).settings = s.settings := rfl

/-! ### setTrain -/

@[simp] theorem State.setTrain_pending (i : TrainNo) (x : Option Train) (s : State) : (s.setTrain i x).pending = s.pending := rfl
@[simp] theorem State.setTrain_now (i : TrainNo) (x : Option Train) (s : State) : (s.setTrain i x).now = s.now := rfl
@[simp] theorem State.setTrain_passDue (i : TrainNo) (x : Option Train) (s : State) : (s.setTrain i x).passDue = s.passDue := rfl
@[simp] theorem State.setTrain_node (i : TrainNo) (x : Option Train) (s : State) : (s.setTrain i x).node = s.node := rfl
@[simp] theorem State.setTrain_port (i : TrainNo) (x : Option Train) (s : State) : (s.setTrain i x).port = s.port := rfl
@[simp] theorem State.setTrain_inputs (i : TrainNo) (x : Option Train) (s : State) : (s.setTrain i x).inputs = s.inputs := rfl
@[simp] theorem State.setTrain_reported (i : TrainNo) (x : Option Train) (s : State) : (s.setTrain i x).reported = s.reported := rfl
@[simp] theorem State.setTrain_rules (i : TrainNo) (x : Option Train) (s : State) : (s.setTrain i x).rules = s.rules := rfl
@[simp] theorem State.setTrain_holdoffs (i : TrainNo) (x : Option Train) (s : State) : (s.setTrain i x).holdoffs = s.holdoffs := rfl
@[simp] theorem State.setTrain_armed (i : TrainNo) (x : Option Train) (s : State) : (s.setTrain i x).armed = s.armed := rfl
@[simp] theorem State.setTrain_coils (i : TrainNo) (x : Option Train) (s : State) : (s.setTrain i x).coils = s.coils := rfl
@[simp] theorem State.setTrain_chans (i : TrainNo) (x : Option Train) (s : State) : (s.setTrain i x).chans = s.chans := rfl
@[simp] theorem State.setTrain_heat (i : TrainNo) (x : Option Train) (s : State) : (s.setTrain i x).heat = s.heat := rfl
@[simp] theorem State.setTrain_guards (i : TrainNo) (x : Option Train) (s : State) : (s.setTrain i x).guards = s.guards := rfl
@[simp] theorem State.setTrain_queue (i : TrainNo) (x : Option Train) (s : State) : (s.setTrain i x).queue = s.queue := rfl
@[simp] theorem State.setTrain_held (i : TrainNo) (x : Option Train) (s : State) : (s.setTrain i x).held = s.held := rfl
@[simp] theorem State.setTrain_inUse (i : TrainNo) (x : Option Train) (s : State) : (s.setTrain i x).inUse = s.inUse := rfl
@[simp] theorem State.setTrain_dropped (i : TrainNo) (x : Option Train) (s : State) : (s.setTrain i x).dropped = s.dropped := rfl
@[simp] theorem State.setTrain_trains (i : TrainNo) (x : Option Train) (s : State) : (s.setTrain i x).trains = s.trains.set i x := rfl
@[simp] theorem State.setTrain_banks (i : TrainNo) (x : Option Train) (s : State) : (s.setTrain i x).banks = s.banks := rfl
@[simp] theorem State.setTrain_units (i : TrainNo) (x : Option Train) (s : State) : (s.setTrain i x).units = s.units := rfl
@[simp] theorem State.setTrain_mon (i : TrainNo) (x : Option Train) (s : State) : (s.setTrain i x).mon = s.mon := rfl
@[simp] theorem State.setTrain_clocks (i : TrainNo) (x : Option Train) (s : State) : (s.setTrain i x).clocks = s.clocks := rfl
@[simp] theorem State.setTrain_latches (i : TrainNo) (x : Option Train) (s : State) : (s.setTrain i x).latches = s.latches := rfl
@[simp] theorem State.setTrain_lamps (i : TrainNo) (x : Option Train) (s : State) : (s.setTrain i x).lamps = s.lamps := rfl
@[simp] theorem State.setTrain_rings (i : TrainNo) (x : Option Train) (s : State) : (s.setTrain i x).rings = s.rings := rfl
@[simp] theorem State.setTrain_blink (i : TrainNo) (x : Option Train) (s : State) : (s.setTrain i x).blink = s.blink := rfl
@[simp] theorem State.setTrain_scan (i : TrainNo) (x : Option Train) (s : State) : (s.setTrain i x).scan = s.scan := rfl
@[simp] theorem State.setTrain_settings (i : TrainNo) (x : Option Train) (s : State) : (s.setTrain i x).settings = s.settings := rfl

/-! ### setBank -/

@[simp] theorem State.setBank_pending (i : BankNo) (x : Bank) (s : State) : (s.setBank i x).pending = s.pending := rfl
@[simp] theorem State.setBank_now (i : BankNo) (x : Bank) (s : State) : (s.setBank i x).now = s.now := rfl
@[simp] theorem State.setBank_passDue (i : BankNo) (x : Bank) (s : State) : (s.setBank i x).passDue = s.passDue := rfl
@[simp] theorem State.setBank_node (i : BankNo) (x : Bank) (s : State) : (s.setBank i x).node = s.node := rfl
@[simp] theorem State.setBank_port (i : BankNo) (x : Bank) (s : State) : (s.setBank i x).port = s.port := rfl
@[simp] theorem State.setBank_inputs (i : BankNo) (x : Bank) (s : State) : (s.setBank i x).inputs = s.inputs := rfl
@[simp] theorem State.setBank_reported (i : BankNo) (x : Bank) (s : State) : (s.setBank i x).reported = s.reported := rfl
@[simp] theorem State.setBank_rules (i : BankNo) (x : Bank) (s : State) : (s.setBank i x).rules = s.rules := rfl
@[simp] theorem State.setBank_holdoffs (i : BankNo) (x : Bank) (s : State) : (s.setBank i x).holdoffs = s.holdoffs := rfl
@[simp] theorem State.setBank_armed (i : BankNo) (x : Bank) (s : State) : (s.setBank i x).armed = s.armed := rfl
@[simp] theorem State.setBank_coils (i : BankNo) (x : Bank) (s : State) : (s.setBank i x).coils = s.coils := rfl
@[simp] theorem State.setBank_chans (i : BankNo) (x : Bank) (s : State) : (s.setBank i x).chans = s.chans := rfl
@[simp] theorem State.setBank_heat (i : BankNo) (x : Bank) (s : State) : (s.setBank i x).heat = s.heat := rfl
@[simp] theorem State.setBank_guards (i : BankNo) (x : Bank) (s : State) : (s.setBank i x).guards = s.guards := rfl
@[simp] theorem State.setBank_queue (i : BankNo) (x : Bank) (s : State) : (s.setBank i x).queue = s.queue := rfl
@[simp] theorem State.setBank_held (i : BankNo) (x : Bank) (s : State) : (s.setBank i x).held = s.held := rfl
@[simp] theorem State.setBank_inUse (i : BankNo) (x : Bank) (s : State) : (s.setBank i x).inUse = s.inUse := rfl
@[simp] theorem State.setBank_dropped (i : BankNo) (x : Bank) (s : State) : (s.setBank i x).dropped = s.dropped := rfl
@[simp] theorem State.setBank_trains (i : BankNo) (x : Bank) (s : State) : (s.setBank i x).trains = s.trains := rfl
@[simp] theorem State.setBank_banks (i : BankNo) (x : Bank) (s : State) : (s.setBank i x).banks = s.banks.set i x := rfl
@[simp] theorem State.setBank_units (i : BankNo) (x : Bank) (s : State) : (s.setBank i x).units = s.units := rfl
@[simp] theorem State.setBank_mon (i : BankNo) (x : Bank) (s : State) : (s.setBank i x).mon = s.mon := rfl
@[simp] theorem State.setBank_clocks (i : BankNo) (x : Bank) (s : State) : (s.setBank i x).clocks = s.clocks := rfl
@[simp] theorem State.setBank_latches (i : BankNo) (x : Bank) (s : State) : (s.setBank i x).latches = s.latches := rfl
@[simp] theorem State.setBank_lamps (i : BankNo) (x : Bank) (s : State) : (s.setBank i x).lamps = s.lamps := rfl
@[simp] theorem State.setBank_rings (i : BankNo) (x : Bank) (s : State) : (s.setBank i x).rings = s.rings := rfl
@[simp] theorem State.setBank_blink (i : BankNo) (x : Bank) (s : State) : (s.setBank i x).blink = s.blink := rfl
@[simp] theorem State.setBank_scan (i : BankNo) (x : Bank) (s : State) : (s.setBank i x).scan = s.scan := rfl
@[simp] theorem State.setBank_settings (i : BankNo) (x : Bank) (s : State) : (s.setBank i x).settings = s.settings := rfl

/-! ### setUnit -/

@[simp] theorem State.setUnit_pending (i : UnitNo) (x : CounterUnit) (s : State) : (s.setUnit i x).pending = s.pending := rfl
@[simp] theorem State.setUnit_now (i : UnitNo) (x : CounterUnit) (s : State) : (s.setUnit i x).now = s.now := rfl
@[simp] theorem State.setUnit_passDue (i : UnitNo) (x : CounterUnit) (s : State) : (s.setUnit i x).passDue = s.passDue := rfl
@[simp] theorem State.setUnit_node (i : UnitNo) (x : CounterUnit) (s : State) : (s.setUnit i x).node = s.node := rfl
@[simp] theorem State.setUnit_port (i : UnitNo) (x : CounterUnit) (s : State) : (s.setUnit i x).port = s.port := rfl
@[simp] theorem State.setUnit_inputs (i : UnitNo) (x : CounterUnit) (s : State) : (s.setUnit i x).inputs = s.inputs := rfl
@[simp] theorem State.setUnit_reported (i : UnitNo) (x : CounterUnit) (s : State) : (s.setUnit i x).reported = s.reported := rfl
@[simp] theorem State.setUnit_rules (i : UnitNo) (x : CounterUnit) (s : State) : (s.setUnit i x).rules = s.rules := rfl
@[simp] theorem State.setUnit_holdoffs (i : UnitNo) (x : CounterUnit) (s : State) : (s.setUnit i x).holdoffs = s.holdoffs := rfl
@[simp] theorem State.setUnit_armed (i : UnitNo) (x : CounterUnit) (s : State) : (s.setUnit i x).armed = s.armed := rfl
@[simp] theorem State.setUnit_coils (i : UnitNo) (x : CounterUnit) (s : State) : (s.setUnit i x).coils = s.coils := rfl
@[simp] theorem State.setUnit_chans (i : UnitNo) (x : CounterUnit) (s : State) : (s.setUnit i x).chans = s.chans := rfl
@[simp] theorem State.setUnit_heat (i : UnitNo) (x : CounterUnit) (s : State) : (s.setUnit i x).heat = s.heat := rfl
@[simp] theorem State.setUnit_guards (i : UnitNo) (x : CounterUnit) (s : State) : (s.setUnit i x).guards = s.guards := rfl
@[simp] theorem State.setUnit_queue (i : UnitNo) (x : CounterUnit) (s : State) : (s.setUnit i x).queue = s.queue := rfl
@[simp] theorem State.setUnit_held (i : UnitNo) (x : CounterUnit) (s : State) : (s.setUnit i x).held = s.held := rfl
@[simp] theorem State.setUnit_inUse (i : UnitNo) (x : CounterUnit) (s : State) : (s.setUnit i x).inUse = s.inUse := rfl
@[simp] theorem State.setUnit_dropped (i : UnitNo) (x : CounterUnit) (s : State) : (s.setUnit i x).dropped = s.dropped := rfl
@[simp] theorem State.setUnit_trains (i : UnitNo) (x : CounterUnit) (s : State) : (s.setUnit i x).trains = s.trains := rfl
@[simp] theorem State.setUnit_banks (i : UnitNo) (x : CounterUnit) (s : State) : (s.setUnit i x).banks = s.banks := rfl
@[simp] theorem State.setUnit_units (i : UnitNo) (x : CounterUnit) (s : State) : (s.setUnit i x).units = s.units.set i x := rfl
@[simp] theorem State.setUnit_mon (i : UnitNo) (x : CounterUnit) (s : State) : (s.setUnit i x).mon = s.mon := rfl
@[simp] theorem State.setUnit_clocks (i : UnitNo) (x : CounterUnit) (s : State) : (s.setUnit i x).clocks = s.clocks := rfl
@[simp] theorem State.setUnit_latches (i : UnitNo) (x : CounterUnit) (s : State) : (s.setUnit i x).latches = s.latches := rfl
@[simp] theorem State.setUnit_lamps (i : UnitNo) (x : CounterUnit) (s : State) : (s.setUnit i x).lamps = s.lamps := rfl
@[simp] theorem State.setUnit_rings (i : UnitNo) (x : CounterUnit) (s : State) : (s.setUnit i x).rings = s.rings := rfl
@[simp] theorem State.setUnit_blink (i : UnitNo) (x : CounterUnit) (s : State) : (s.setUnit i x).blink = s.blink := rfl
@[simp] theorem State.setUnit_scan (i : UnitNo) (x : CounterUnit) (s : State) : (s.setUnit i x).scan = s.scan := rfl
@[simp] theorem State.setUnit_settings (i : UnitNo) (x : CounterUnit) (s : State) : (s.setUnit i x).settings = s.settings := rfl

/-! ### setLamp -/

@[simp] theorem State.setLamp_pending (i : LampNo) (x : Lamp) (s : State) : (s.setLamp i x).pending = s.pending := rfl
@[simp] theorem State.setLamp_now (i : LampNo) (x : Lamp) (s : State) : (s.setLamp i x).now = s.now := rfl
@[simp] theorem State.setLamp_passDue (i : LampNo) (x : Lamp) (s : State) : (s.setLamp i x).passDue = s.passDue := rfl
@[simp] theorem State.setLamp_node (i : LampNo) (x : Lamp) (s : State) : (s.setLamp i x).node = s.node := rfl
@[simp] theorem State.setLamp_port (i : LampNo) (x : Lamp) (s : State) : (s.setLamp i x).port = s.port := rfl
@[simp] theorem State.setLamp_inputs (i : LampNo) (x : Lamp) (s : State) : (s.setLamp i x).inputs = s.inputs := rfl
@[simp] theorem State.setLamp_reported (i : LampNo) (x : Lamp) (s : State) : (s.setLamp i x).reported = s.reported := rfl
@[simp] theorem State.setLamp_rules (i : LampNo) (x : Lamp) (s : State) : (s.setLamp i x).rules = s.rules := rfl
@[simp] theorem State.setLamp_holdoffs (i : LampNo) (x : Lamp) (s : State) : (s.setLamp i x).holdoffs = s.holdoffs := rfl
@[simp] theorem State.setLamp_armed (i : LampNo) (x : Lamp) (s : State) : (s.setLamp i x).armed = s.armed := rfl
@[simp] theorem State.setLamp_coils (i : LampNo) (x : Lamp) (s : State) : (s.setLamp i x).coils = s.coils := rfl
@[simp] theorem State.setLamp_chans (i : LampNo) (x : Lamp) (s : State) : (s.setLamp i x).chans = s.chans := rfl
@[simp] theorem State.setLamp_heat (i : LampNo) (x : Lamp) (s : State) : (s.setLamp i x).heat = s.heat := rfl
@[simp] theorem State.setLamp_guards (i : LampNo) (x : Lamp) (s : State) : (s.setLamp i x).guards = s.guards := rfl
@[simp] theorem State.setLamp_queue (i : LampNo) (x : Lamp) (s : State) : (s.setLamp i x).queue = s.queue := rfl
@[simp] theorem State.setLamp_held (i : LampNo) (x : Lamp) (s : State) : (s.setLamp i x).held = s.held := rfl
@[simp] theorem State.setLamp_inUse (i : LampNo) (x : Lamp) (s : State) : (s.setLamp i x).inUse = s.inUse := rfl
@[simp] theorem State.setLamp_dropped (i : LampNo) (x : Lamp) (s : State) : (s.setLamp i x).dropped = s.dropped := rfl
@[simp] theorem State.setLamp_trains (i : LampNo) (x : Lamp) (s : State) : (s.setLamp i x).trains = s.trains := rfl
@[simp] theorem State.setLamp_banks (i : LampNo) (x : Lamp) (s : State) : (s.setLamp i x).banks = s.banks := rfl
@[simp] theorem State.setLamp_units (i : LampNo) (x : Lamp) (s : State) : (s.setLamp i x).units = s.units := rfl
@[simp] theorem State.setLamp_mon (i : LampNo) (x : Lamp) (s : State) : (s.setLamp i x).mon = s.mon := rfl
@[simp] theorem State.setLamp_clocks (i : LampNo) (x : Lamp) (s : State) : (s.setLamp i x).clocks = s.clocks := rfl
@[simp] theorem State.setLamp_latches (i : LampNo) (x : Lamp) (s : State) : (s.setLamp i x).latches = s.latches := rfl
@[simp] theorem State.setLamp_lamps (i : LampNo) (x : Lamp) (s : State) : (s.setLamp i x).lamps = s.lamps.set i x := rfl
@[simp] theorem State.setLamp_rings (i : LampNo) (x : Lamp) (s : State) : (s.setLamp i x).rings = s.rings := rfl
@[simp] theorem State.setLamp_blink (i : LampNo) (x : Lamp) (s : State) : (s.setLamp i x).blink = s.blink := rfl
@[simp] theorem State.setLamp_scan (i : LampNo) (x : Lamp) (s : State) : (s.setLamp i x).scan = s.scan := rfl
@[simp] theorem State.setLamp_settings (i : LampNo) (x : Lamp) (s : State) : (s.setLamp i x).settings = s.settings := rfl

/-! ### setRing -/

@[simp] theorem State.setRing_pending (i : RingNo) (x : Ring) (s : State) : (s.setRing i x).pending = s.pending := rfl
@[simp] theorem State.setRing_now (i : RingNo) (x : Ring) (s : State) : (s.setRing i x).now = s.now := rfl
@[simp] theorem State.setRing_passDue (i : RingNo) (x : Ring) (s : State) : (s.setRing i x).passDue = s.passDue := rfl
@[simp] theorem State.setRing_node (i : RingNo) (x : Ring) (s : State) : (s.setRing i x).node = s.node := rfl
@[simp] theorem State.setRing_port (i : RingNo) (x : Ring) (s : State) : (s.setRing i x).port = s.port := rfl
@[simp] theorem State.setRing_inputs (i : RingNo) (x : Ring) (s : State) : (s.setRing i x).inputs = s.inputs := rfl
@[simp] theorem State.setRing_reported (i : RingNo) (x : Ring) (s : State) : (s.setRing i x).reported = s.reported := rfl
@[simp] theorem State.setRing_rules (i : RingNo) (x : Ring) (s : State) : (s.setRing i x).rules = s.rules := rfl
@[simp] theorem State.setRing_holdoffs (i : RingNo) (x : Ring) (s : State) : (s.setRing i x).holdoffs = s.holdoffs := rfl
@[simp] theorem State.setRing_armed (i : RingNo) (x : Ring) (s : State) : (s.setRing i x).armed = s.armed := rfl
@[simp] theorem State.setRing_coils (i : RingNo) (x : Ring) (s : State) : (s.setRing i x).coils = s.coils := rfl
@[simp] theorem State.setRing_chans (i : RingNo) (x : Ring) (s : State) : (s.setRing i x).chans = s.chans := rfl
@[simp] theorem State.setRing_heat (i : RingNo) (x : Ring) (s : State) : (s.setRing i x).heat = s.heat := rfl
@[simp] theorem State.setRing_guards (i : RingNo) (x : Ring) (s : State) : (s.setRing i x).guards = s.guards := rfl
@[simp] theorem State.setRing_queue (i : RingNo) (x : Ring) (s : State) : (s.setRing i x).queue = s.queue := rfl
@[simp] theorem State.setRing_held (i : RingNo) (x : Ring) (s : State) : (s.setRing i x).held = s.held := rfl
@[simp] theorem State.setRing_inUse (i : RingNo) (x : Ring) (s : State) : (s.setRing i x).inUse = s.inUse := rfl
@[simp] theorem State.setRing_dropped (i : RingNo) (x : Ring) (s : State) : (s.setRing i x).dropped = s.dropped := rfl
@[simp] theorem State.setRing_trains (i : RingNo) (x : Ring) (s : State) : (s.setRing i x).trains = s.trains := rfl
@[simp] theorem State.setRing_banks (i : RingNo) (x : Ring) (s : State) : (s.setRing i x).banks = s.banks := rfl
@[simp] theorem State.setRing_units (i : RingNo) (x : Ring) (s : State) : (s.setRing i x).units = s.units := rfl
@[simp] theorem State.setRing_mon (i : RingNo) (x : Ring) (s : State) : (s.setRing i x).mon = s.mon := rfl
@[simp] theorem State.setRing_clocks (i : RingNo) (x : Ring) (s : State) : (s.setRing i x).clocks = s.clocks := rfl
@[simp] theorem State.setRing_latches (i : RingNo) (x : Ring) (s : State) : (s.setRing i x).latches = s.latches := rfl
@[simp] theorem State.setRing_lamps (i : RingNo) (x : Ring) (s : State) : (s.setRing i x).lamps = s.lamps := rfl
@[simp] theorem State.setRing_rings (i : RingNo) (x : Ring) (s : State) : (s.setRing i x).rings = s.rings.set i x := rfl
@[simp] theorem State.setRing_blink (i : RingNo) (x : Ring) (s : State) : (s.setRing i x).blink = s.blink := rfl
@[simp] theorem State.setRing_scan (i : RingNo) (x : Ring) (s : State) : (s.setRing i x).scan = s.scan := rfl
@[simp] theorem State.setRing_settings (i : RingNo) (x : Ring) (s : State) : (s.setRing i x).settings = s.settings := rfl

/-! ### setNode -/

@[simp] theorem State.setNode_pending (x : Node) (s : State) : (s.setNode x).pending = s.pending := rfl
@[simp] theorem State.setNode_now (x : Node) (s : State) : (s.setNode x).now = s.now := rfl
@[simp] theorem State.setNode_passDue (x : Node) (s : State) : (s.setNode x).passDue = s.passDue := rfl
@[simp] theorem State.setNode_node (x : Node) (s : State) : (s.setNode x).node = x := rfl
@[simp] theorem State.setNode_port (x : Node) (s : State) : (s.setNode x).port = s.port := rfl
@[simp] theorem State.setNode_inputs (x : Node) (s : State) : (s.setNode x).inputs = s.inputs := rfl
@[simp] theorem State.setNode_reported (x : Node) (s : State) : (s.setNode x).reported = s.reported := rfl
@[simp] theorem State.setNode_rules (x : Node) (s : State) : (s.setNode x).rules = s.rules := rfl
@[simp] theorem State.setNode_holdoffs (x : Node) (s : State) : (s.setNode x).holdoffs = s.holdoffs := rfl
@[simp] theorem State.setNode_armed (x : Node) (s : State) : (s.setNode x).armed = s.armed := rfl
@[simp] theorem State.setNode_coils (x : Node) (s : State) : (s.setNode x).coils = s.coils := rfl
@[simp] theorem State.setNode_chans (x : Node) (s : State) : (s.setNode x).chans = s.chans := rfl
@[simp] theorem State.setNode_heat (x : Node) (s : State) : (s.setNode x).heat = s.heat := rfl
@[simp] theorem State.setNode_guards (x : Node) (s : State) : (s.setNode x).guards = s.guards := rfl
@[simp] theorem State.setNode_queue (x : Node) (s : State) : (s.setNode x).queue = s.queue := rfl
@[simp] theorem State.setNode_held (x : Node) (s : State) : (s.setNode x).held = s.held := rfl
@[simp] theorem State.setNode_inUse (x : Node) (s : State) : (s.setNode x).inUse = s.inUse := rfl
@[simp] theorem State.setNode_dropped (x : Node) (s : State) : (s.setNode x).dropped = s.dropped := rfl
@[simp] theorem State.setNode_trains (x : Node) (s : State) : (s.setNode x).trains = s.trains := rfl
@[simp] theorem State.setNode_banks (x : Node) (s : State) : (s.setNode x).banks = s.banks := rfl
@[simp] theorem State.setNode_units (x : Node) (s : State) : (s.setNode x).units = s.units := rfl
@[simp] theorem State.setNode_mon (x : Node) (s : State) : (s.setNode x).mon = s.mon := rfl
@[simp] theorem State.setNode_clocks (x : Node) (s : State) : (s.setNode x).clocks = s.clocks := rfl
@[simp] theorem State.setNode_latches (x : Node) (s : State) : (s.setNode x).latches = s.latches := rfl
@[simp] theorem State.setNode_lamps (x : Node) (s : State) : (s.setNode x).lamps = s.lamps := rfl
@[simp] theorem State.setNode_rings (x : Node) (s : State) : (s.setNode x).rings = s.rings := rfl
@[simp] theorem State.setNode_blink (x : Node) (s : State) : (s.setNode x).blink = s.blink := rfl
@[simp] theorem State.setNode_scan (x : Node) (s : State) : (s.setNode x).scan = s.scan := rfl
@[simp] theorem State.setNode_settings (x : Node) (s : State) : (s.setNode x).settings = s.settings := rfl

/-! ### setPort -/

@[simp] theorem State.setPort_pending (x : Port) (s : State) : (s.setPort x).pending = s.pending := rfl
@[simp] theorem State.setPort_now (x : Port) (s : State) : (s.setPort x).now = s.now := rfl
@[simp] theorem State.setPort_passDue (x : Port) (s : State) : (s.setPort x).passDue = s.passDue := rfl
@[simp] theorem State.setPort_node (x : Port) (s : State) : (s.setPort x).node = s.node := rfl
@[simp] theorem State.setPort_port (x : Port) (s : State) : (s.setPort x).port = x := rfl
@[simp] theorem State.setPort_inputs (x : Port) (s : State) : (s.setPort x).inputs = s.inputs := rfl
@[simp] theorem State.setPort_reported (x : Port) (s : State) : (s.setPort x).reported = s.reported := rfl
@[simp] theorem State.setPort_rules (x : Port) (s : State) : (s.setPort x).rules = s.rules := rfl
@[simp] theorem State.setPort_holdoffs (x : Port) (s : State) : (s.setPort x).holdoffs = s.holdoffs := rfl
@[simp] theorem State.setPort_armed (x : Port) (s : State) : (s.setPort x).armed = s.armed := rfl
@[simp] theorem State.setPort_coils (x : Port) (s : State) : (s.setPort x).coils = s.coils := rfl
@[simp] theorem State.setPort_chans (x : Port) (s : State) : (s.setPort x).chans = s.chans := rfl
@[simp] theorem State.setPort_heat (x : Port) (s : State) : (s.setPort x).heat = s.heat := rfl
@[simp] theorem State.setPort_guards (x : Port) (s : State) : (s.setPort x).guards = s.guards := rfl
@[simp] theorem State.setPort_queue (x : Port) (s : State) : (s.setPort x).queue = s.queue := rfl
@[simp] theorem State.setPort_held (x : Port) (s : State) : (s.setPort x).held = s.held := rfl
@[simp] theorem State.setPort_inUse (x : Port) (s : State) : (s.setPort x).inUse = s.inUse := rfl
@[simp] theorem State.setPort_dropped (x : Port) (s : State) : (s.setPort x).dropped = s.dropped := rfl
@[simp] theorem State.setPort_trains (x : Port) (s : State) : (s.setPort x).trains = s.trains := rfl
@[simp] theorem State.setPort_banks (x : Port) (s : State) : (s.setPort x).banks = s.banks := rfl
@[simp] theorem State.setPort_units (x : Port) (s : State) : (s.setPort x).units = s.units := rfl
@[simp] theorem State.setPort_mon (x : Port) (s : State) : (s.setPort x).mon = s.mon := rfl
@[simp] theorem State.setPort_clocks (x : Port) (s : State) : (s.setPort x).clocks = s.clocks := rfl
@[simp] theorem State.setPort_latches (x : Port) (s : State) : (s.setPort x).latches = s.latches := rfl
@[simp] theorem State.setPort_lamps (x : Port) (s : State) : (s.setPort x).lamps = s.lamps := rfl
@[simp] theorem State.setPort_rings (x : Port) (s : State) : (s.setPort x).rings = s.rings := rfl
@[simp] theorem State.setPort_blink (x : Port) (s : State) : (s.setPort x).blink = s.blink := rfl
@[simp] theorem State.setPort_scan (x : Port) (s : State) : (s.setPort x).scan = s.scan := rfl
@[simp] theorem State.setPort_settings (x : Port) (s : State) : (s.setPort x).settings = s.settings := rfl

/-! ### setMon -/

@[simp] theorem State.setMon_pending (x : Monitor) (s : State) : (s.setMon x).pending = s.pending := rfl
@[simp] theorem State.setMon_now (x : Monitor) (s : State) : (s.setMon x).now = s.now := rfl
@[simp] theorem State.setMon_passDue (x : Monitor) (s : State) : (s.setMon x).passDue = s.passDue := rfl
@[simp] theorem State.setMon_node (x : Monitor) (s : State) : (s.setMon x).node = s.node := rfl
@[simp] theorem State.setMon_port (x : Monitor) (s : State) : (s.setMon x).port = s.port := rfl
@[simp] theorem State.setMon_inputs (x : Monitor) (s : State) : (s.setMon x).inputs = s.inputs := rfl
@[simp] theorem State.setMon_reported (x : Monitor) (s : State) : (s.setMon x).reported = s.reported := rfl
@[simp] theorem State.setMon_rules (x : Monitor) (s : State) : (s.setMon x).rules = s.rules := rfl
@[simp] theorem State.setMon_holdoffs (x : Monitor) (s : State) : (s.setMon x).holdoffs = s.holdoffs := rfl
@[simp] theorem State.setMon_armed (x : Monitor) (s : State) : (s.setMon x).armed = s.armed := rfl
@[simp] theorem State.setMon_coils (x : Monitor) (s : State) : (s.setMon x).coils = s.coils := rfl
@[simp] theorem State.setMon_chans (x : Monitor) (s : State) : (s.setMon x).chans = s.chans := rfl
@[simp] theorem State.setMon_heat (x : Monitor) (s : State) : (s.setMon x).heat = s.heat := rfl
@[simp] theorem State.setMon_guards (x : Monitor) (s : State) : (s.setMon x).guards = s.guards := rfl
@[simp] theorem State.setMon_queue (x : Monitor) (s : State) : (s.setMon x).queue = s.queue := rfl
@[simp] theorem State.setMon_held (x : Monitor) (s : State) : (s.setMon x).held = s.held := rfl
@[simp] theorem State.setMon_inUse (x : Monitor) (s : State) : (s.setMon x).inUse = s.inUse := rfl
@[simp] theorem State.setMon_dropped (x : Monitor) (s : State) : (s.setMon x).dropped = s.dropped := rfl
@[simp] theorem State.setMon_trains (x : Monitor) (s : State) : (s.setMon x).trains = s.trains := rfl
@[simp] theorem State.setMon_banks (x : Monitor) (s : State) : (s.setMon x).banks = s.banks := rfl
@[simp] theorem State.setMon_units (x : Monitor) (s : State) : (s.setMon x).units = s.units := rfl
@[simp] theorem State.setMon_mon (x : Monitor) (s : State) : (s.setMon x).mon = x := rfl
@[simp] theorem State.setMon_clocks (x : Monitor) (s : State) : (s.setMon x).clocks = s.clocks := rfl
@[simp] theorem State.setMon_latches (x : Monitor) (s : State) : (s.setMon x).latches = s.latches := rfl
@[simp] theorem State.setMon_lamps (x : Monitor) (s : State) : (s.setMon x).lamps = s.lamps := rfl
@[simp] theorem State.setMon_rings (x : Monitor) (s : State) : (s.setMon x).rings = s.rings := rfl
@[simp] theorem State.setMon_blink (x : Monitor) (s : State) : (s.setMon x).blink = s.blink := rfl
@[simp] theorem State.setMon_scan (x : Monitor) (s : State) : (s.setMon x).scan = s.scan := rfl
@[simp] theorem State.setMon_settings (x : Monitor) (s : State) : (s.setMon x).settings = s.settings := rfl

/-! ### setClocks -/

@[simp] theorem State.setClocks_pending (x : Clocks) (s : State) : (s.setClocks x).pending = s.pending := rfl
@[simp] theorem State.setClocks_now (x : Clocks) (s : State) : (s.setClocks x).now = s.now := rfl
@[simp] theorem State.setClocks_passDue (x : Clocks) (s : State) : (s.setClocks x).passDue = s.passDue := rfl
@[simp] theorem State.setClocks_node (x : Clocks) (s : State) : (s.setClocks x).node = s.node := rfl
@[simp] theorem State.setClocks_port (x : Clocks) (s : State) : (s.setClocks x).port = s.port := rfl
@[simp] theorem State.setClocks_inputs (x : Clocks) (s : State) : (s.setClocks x).inputs = s.inputs := rfl
@[simp] theorem State.setClocks_reported (x : Clocks) (s : State) : (s.setClocks x).reported = s.reported := rfl
@[simp] theorem State.setClocks_rules (x : Clocks) (s : State) : (s.setClocks x).rules = s.rules := rfl
@[simp] theorem State.setClocks_holdoffs (x : Clocks) (s : State) : (s.setClocks x).holdoffs = s.holdoffs := rfl
@[simp] theorem State.setClocks_armed (x : Clocks) (s : State) : (s.setClocks x).armed = s.armed := rfl
@[simp] theorem State.setClocks_coils (x : Clocks) (s : State) : (s.setClocks x).coils = s.coils := rfl
@[simp] theorem State.setClocks_chans (x : Clocks) (s : State) : (s.setClocks x).chans = s.chans := rfl
@[simp] theorem State.setClocks_heat (x : Clocks) (s : State) : (s.setClocks x).heat = s.heat := rfl
@[simp] theorem State.setClocks_guards (x : Clocks) (s : State) : (s.setClocks x).guards = s.guards := rfl
@[simp] theorem State.setClocks_queue (x : Clocks) (s : State) : (s.setClocks x).queue = s.queue := rfl
@[simp] theorem State.setClocks_held (x : Clocks) (s : State) : (s.setClocks x).held = s.held := rfl
@[simp] theorem State.setClocks_inUse (x : Clocks) (s : State) : (s.setClocks x).inUse = s.inUse := rfl
@[simp] theorem State.setClocks_dropped (x : Clocks) (s : State) : (s.setClocks x).dropped = s.dropped := rfl
@[simp] theorem State.setClocks_trains (x : Clocks) (s : State) : (s.setClocks x).trains = s.trains := rfl
@[simp] theorem State.setClocks_banks (x : Clocks) (s : State) : (s.setClocks x).banks = s.banks := rfl
@[simp] theorem State.setClocks_units (x : Clocks) (s : State) : (s.setClocks x).units = s.units := rfl
@[simp] theorem State.setClocks_mon (x : Clocks) (s : State) : (s.setClocks x).mon = s.mon := rfl
@[simp] theorem State.setClocks_clocks (x : Clocks) (s : State) : (s.setClocks x).clocks = x := rfl
@[simp] theorem State.setClocks_latches (x : Clocks) (s : State) : (s.setClocks x).latches = s.latches := rfl
@[simp] theorem State.setClocks_lamps (x : Clocks) (s : State) : (s.setClocks x).lamps = s.lamps := rfl
@[simp] theorem State.setClocks_rings (x : Clocks) (s : State) : (s.setClocks x).rings = s.rings := rfl
@[simp] theorem State.setClocks_blink (x : Clocks) (s : State) : (s.setClocks x).blink = s.blink := rfl
@[simp] theorem State.setClocks_scan (x : Clocks) (s : State) : (s.setClocks x).scan = s.scan := rfl
@[simp] theorem State.setClocks_settings (x : Clocks) (s : State) : (s.setClocks x).settings = s.settings := rfl

/-! ### setQueue -/

@[simp] theorem State.setQueue_pending (x : List Entry) (s : State) : (s.setQueue x).pending = s.pending := rfl
@[simp] theorem State.setQueue_now (x : List Entry) (s : State) : (s.setQueue x).now = s.now := rfl
@[simp] theorem State.setQueue_passDue (x : List Entry) (s : State) : (s.setQueue x).passDue = s.passDue := rfl
@[simp] theorem State.setQueue_node (x : List Entry) (s : State) : (s.setQueue x).node = s.node := rfl
@[simp] theorem State.setQueue_port (x : List Entry) (s : State) : (s.setQueue x).port = s.port := rfl
@[simp] theorem State.setQueue_inputs (x : List Entry) (s : State) : (s.setQueue x).inputs = s.inputs := rfl
@[simp] theorem State.setQueue_reported (x : List Entry) (s : State) : (s.setQueue x).reported = s.reported := rfl
@[simp] theorem State.setQueue_rules (x : List Entry) (s : State) : (s.setQueue x).rules = s.rules := rfl
@[simp] theorem State.setQueue_holdoffs (x : List Entry) (s : State) : (s.setQueue x).holdoffs = s.holdoffs := rfl
@[simp] theorem State.setQueue_armed (x : List Entry) (s : State) : (s.setQueue x).armed = s.armed := rfl
@[simp] theorem State.setQueue_coils (x : List Entry) (s : State) : (s.setQueue x).coils = s.coils := rfl
@[simp] theorem State.setQueue_chans (x : List Entry) (s : State) : (s.setQueue x).chans = s.chans := rfl
@[simp] theorem State.setQueue_heat (x : List Entry) (s : State) : (s.setQueue x).heat = s.heat := rfl
@[simp] theorem State.setQueue_guards (x : List Entry) (s : State) : (s.setQueue x).guards = s.guards := rfl
@[simp] theorem State.setQueue_queue (x : List Entry) (s : State) : (s.setQueue x).queue = x := rfl
@[simp] theorem State.setQueue_held (x : List Entry) (s : State) : (s.setQueue x).held = s.held := rfl
@[simp] theorem State.setQueue_inUse (x : List Entry) (s : State) : (s.setQueue x).inUse = s.inUse := rfl
@[simp] theorem State.setQueue_dropped (x : List Entry) (s : State) : (s.setQueue x).dropped = s.dropped := rfl
@[simp] theorem State.setQueue_trains (x : List Entry) (s : State) : (s.setQueue x).trains = s.trains := rfl
@[simp] theorem State.setQueue_banks (x : List Entry) (s : State) : (s.setQueue x).banks = s.banks := rfl
@[simp] theorem State.setQueue_units (x : List Entry) (s : State) : (s.setQueue x).units = s.units := rfl
@[simp] theorem State.setQueue_mon (x : List Entry) (s : State) : (s.setQueue x).mon = s.mon := rfl
@[simp] theorem State.setQueue_clocks (x : List Entry) (s : State) : (s.setQueue x).clocks = s.clocks := rfl
@[simp] theorem State.setQueue_latches (x : List Entry) (s : State) : (s.setQueue x).latches = s.latches := rfl
@[simp] theorem State.setQueue_lamps (x : List Entry) (s : State) : (s.setQueue x).lamps = s.lamps := rfl
@[simp] theorem State.setQueue_rings (x : List Entry) (s : State) : (s.setQueue x).rings = s.rings := rfl
@[simp] theorem State.setQueue_blink (x : List Entry) (s : State) : (s.setQueue x).blink = s.blink := rfl
@[simp] theorem State.setQueue_scan (x : List Entry) (s : State) : (s.setQueue x).scan = s.scan := rfl
@[simp] theorem State.setQueue_settings (x : List Entry) (s : State) : (s.setQueue x).settings = s.settings := rfl

/-! ### setHeld -/

@[simp] theorem State.setHeld_pending (x : List TrainNo) (s : State) : (s.setHeld x).pending = s.pending := rfl
@[simp] theorem State.setHeld_now (x : List TrainNo) (s : State) : (s.setHeld x).now = s.now := rfl
@[simp] theorem State.setHeld_passDue (x : List TrainNo) (s : State) : (s.setHeld x).passDue = s.passDue := rfl
@[simp] theorem State.setHeld_node (x : List TrainNo) (s : State) : (s.setHeld x).node = s.node := rfl
@[simp] theorem State.setHeld_port (x : List TrainNo) (s : State) : (s.setHeld x).port = s.port := rfl
@[simp] theorem State.setHeld_inputs (x : List TrainNo) (s : State) : (s.setHeld x).inputs = s.inputs := rfl
@[simp] theorem State.setHeld_reported (x : List TrainNo) (s : State) : (s.setHeld x).reported = s.reported := rfl
@[simp] theorem State.setHeld_rules (x : List TrainNo) (s : State) : (s.setHeld x).rules = s.rules := rfl
@[simp] theorem State.setHeld_holdoffs (x : List TrainNo) (s : State) : (s.setHeld x).holdoffs = s.holdoffs := rfl
@[simp] theorem State.setHeld_armed (x : List TrainNo) (s : State) : (s.setHeld x).armed = s.armed := rfl
@[simp] theorem State.setHeld_coils (x : List TrainNo) (s : State) : (s.setHeld x).coils = s.coils := rfl
@[simp] theorem State.setHeld_chans (x : List TrainNo) (s : State) : (s.setHeld x).chans = s.chans := rfl
@[simp] theorem State.setHeld_heat (x : List TrainNo) (s : State) : (s.setHeld x).heat = s.heat := rfl
@[simp] theorem State.setHeld_guards (x : List TrainNo) (s : State) : (s.setHeld x).guards = s.guards := rfl
@[simp] theorem State.setHeld_queue (x : List TrainNo) (s : State) : (s.setHeld x).queue = s.queue := rfl
@[simp] theorem State.setHeld_held (x : List TrainNo) (s : State) : (s.setHeld x).held = x := rfl
@[simp] theorem State.setHeld_inUse (x : List TrainNo) (s : State) : (s.setHeld x).inUse = s.inUse := rfl
@[simp] theorem State.setHeld_dropped (x : List TrainNo) (s : State) : (s.setHeld x).dropped = s.dropped := rfl
@[simp] theorem State.setHeld_trains (x : List TrainNo) (s : State) : (s.setHeld x).trains = s.trains := rfl
@[simp] theorem State.setHeld_banks (x : List TrainNo) (s : State) : (s.setHeld x).banks = s.banks := rfl
@[simp] theorem State.setHeld_units (x : List TrainNo) (s : State) : (s.setHeld x).units = s.units := rfl
@[simp] theorem State.setHeld_mon (x : List TrainNo) (s : State) : (s.setHeld x).mon = s.mon := rfl
@[simp] theorem State.setHeld_clocks (x : List TrainNo) (s : State) : (s.setHeld x).clocks = s.clocks := rfl
@[simp] theorem State.setHeld_latches (x : List TrainNo) (s : State) : (s.setHeld x).latches = s.latches := rfl
@[simp] theorem State.setHeld_lamps (x : List TrainNo) (s : State) : (s.setHeld x).lamps = s.lamps := rfl
@[simp] theorem State.setHeld_rings (x : List TrainNo) (s : State) : (s.setHeld x).rings = s.rings := rfl
@[simp] theorem State.setHeld_blink (x : List TrainNo) (s : State) : (s.setHeld x).blink = s.blink := rfl
@[simp] theorem State.setHeld_scan (x : List TrainNo) (s : State) : (s.setHeld x).scan = s.scan := rfl
@[simp] theorem State.setHeld_settings (x : List TrainNo) (s : State) : (s.setHeld x).settings = s.settings := rfl

/-! ### setDownstream -/

@[simp] theorem State.setDownstream_pending (x : List Byte) (s : State) : (s.setDownstream x).pending = s.pending := rfl
@[simp] theorem State.setDownstream_now (x : List Byte) (s : State) : (s.setDownstream x).now = s.now := rfl
@[simp] theorem State.setDownstream_passDue (x : List Byte) (s : State) : (s.setDownstream x).passDue = s.passDue := rfl
@[simp] theorem State.setDownstream_node (x : List Byte) (s : State) : (s.setDownstream x).node = s.node := rfl
@[simp] theorem State.setDownstream_port (x : List Byte) (s : State) : (s.setDownstream x).port = { s.port with downstream := x } := rfl
@[simp] theorem State.setDownstream_inputs (x : List Byte) (s : State) : (s.setDownstream x).inputs = s.inputs := rfl
@[simp] theorem State.setDownstream_reported (x : List Byte) (s : State) : (s.setDownstream x).reported = s.reported := rfl
@[simp] theorem State.setDownstream_rules (x : List Byte) (s : State) : (s.setDownstream x).rules = s.rules := rfl
@[simp] theorem State.setDownstream_holdoffs (x : List Byte) (s : State) : (s.setDownstream x).holdoffs = s.holdoffs := rfl
@[simp] theorem State.setDownstream_armed (x : List Byte) (s : State) : (s.setDownstream x).armed = s.armed := rfl
@[simp] theorem State.setDownstream_coils (x : List Byte) (s : State) : (s.setDownstream x).coils = s.coils := rfl
@[simp] theorem State.setDownstream_chans (x : List Byte) (s : State) : (s.setDownstream x).chans = s.chans := rfl
@[simp] theorem State.setDownstream_heat (x : List Byte) (s : State) : (s.setDownstream x).heat = s.heat := rfl
@[simp] theorem State.setDownstream_guards (x : List Byte) (s : State) : (s.setDownstream x).guards = s.guards := rfl
@[simp] theorem State.setDownstream_queue (x : List Byte) (s : State) : (s.setDownstream x).queue = s.queue := rfl
@[simp] theorem State.setDownstream_held (x : List Byte) (s : State) : (s.setDownstream x).held = s.held := rfl
@[simp] theorem State.setDownstream_inUse (x : List Byte) (s : State) : (s.setDownstream x).inUse = s.inUse := rfl
@[simp] theorem State.setDownstream_dropped (x : List Byte) (s : State) : (s.setDownstream x).dropped = s.dropped := rfl
@[simp] theorem State.setDownstream_trains (x : List Byte) (s : State) : (s.setDownstream x).trains = s.trains := rfl
@[simp] theorem State.setDownstream_banks (x : List Byte) (s : State) : (s.setDownstream x).banks = s.banks := rfl
@[simp] theorem State.setDownstream_units (x : List Byte) (s : State) : (s.setDownstream x).units = s.units := rfl
@[simp] theorem State.setDownstream_mon (x : List Byte) (s : State) : (s.setDownstream x).mon = s.mon := rfl
@[simp] theorem State.setDownstream_clocks (x : List Byte) (s : State) : (s.setDownstream x).clocks = s.clocks := rfl
@[simp] theorem State.setDownstream_latches (x : List Byte) (s : State) : (s.setDownstream x).latches = s.latches := rfl
@[simp] theorem State.setDownstream_lamps (x : List Byte) (s : State) : (s.setDownstream x).lamps = s.lamps := rfl
@[simp] theorem State.setDownstream_rings (x : List Byte) (s : State) : (s.setDownstream x).rings = s.rings := rfl
@[simp] theorem State.setDownstream_blink (x : List Byte) (s : State) : (s.setDownstream x).blink = s.blink := rfl
@[simp] theorem State.setDownstream_scan (x : List Byte) (s : State) : (s.setDownstream x).scan = s.scan := rfl
@[simp] theorem State.setDownstream_settings (x : List Byte) (s : State) : (s.setDownstream x).settings = s.settings := rfl

/-! ### callPass -/

@[simp] theorem State.callPass_pending (s : State) : (s.callPass).pending = s.pending := rfl
@[simp] theorem State.callPass_now (s : State) : (s.callPass).now = s.now := rfl
@[simp] theorem State.callPass_passDue (s : State) : (s.callPass).passDue = true := rfl
@[simp] theorem State.callPass_node (s : State) : (s.callPass).node = s.node := rfl
@[simp] theorem State.callPass_port (s : State) : (s.callPass).port = s.port := rfl
@[simp] theorem State.callPass_inputs (s : State) : (s.callPass).inputs = s.inputs := rfl
@[simp] theorem State.callPass_reported (s : State) : (s.callPass).reported = s.reported := rfl
@[simp] theorem State.callPass_rules (s : State) : (s.callPass).rules = s.rules := rfl
@[simp] theorem State.callPass_holdoffs (s : State) : (s.callPass).holdoffs = s.holdoffs := rfl
@[simp] theorem State.callPass_armed (s : State) : (s.callPass).armed = s.armed := rfl
@[simp] theorem State.callPass_coils (s : State) : (s.callPass).coils = s.coils := rfl
@[simp] theorem State.callPass_chans (s : State) : (s.callPass).chans = s.chans := rfl
@[simp] theorem State.callPass_heat (s : State) : (s.callPass).heat = s.heat := rfl
@[simp] theorem State.callPass_guards (s : State) : (s.callPass).guards = s.guards := rfl
@[simp] theorem State.callPass_queue (s : State) : (s.callPass).queue = s.queue := rfl
@[simp] theorem State.callPass_held (s : State) : (s.callPass).held = s.held := rfl
@[simp] theorem State.callPass_inUse (s : State) : (s.callPass).inUse = s.inUse := rfl
@[simp] theorem State.callPass_dropped (s : State) : (s.callPass).dropped = s.dropped := rfl
@[simp] theorem State.callPass_trains (s : State) : (s.callPass).trains = s.trains := rfl
@[simp] theorem State.callPass_banks (s : State) : (s.callPass).banks = s.banks := rfl
@[simp] theorem State.callPass_units (s : State) : (s.callPass).units = s.units := rfl
@[simp] theorem State.callPass_mon (s : State) : (s.callPass).mon = s.mon := rfl
@[simp] theorem State.callPass_clocks (s : State) : (s.callPass).clocks = s.clocks := rfl
@[simp] theorem State.callPass_latches (s : State) : (s.callPass).latches = s.latches := rfl
@[simp] theorem State.callPass_lamps (s : State) : (s.callPass).lamps = s.lamps := rfl
@[simp] theorem State.callPass_rings (s : State) : (s.callPass).rings = s.rings := rfl
@[simp] theorem State.callPass_blink (s : State) : (s.callPass).blink = s.blink := rfl
@[simp] theorem State.callPass_scan (s : State) : (s.callPass).scan = s.scan := rfl
@[simp] theorem State.callPass_settings (s : State) : (s.callPass).settings = s.settings := rfl

/-! ### reach -/

@[simp] theorem State.reach_pending (t : Nat) (s : State) : (s.reach t).pending = s.pending := rfl
@[simp] theorem State.reach_now (t : Nat) (s : State) : (s.reach t).now = max s.now t := rfl
@[simp] theorem State.reach_passDue (t : Nat) (s : State) : (s.reach t).passDue = s.passDue := rfl
@[simp] theorem State.reach_node (t : Nat) (s : State) : (s.reach t).node = s.node := rfl
@[simp] theorem State.reach_port (t : Nat) (s : State) : (s.reach t).port = s.port := rfl
@[simp] theorem State.reach_inputs (t : Nat) (s : State) : (s.reach t).inputs = s.inputs := rfl
@[simp] theorem State.reach_reported (t : Nat) (s : State) : (s.reach t).reported = s.reported := rfl
@[simp] theorem State.reach_rules (t : Nat) (s : State) : (s.reach t).rules = s.rules := rfl
@[simp] theorem State.reach_holdoffs (t : Nat) (s : State) : (s.reach t).holdoffs = s.holdoffs := rfl
@[simp] theorem State.reach_armed (t : Nat) (s : State) : (s.reach t).armed = s.armed := rfl
@[simp] theorem State.reach_coils (t : Nat) (s : State) : (s.reach t).coils = s.coils := rfl
@[simp] theorem State.reach_chans (t : Nat) (s : State) : (s.reach t).chans = s.chans := rfl
@[simp] theorem State.reach_heat (t : Nat) (s : State) : (s.reach t).heat = s.heat := rfl
@[simp] theorem State.reach_guards (t : Nat) (s : State) : (s.reach t).guards = s.guards := rfl
@[simp] theorem State.reach_queue (t : Nat) (s : State) : (s.reach t).queue = s.queue := rfl
@[simp] theorem State.reach_held (t : Nat) (s : State) : (s.reach t).held = s.held := rfl
@[simp] theorem State.reach_inUse (t : Nat) (s : State) : (s.reach t).inUse = s.inUse := rfl
@[simp] theorem State.reach_dropped (t : Nat) (s : State) : (s.reach t).dropped = s.dropped := rfl
@[simp] theorem State.reach_trains (t : Nat) (s : State) : (s.reach t).trains = s.trains := rfl
@[simp] theorem State.reach_banks (t : Nat) (s : State) : (s.reach t).banks = s.banks := rfl
@[simp] theorem State.reach_units (t : Nat) (s : State) : (s.reach t).units = s.units := rfl
@[simp] theorem State.reach_mon (t : Nat) (s : State) : (s.reach t).mon = s.mon := rfl
@[simp] theorem State.reach_clocks (t : Nat) (s : State) : (s.reach t).clocks = s.clocks := rfl
@[simp] theorem State.reach_latches (t : Nat) (s : State) : (s.reach t).latches = s.latches := rfl
@[simp] theorem State.reach_lamps (t : Nat) (s : State) : (s.reach t).lamps = s.lamps := rfl
@[simp] theorem State.reach_rings (t : Nat) (s : State) : (s.reach t).rings = s.rings := rfl
@[simp] theorem State.reach_blink (t : Nat) (s : State) : (s.reach t).blink = s.blink := rfl
@[simp] theorem State.reach_scan (t : Nat) (s : State) : (s.reach t).scan = s.scan := rfl
@[simp] theorem State.reach_settings (t : Nat) (s : State) : (s.reach t).settings = s.settings := rfl

/-! ### setLatch -/

@[simp] theorem setLatch_pending (x : Latch) (s : State) : (setLatch x s).pending = s.pending := rfl
@[simp] theorem setLatch_now (x : Latch) (s : State) : (setLatch x s).now = s.now := rfl
@[simp] theorem setLatch_passDue (x : Latch) (s : State) : (setLatch x s).passDue = s.passDue := rfl
@[simp] theorem setLatch_node (x : Latch) (s : State) : (setLatch x s).node = s.node := rfl
@[simp] theorem setLatch_port (x : Latch) (s : State) : (setLatch x s).port = s.port := rfl
@[simp] theorem setLatch_inputs (x : Latch) (s : State) : (setLatch x s).inputs = s.inputs := rfl
@[simp] theorem setLatch_reported (x : Latch) (s : State) : (setLatch x s).reported = s.reported := rfl
@[simp] theorem setLatch_rules (x : Latch) (s : State) : (setLatch x s).rules = s.rules := rfl
@[simp] theorem setLatch_holdoffs (x : Latch) (s : State) : (setLatch x s).holdoffs = s.holdoffs := rfl
@[simp] theorem setLatch_armed (x : Latch) (s : State) : (setLatch x s).armed = s.armed := rfl
@[simp] theorem setLatch_coils (x : Latch) (s : State) : (setLatch x s).coils = s.coils := rfl
@[simp] theorem setLatch_chans (x : Latch) (s : State) : (setLatch x s).chans = s.chans := rfl
@[simp] theorem setLatch_heat (x : Latch) (s : State) : (setLatch x s).heat = s.heat := rfl
@[simp] theorem setLatch_guards (x : Latch) (s : State) : (setLatch x s).guards = s.guards := rfl
@[simp] theorem setLatch_queue (x : Latch) (s : State) : (setLatch x s).queue = s.queue := rfl
@[simp] theorem setLatch_held (x : Latch) (s : State) : (setLatch x s).held = s.held := rfl
@[simp] theorem setLatch_inUse (x : Latch) (s : State) : (setLatch x s).inUse = s.inUse := rfl
@[simp] theorem setLatch_dropped (x : Latch) (s : State) : (setLatch x s).dropped = s.dropped := rfl
@[simp] theorem setLatch_trains (x : Latch) (s : State) : (setLatch x s).trains = s.trains := rfl
@[simp] theorem setLatch_banks (x : Latch) (s : State) : (setLatch x s).banks = s.banks := rfl
@[simp] theorem setLatch_units (x : Latch) (s : State) : (setLatch x s).units = s.units := rfl
@[simp] theorem setLatch_mon (x : Latch) (s : State) : (setLatch x s).mon = s.mon := rfl
@[simp] theorem setLatch_clocks (x : Latch) (s : State) : (setLatch x s).clocks = s.clocks := rfl
@[simp] theorem setLatch_latches (x : Latch) (s : State) : (setLatch x s).latches = s.latches ||| latchMask x := rfl
@[simp] theorem setLatch_lamps (x : Latch) (s : State) : (setLatch x s).lamps = s.lamps := rfl
@[simp] theorem setLatch_rings (x : Latch) (s : State) : (setLatch x s).rings = s.rings := rfl
@[simp] theorem setLatch_blink (x : Latch) (s : State) : (setLatch x s).blink = s.blink := rfl
@[simp] theorem setLatch_scan (x : Latch) (s : State) : (setLatch x s).scan = s.scan := rfl
@[simp] theorem setLatch_settings (x : Latch) (s : State) : (setLatch x s).settings = s.settings := rfl

end Sys2Proof.Machine
end

