-- ==== Sys2Proof/Laws/Kept.lean ====
section
/-! SUPPORT. What the Drive Scheduler, the Train Engine and the arbiter leave alone, said once for each of their shared operations. -/

namespace Sys2Proof.Machine

/-- Everything but the channels, the heat accounts, the protection records, the queue, the held list, the budget in use, the dropped
count, the trains, the latches and the model's own mark is kept. -/
structure Kept (s t : State) : Prop where
  pending : t.pending = s.pending
  now : t.now = s.now
  node : t.node = s.node
  port : t.port = s.port
  inputs : t.inputs = s.inputs
  reported : t.reported = s.reported
  rules : t.rules = s.rules
  holdoffs : t.holdoffs = s.holdoffs
  armed : t.armed = s.armed
  coils : t.coils = s.coils
  banks : t.banks = s.banks
  units : t.units = s.units
  mon : t.mon = s.mon
  clocks : t.clocks = s.clocks
  lamps : t.lamps = s.lamps
  rings : t.rings = s.rings
  blink : t.blink = s.blink
  scan : t.scan = s.scan
  settings : t.settings = s.settings

theorem Kept.refl (s : State) : Kept s s := by constructor <;> rfl

theorem Kept.trans {s t u : State} (a : Kept s t) (b : Kept t u) : Kept s u := by
  constructor
  · exact b.pending.trans a.pending
  · exact b.now.trans a.now
  · exact b.node.trans a.node
  · exact b.port.trans a.port
  · exact b.inputs.trans a.inputs
  · exact b.reported.trans a.reported
  · exact b.rules.trans a.rules
  · exact b.holdoffs.trans a.holdoffs
  · exact b.armed.trans a.armed
  · exact b.coils.trans a.coils
  · exact b.banks.trans a.banks
  · exact b.units.trans a.units
  · exact b.mon.trans a.mon
  · exact b.clocks.trans a.clocks
  · exact b.lamps.trans a.lamps
  · exact b.rings.trans a.rings
  · exact b.blink.trans a.blink
  · exact b.scan.trans a.scan
  · exact b.settings.trans a.settings

/-- A fold of operations that keep the rest keeps the rest. -/
theorem kept_foldl {α : Type} (f : State → α → State) (h : ∀ s x, Kept s (f s x)) (l : List α) (s : State) :
    Kept s (l.foldl f s) := by
  induction l generalizing s with
  | nil => exact Kept.refl s
  | cons x l ih => exact (h s x).trans (ih _)

theorem kept_forChans (f : Chan → State → State) (h : ∀ c s, Kept s (f c s)) (s : State) : Kept s (forChans f s) :=
  kept_foldl _ (fun s c => h c s) _ s

/-! ### The plain updates -/

theorem kept_setChan (c : Chan) (x : Channel) (s : State) : Kept s (s.setChan c x) := by constructor <;> rfl
theorem kept_setHeat (c : Chan) (x : Heat) (s : State) : Kept s (s.setHeat c x) := by constructor <;> rfl
theorem kept_setGuard (c : Chan) (x : Guard) (s : State) : Kept s (s.setGuard c x) := by constructor <;> rfl
theorem kept_setTrain (t : TrainNo) (x : Option Train) (s : State) : Kept s (s.setTrain t x) := by constructor <;> rfl
theorem kept_setQueue (q : List Entry) (s : State) : Kept s (s.setQueue q) := by constructor <;> rfl
theorem kept_setHeld (q : List TrainNo) (s : State) : Kept s (s.setHeld q) := by constructor <;> rfl
theorem kept_callPass (s : State) : Kept s s.callPass := by constructor <;> rfl
theorem kept_setLatch (x : Latch) (s : State) : Kept s (setLatch x s) := by constructor <;> rfl
theorem kept_countDropped (s : State) : Kept s (countDropped s) := by constructor <;> rfl

theorem kept_setLatchIf (b : Bool) (x : Latch) (s : State) : Kept s (setLatchIf b x s) := by
  cases b
  · exact Kept.refl s
  · exact kept_setLatch x s

theorem kept_setAct (c : Chan) (x : Activity) (s : State) : Kept s (setAct c x s) := by
  simp only [setAct]; split <;> constructor <;> rfl

theorem kept_setWaiting (c : Chan) (x : Option FlipContext) (s : State) : Kept s (setWaiting c x s) := kept_setChan _ _ s

/-! ### Heat -/

theorem kept_raiseHeat (c : Chan) (x : Heat) (s : State) : Kept s (raiseHeat c x s) :=
  (kept_setHeat c x s).trans (kept_setLatchIf _ _ _)

theorem kept_accrueKick (c : Chan) (s : State) : Kept s (accrueKick c s) := by
  simp only [accrueKick]; split
  · exact Kept.refl s
  · exact kept_raiseHeat _ _ s

theorem kept_accrueHold (c : Chan) (e : Nat) (s : State) : Kept s (accrueHold c e s) := by
  simp only [accrueHold]; split
  · exact Kept.refl s
  · exact kept_raiseHeat _ _ s

theorem kept_finalCharge (c : Chan) (s : State) : Kept s (finalCharge c s) := by
  simp only [finalCharge]; split
  · split
    · exact kept_accrueKick c s
    · exact Kept.refl s
  · split
    · exact kept_accrueHold c _ s
    · exact Kept.refl s
  · exact Kept.refl s

/-! ### The queue and the held list -/

theorem kept_submit (e : Entry) (s : State) : Kept s (submit e s).2 := by
  simp only [submit]; split
  · exact kept_setQueue _ s
  · split
    · exact (kept_setQueue _ s).trans (kept_callPass _)
    · split
      · exact ((kept_countDropped s).trans (kept_setQueue _ _)).trans (kept_callPass _)
      · exact Kept.refl s

theorem kept_joinHeld (t : TrainNo) (s : State) : Kept s (joinHeld t s) := by
  simp only [joinHeld]; split
  · exact (kept_setTrain _ _ s).trans (kept_submit _ _)
  · exact Kept.refl s

theorem kept_handPlaces (ts : List TrainNo) (s : State) : Kept s (handPlaces ts s) := by
  induction ts generalizing s with
  | nil => exact kept_setHeld _ s
  | cons t ts ih =>
    simp only [handPlaces]; split
    · exact (kept_joinHeld t s).trans (ih _)
    · exact kept_setHeld _ s

theorem kept_handOver (s : State) : Kept s (handOver s) := kept_handPlaces _ s

theorem kept_withdraw (p : Entry → Bool) (s : State) : Kept s (withdraw p s) := by
  simp only [withdraw]; split
  · exact ((kept_setQueue _ s).trans (kept_callPass _)).trans (kept_handOver _)
  · exact Kept.refl s

theorem kept_withdrawFlip (c : Chan) (s : State) : Kept s (withdrawFlip c s) :=
  (kept_withdraw _ s).trans (kept_setWaiting _ _ _)

theorem kept_withdrawRekick (c : Chan) (s : State) : Kept s (withdrawRekick c s) := kept_withdraw _ s

theorem kept_withdrawAll (c : Chan) (s : State) : Kept s (withdrawAll c s) :=
  (kept_withdraw _ s).trans (kept_setWaiting _ _ _)

theorem kept_emptyQueue (s : State) : Kept s (emptyQueue s) :=
  ((kept_setQueue _ s).trans (kept_setHeld _ _)).trans (kept_forChans _ (fun c s => kept_setWaiting c none s) _)

theorem kept_reduceQueue (s : State) : Kept s (reduceQueue s) := by
  refine ((kept_setQueue _ s).trans (kept_setHeld _ _)).trans (kept_forChans _ (fun c s => ?_) _)
  split
  · exact Kept.refl s
  · exact kept_setWaiting c none s

theorem kept_submitPulse (c : Chan) (cls : Cls) (who : Source) (p : Bool) (k : Nat) (s : State) :
    Kept s (submitPulse c cls who p k s) := by
  simp only [submitPulse]
  have h := kept_submit (newEntry s c cls .pulse who p (pulseKick s.coils[c] k)) s
  split <;> rename_i heq <;> rw [heq] at h
  · exact h.trans (kept_countDropped _)
  · exact h

theorem kept_submitFlip (c : Chan) (x : FlipContext) (s : State) : Kept s (submitFlip c x s) := by
  simp only [submitFlip]
  have h := kept_submit (newEntry s c .flip .flip (.rule x.rule) x.persistent s.coils[c].k) s
  split <;> rename_i heq <;> rw [heq] at h
  · exact h.trans (kept_countDropped _)
  · exact h.trans (kept_setWaiting _ _ _)
  · exact h

theorem kept_submitRekick (c : Chan) (x : FlipContext) (s : State) : Kept s (submitRekick c x s) := by
  simp only [submitRekick]
  have h := kept_submit (newEntry s c .flip .rekick (.rule x.rule) x.persistent s.coils[c].k) s
  split <;> rename_i heq <;> rw [heq] at h
  · exact h.trans (kept_countDropped _)
  · exact h

/-! ### The trains, but for what their ends do to a unit -/

theorem kept_offer (t : TrainNo) (s : State) : Kept s (offer t s) := by
  simp only [offer]; split
  · exact Kept.refl s
  · rename_i x _
    have h := kept_submit (stepEntry s t x) s
    split <;> rename_i heq <;> rw [heq] at h
    · exact (h.trans (kept_setHeld _ _)).trans (kept_setTrain _ _ _)
    · exact h

theorem kept_enterWait (t : TrainNo) (x : Train) (s : State) : Kept s (enterWait t x s) :=
  (kept_setTrain _ _ s).trans (kept_offer t _)

theorem kept_trainGranted (t : TrainNo) (s : State) : Kept s (trainGranted t s) := by
  simp only [trainGranted]; split
  · exact Kept.refl s
  · exact kept_setTrain _ _ s

theorem kept_trainKickEnd (c : Chan) (s : State) : Kept s (trainKickEnd c s) := by
  simp only [trainKickEnd]; split
  · exact Kept.refl s
  · split
    · exact Kept.refl s
    · split
      · exact kept_setTrain _ _ s
      · exact Kept.refl s

theorem kept_takeBack (t : TrainNo) (s : State) : Kept s (takeBack t s) :=
  (kept_setHeld _ s).trans (kept_withdraw _ _)

theorem kept_freeTrain (t : TrainNo) (s : State) : Kept s (freeTrain t s) :=
  (kept_setTrain _ _ s).trans (kept_takeBack t _)

theorem kept_freeBank (b : BankNo) (s : State) : Kept s (freeBank b s) :=
  kept_foldl _ (fun s t => kept_freeTrain t s) _ s

/-! ### The channels' grants and the ends that reach no unit -/

theorem kept_becomeIdle (c : Chan) (s : State) : Kept s (becomeIdle c s) := (kept_setAct c .idle s).trans (kept_callPass _)

theorem kept_enterRecovery (c : Chan) (s : State) : Kept s (enterRecovery c s) := by
  simp only [enterRecovery]; split
  · exact kept_becomeIdle c s
  · exact kept_setAct _ _ s

theorem kept_enterHold (c : Chan) (d : Drive) (x : FlipContext) (left : Nat) (limit : Option Nat) (e : Nat) (s : State) :
    Kept s (enterHold c d x left limit e s) := (kept_setHeat _ _ s).trans (kept_setAct _ _ _)

theorem kept_endHold (c : Chan) (s : State) : Kept s (endHold c s) := by
  simp only [endHold]; split
  · exact (((kept_finalCharge c s).trans (kept_enterRecovery c _)).trans (kept_callPass _)).trans (kept_withdrawRekick c _)
  · exact Kept.refl s

theorem kept_beginKick (c : Chan) (kind : DriveKind) (e : Entry) (k : Nat) (s : State) : Kept s (beginKick c kind e k s) :=
  (kept_setAct _ _ s).trans (kept_setGuard _ _ _)

/-! ### The pass -/

theorem kept_grantKick (e : Entry) (k : Nat) (s : State) : Kept s (grantKick e k s) := by
  simp only [grantKick]; split
  · split
    · exact (kept_setWaiting _ _ s).trans (kept_beginKick _ _ _ _ _)
    · exact Kept.refl s
  · split
    · exact (kept_finalCharge _ s).trans (kept_beginKick _ _ _ _ _)
    · exact Kept.refl s
  · exact kept_beginKick _ _ _ _ s
  · split
    · exact (kept_beginKick _ _ _ _ s).trans (kept_trainGranted _ _)
    · exact kept_beginKick _ _ _ _ s

theorem kept_grantHold (e : Entry) (heff : Nat) (b : Bool) (s : State) : Kept s (grantHold e heff b s) := by
  simp only [grantHold]; split
  · exact ((kept_setWaiting _ _ s).trans (kept_enterHold _ _ _ _ _ _ _)).trans (kept_setLatchIf _ _ _)
  · exact Kept.refl s

theorem kept_removeAtPass (e : Entry) (x y : Bool) (s : State) : Kept s (removeAtPass e x y s) := by
  simp only [removeAtPass]; split
  · exact ((kept_setLatchIf _ _ s).trans (kept_setLatchIf _ _ _)).trans (kept_setWaiting _ _ _)
  · exact (kept_setLatchIf _ _ s).trans (kept_setLatchIf _ _ _)

theorem kept_walk (q : List Entry) (s : State) : Kept s (walk q s).2 := by
  induction q generalizing s with
  | nil => exact Kept.refl s
  | cons e es ih =>
    simp only [walk]; split
    · exact ih s
    · exact (kept_removeAtPass _ _ _ s).trans (ih _)
    · split
      · exact (kept_grantKick _ _ s).trans (ih _)
      · exact Kept.refl s
    · split
      · exact (kept_grantHold _ _ _ s).trans (ih _)
      · exact Kept.refl s

theorem kept_pass (s : State) : Kept s (pass s) := by
  simp only [pass]; split
  · exact (kept_walk s.queue s).trans (kept_setQueue _ _)
  · exact Kept.refl s

theorem kept_passes (n : Nat) (s : State) : Kept s (passes n s) := by
  induction n generalizing s with
  | zero => constructor <;> rfl
  | succ n ih =>
    simp only [passes]; split
    · exact ((kept_handOver s).trans (show Kept _ _ by constructor <;> rfl)).trans ((kept_pass _).trans (ih _))
    · exact kept_handOver s

/-- The end of an event changes nothing outside the Drive Scheduler, the channels and the trains (R55 to R59). -/
theorem kept_arbitrate (s : State) : Kept s (arbitrate s) := by
  simp only [arbitrate]; split
  · exact kept_passes _ s
  · exact Kept.refl s

end Sys2Proof.Machine
end

