-- ==== Sys2Proof/Laws/PerInstr.lean ====
section
/-! SUPPORT. A law of every command, one lemma per constructor: the payload of a well-formed command's frame fits a frame. -/

namespace Sys2Proof.Laws.PayloadFits

/-- The payload of a well-formed command's frame has at most the 240 bytes a frame can carry (R153). -/
def Statement (i : Instr) : Prop :=
  i.wf = true → ∀ (k : Byte) (f : Head) (p : List Byte), framePayload i = some (k, f, p) → p.length ≤ 240

/-- A payload of known bytes fits. -/
theorem of_some {i : Instr} {k₀ : Byte} {f₀ : Head} {p₀ : List Byte} (h : framePayload i = some (k₀, f₀, p₀))
    (hl : i.wf = true → p₀.length ≤ 240) : Statement i := by
  intro hw k f p hp
  rw [h] at hp
  cases hp
  exact hl hw

/-- A query's payload, its kind, its number byte and the place of its answer, fits. -/
theorem of_query {i : Instr} {k₀ a b : Byte} {f₀ : Head} {rest : List Byte} (h : framePayload i = some (k₀, f₀, [a, b] ++ rest))
    (hw : i.wf = decide (rest.length ≤ 238)) : Statement i :=
  of_some h fun hi => by
    rw [hw, decide_eq_true_eq] at hi
    simp only [List.length_append, List.length_cons, List.length_nil]
    omega

/-- A command that is no single frame has no payload. -/
theorem of_none {i : Instr} (h : framePayload i = none) : Statement i := by
  intro _ k f p hp
  rw [h] at hp
  cases hp

theorem powerOnReset (straps : BitVec 4) (levels : BitVec 32) : Statement (.powerOnReset straps levels) :=
  of_none rfl
theorem frame (bytes : List Byte) : Statement (.frame bytes) :=
  of_none rfl
theorem frameAbandoned (bytes : List Byte) : Statement (.frameAbandoned bytes) :=
  of_none rfl
theorem go (f : Head) : Statement (.go f) :=
  of_some rfl (fun _ => Nat.le_of_ble_eq_true rfl)
theorem quiet (f : Head) (mask : BitVec 32) : Statement (.quiet f mask) :=
  of_some rfl (fun _ => Nat.le_of_ble_eq_true rfl)
theorem reset (f : Head) : Statement (.reset f) :=
  of_some rfl (fun _ => Nat.le_of_ble_eq_true rfl)
theorem pulse (f : Head) (channel override : Byte) : Statement (.pulse f channel override) :=
  of_some rfl (fun _ => Nat.le_of_ble_eq_true rfl)
theorem release (f : Head) (channel : Byte) : Statement (.release f channel) :=
  of_some rfl (fun _ => Nat.le_of_ble_eq_true rfl)
theorem arm (f : Head) (mask : Byte) : Statement (.arm f mask) :=
  of_some rfl (fun _ => Nat.le_of_ble_eq_true rfl)
theorem disarm (f : Head) (mask : Byte) : Statement (.disarm f mask) :=
  of_some rfl (fun _ => Nat.le_of_ble_eq_true rfl)
theorem run (f : Head) (channel count : Byte) (startIv floorIv : Half) (ramp idle : Byte) : Statement (.run f channel count startIv floorIv ramp idle) :=
  of_some rfl (fun _ => Nat.le_of_ble_eq_true rfl)
theorem cancel (f : Head) (target number : Byte) : Statement (.cancel f target number) :=
  of_some rfl (fun _ => Nat.le_of_ble_eq_true rfl)
theorem add (f : Head) (bank : Byte) (value : BitVec 24) : Statement (.add f bank value) :=
  of_some rfl (fun _ => Nat.le_of_ble_eq_true rfl)
theorem zero (f : Head) (bank : Byte) : Statement (.zero f bank) :=
  of_some rfl (fun _ => Nat.le_of_ble_eq_true rfl)
theorem step (f : Head) (unit count : Byte) : Statement (.step f unit count) :=
  of_some rfl (fun _ => Nat.le_of_ble_eq_true rfl)
theorem lock (f : Head) (channel : Byte) : Statement (.lock f channel) :=
  of_some rfl (fun _ => Nat.le_of_ble_eq_true rfl)
theorem unlock (f : Head) (channel : Byte) : Statement (.unlock f channel) :=
  of_some rfl (fun _ => Nat.le_of_ble_eq_true rfl)
theorem setLamps (f : Head) (first count : Byte) (levels : List Byte) : Statement (.setLamps f first count levels) :=
  of_some rfl (by simp only [Instr.wf, Bool.and_eq_true, beq_iff_eq, decide_eq_true_eq]; intro h; simp; omega)
theorem setModes (f : Head) (first count : Byte) (modes : List Byte) : Statement (.setModes f first count modes) :=
  of_some rfl (by simp only [Instr.wf, Bool.and_eq_true, beq_iff_eq, decide_eq_true_eq]; intro h; simp; omega)
theorem move (f : Head) (ring count : Byte) : Statement (.move f ring count) :=
  of_some rfl (fun _ => Nat.le_of_ble_eq_true rfl)
theorem acknowledge (f : Head) (mask : Half) : Statement (.acknowledge f mask) :=
  of_some rfl (fun _ => Nat.le_of_ble_eq_true rfl)
theorem clearCounts (f : Head) (mask : BitVec 32) : Statement (.clearCounts f mask) :=
  of_some rfl (fun _ => Nat.le_of_ble_eq_true rfl)
theorem loadNodeSettings (f : Head) (r : SettingsRec) : Statement (.loadNodeSettings f r) :=
  of_some rfl (fun _ => Nat.le_of_ble_eq_true rfl)
theorem loadCoil (f : Head) (r : CoilRec) : Statement (.loadCoil f r) :=
  of_some rfl (fun _ => Nat.le_of_ble_eq_true rfl)
theorem loadInput (f : Head) (r : InputRec) : Statement (.loadInput f r) :=
  of_some rfl (fun _ => Nat.le_of_ble_eq_true rfl)
theorem loadRule (f : Head) (r : RuleRec) : Statement (.loadRule f r) :=
  of_some rfl (fun _ => Nat.le_of_ble_eq_true rfl)
theorem loadBank (f : Head) (r : BankRec) : Statement (.loadBank f r) :=
  of_some rfl (by simp only [Instr.wf, beq_iff_eq]; intro h; simp [bankBytes, halfBytes]; omega)
theorem loadUnit (f : Head) (r : UnitRec) : Statement (.loadUnit f r) :=
  of_some rfl (fun _ => Nat.le_of_ble_eq_true rfl)
theorem loadRing (f : Head) (r : RingRec) : Statement (.loadRing f r) :=
  of_some rfl (by simp only [Instr.wf, beq_iff_eq]; intro h; simp [ringBytes, halfBytes]; omega)
theorem queryNodeSettings (f : Head) (number : Byte) (rest : List Byte) : Statement (.queryNodeSettings f number rest) :=
  of_query rfl rfl
theorem queryCoil (f : Head) (number : Byte) (rest : List Byte) : Statement (.queryCoil f number rest) :=
  of_query rfl rfl
theorem queryInput (f : Head) (number : Byte) (rest : List Byte) : Statement (.queryInput f number rest) :=
  of_query rfl rfl
theorem queryRule (f : Head) (number : Byte) (rest : List Byte) : Statement (.queryRule f number rest) :=
  of_query rfl rfl
theorem queryBank (f : Head) (number : Byte) (rest : List Byte) : Statement (.queryBank f number rest) :=
  of_query rfl rfl
theorem queryCounterUnit (f : Head) (number : Byte) (rest : List Byte) : Statement (.queryCounterUnit f number rest) :=
  of_query rfl rfl
theorem queryRing (f : Head) (number : Byte) (rest : List Byte) : Statement (.queryRing f number rest) :=
  of_query rfl rfl
theorem queryChannelStatus (f : Head) (number : Byte) (rest : List Byte) : Statement (.queryChannelStatus f number rest) :=
  of_query rfl rfl
theorem queryQueueSnapshot (f : Head) (number : Byte) (rest : List Byte) : Statement (.queryQueueSnapshot f number rest) :=
  of_query rfl rfl
theorem queryTrainStatus (f : Head) (number : Byte) (rest : List Byte) : Statement (.queryTrainStatus f number rest) :=
  of_query rfl rfl
theorem queryBankStatus (f : Head) (number : Byte) (rest : List Byte) : Statement (.queryBankStatus f number rest) :=
  of_query rfl rfl
theorem queryCounterStatus (f : Head) (number : Byte) (rest : List Byte) : Statement (.queryCounterStatus f number rest) :=
  of_query rfl rfl
theorem queryIdentity (f : Head) (number : Byte) (rest : List Byte) : Statement (.queryIdentity f number rest) :=
  of_query rfl rfl
theorem queryMonitor (f : Head) (number : Byte) (rest : List Byte) : Statement (.queryMonitor f number rest) :=
  of_query rfl rfl
theorem queryLampImage (f : Head) (number : Byte) (rest : List Byte) : Statement (.queryLampImage f number rest) :=
  of_query rfl rfl
theorem sweep (f : Head) (first count : Byte) (slots : List Byte) (during : List Sample) : Statement (.sweep f first count slots during) :=
  of_some rfl (by simp only [Instr.wf, Bool.and_eq_true, beq_iff_eq, decide_eq_true_eq]; intro h; simp; omega)
theorem silenceExpiry : Statement .silenceExpiry :=
  of_none rfl
theorem settleExpiry : Statement .settleExpiry :=
  of_none rfl
theorem inputSample (x : Sample) : Statement (.inputSample x) :=
  of_none rfl
theorem kickTimerExpiry (c : Chan) : Statement (.kickTimerExpiry c) :=
  of_none rfl
theorem holdLimitExpiry (c : Chan) : Statement (.holdLimitExpiry c) :=
  of_none rfl
theorem recoveryExpiry (c : Chan) : Statement (.recoveryExpiry c) :=
  of_none rfl
theorem kickAccrual (c : Chan) : Statement (.kickAccrual c) :=
  of_none rfl
theorem holdAccrual (c : Chan) : Statement (.holdAccrual c) :=
  of_none rfl
theorem coolingTick : Statement .coolingTick :=
  of_none rfl
theorem staleTimerExpiry (c : Chan) (cls : Fin 4) : Statement (.staleTimerExpiry c cls) :=
  of_none rfl
theorem intervalExpiry (t : TrainNo) : Statement (.intervalExpiry t) :=
  of_none rfl
theorem verifyExpiry (t : TrainNo) : Statement (.verifyExpiry t) :=
  of_none rfl
theorem trainSettleExpiry (t : TrainNo) : Statement (.trainSettleExpiry t) :=
  of_none rfl
theorem holdoffExpiry (r : RuleNo) : Statement (.holdoffExpiry r) :=
  of_none rfl
theorem driveSample (reading : Byte) : Statement (.driveSample reading) :=
  of_none rfl
theorem shortLock (reading : Byte) : Statement (.shortLock reading) :=
  of_none rfl
theorem openLock (c : Chan) : Statement (.openLock c) :=
  of_none rfl
theorem undrivenSample (c : Chan) (reading : Byte) : Statement (.undrivenSample c reading) :=
  of_none rfl
theorem leakTrip (c : Chan) (reading : Byte) : Statement (.leakTrip c reading) :=
  of_none rfl
theorem supplyReading (reading : Byte) : Statement (.supplyReading reading) :=
  of_none rfl
theorem sagSet (reading : Byte) : Statement (.sagSet reading) :=
  of_none rfl
theorem sagClear (reading : Byte) : Statement (.sagClear reading) :=
  of_none rfl
theorem supplyFloorTrip (reading : Byte) : Statement (.supplyFloorTrip reading) :=
  of_none rfl
theorem temperatureReading (reading : Byte) : Statement (.temperatureReading reading) :=
  of_none rfl
theorem heatTrip (reading : Byte) : Statement (.heatTrip reading) :=
  of_none rfl
theorem strobeSlot : Statement .strobeSlot :=
  of_none rfl
theorem blinkHalfChange : Statement .blinkHalfChange :=
  of_none rfl
theorem chaseExpiry (r : RingNo) : Statement (.chaseExpiry r) :=
  of_none rfl

end Sys2Proof.Laws.PayloadFits
end

