-- ==== Sys2Proof/Laws/Port.lean ====
section
/-! SUPPORT. What a frame does before and around what it asks for, and what the end of an event does to a node at rest. -/

namespace Sys2Proof.Machine

/-! ### The end of an event -/

/-- An event that was no cause of a pass ends as it is (R55). -/
theorem arbitrate_of_not_due {s : State} (h : s.passDue = false) : arbitrate s = s := by simp [arbitrate, h]

/-- With nothing waiting, the end of an event only clears the model's own mark. -/
theorem arbitrate_calm {s : State} (h : Calm s) : arbitrate s = { s with passDue := false } := by
  obtain ⟨hq, hh⟩ := h
  rcases s with ⟨p, n, due⟩
  simp only at hq hh
  subst hq hh
  cases due <;> simp [arbitrate, passes, handOver, handPlaces, pass, walk, State.setHeld, State.setQueue]

/-- With nothing waiting, a withdrawal changes nothing (R48). -/
theorem withdraw_calm {s : State} (p : Entry → Bool) (h : s.queue = []) : withdraw p s = s := by simp [withdraw, h]

/-! ### Frames -/

theorem refuseOrder_eq (tag : Byte) (why : Reason) (s : State) : refuseOrder tag why s = turnedAway tag why s := rfl

theorem damageSeen_eq (bytes : List Byte) (s : State) : damageSeen (s.setDownstream bytes) = damaged bytes s := rfl

/-- A good frame end outside CHAIN-LOST does what `heard` says (R156, R159). -/
theorem goodFrameEnd_eq (bytes : List Byte) (s : State) (h : s.node.st ≠ .chainLost) :
    goodFrameEnd (s.setDownstream bytes) = heard bytes s := by
  cases hs : s.node.st <;> simp_all [goodFrameEnd, heard, restartSilence, State.setPort, State.setDownstream, State.after,
    Config.msTime]

/-- A good frame that asks for nothing leaves what `heard` says. -/
theorem plainFrame_id {bytes : List Byte} {f : Head} {s : State} (hd : f.damage = 0) (ha : s.port.address ≠ 0)
    (hs : s.node.st ≠ .chainLost) (hp : s.passDue = false) : plainFrame bytes f id s = heard bytes s := by
  have hp' : (heard bytes s).passDue = false := hp
  have e : (s.setDownstream bytes).port.address ≠ 0 := ha
  simp only [plainFrame, frameEnd, if_neg e, if_pos hd, goodFrameEnd_eq bytes s hs, id, arbitrate_of_not_due hp']

/-- A frame whose payload check fails leaves what `damaged` says, whatever it asks for (R155). -/
theorem plainFrame_damaged {bytes : List Byte} {f : Head} {act : State → State} {s : State} (hd : f.damage ≠ 0)
    (ha : s.port.address ≠ 0) : plainFrame bytes f act s = damaged bytes s := by
  have e : (s.setDownstream bytes).port.address ≠ 0 := ha
  simp only [plainFrame, frameEnd, if_neg e, if_neg hd, damageSeen_eq]

/-- A node strapped to address 0 only forwards (R153). -/
theorem plainFrame_unaddressed {bytes : List Byte} {f : Head} {act : State → State} {s : State} (ha : s.port.address = 0) :
    plainFrame bytes f act s = s.setDownstream bytes := by
  have e : (s.setDownstream bytes).port.address = 0 := ha
  simp only [plainFrame, if_pos e]

/-- An order or load that the node hears is acted on after what every good frame end does, and the event ends (R156). -/
theorem orderFrame_heard {i : Instr} {f : Head} {act : State → State} {s : State} (h : Heard f s) :
    orderFrame i f act s = arbitrate (act (heard (encodeFrame i) s)) := by
  obtain ⟨hd, ha, hto, hs, -⟩ := h
  have haddr : addressed s f = true := by
    have e : (s.port.address != 0) = true := bne_iff_ne.mpr ha
    rcases hto with h | h <;> simp only [addressed, ownAddress, e, h, beq_self_eq_true, Bool.true_or, Bool.or_true, Bool.true_and]
  have e : (s.setDownstream (encodeFrame i)).port.address ≠ 0 := ha
  simp only [orderFrame, plainFrame, frameEnd, if_neg e, if_pos hd, haddr, if_true, goodFrameEnd_eq _ s hs]

/-- A reference that names something is acted on. -/
theorem withRef_of_val {n : Nat} {tag b : Byte} {act : Fin n → State → State} {i : Fin n} (h : b.toNat = i.val) (s : State) :
    withRef tag n b act s = act i s := by
  simp [withRef, refOf, h]

/-- A reference that names nothing refuses the order with Range (R156). -/
theorem withRef_of_ge {n : Nat} {tag b : Byte} {act : Fin n → State → State} (h : n ≤ b.toNat) (s : State) :
    withRef tag n b act s = turnedAway tag .range s := by
  simp [withRef, refOf, Nat.not_lt.mpr h, refuseOrder_eq]

theorem refOf_of_val {n : Nat} {b : Byte} {i : Fin n} (h : b.toNat = i.val) : refOf n b = some i := by
  simp [refOf, h]

end Sys2Proof.Machine
end

