-- ==== Sys2Proof/Laws/Queue.lean ====
section
/-! SUPPORT. What the operations on the channels, the Admission Queue and the pass can do, said once for each. -/

namespace Sys2Proof.Machine

/-! ### Doing something for every channel -/

/-- What every single piece of work preserves, the work on all the channels preserves. -/
theorem forChans_invariant {P : State → Prop} {f : Chan → State → State} (h : ∀ c s, P s → P (f c s)) {s : State} (hs : P s) :
    P (forChans f s) := by
  have go : ∀ (l : List Chan) (s : State), P s → P (l.foldl (fun s c => f c s) s) := by
    intro l
    induction l with
    | nil => exact fun _ h => h
    | cons c l ih => exact fun s hs => ih _ (h c s hs)
  exact go _ s hs

/-! ### Changing a channel's state -/

@[simp] theorem setAct_chans (c : Chan) (x : Activity) (s : State) :
    (setAct c x s).chans = s.chans.set c { s.chans[c] with act := x } := by
  simp only [setAct]; split <;> rfl

@[simp] theorem setAct_inUse (c : Chan) (x : Activity) (s : State) :
    (setAct c x s).inUse = s.inUse - actDraw s.coils[c] s.chans[c].act + actDraw s.coils[c] x := by
  simp only [setAct]; split <;> rfl

@[simp] theorem setAct_heat (c : Chan) (x : Activity) (s : State) : (setAct c x s).heat = s.heat := by
  simp only [setAct]; split <;> rfl

@[simp] theorem setAct_queue (c : Chan) (x : Activity) (s : State) : (setAct c x s).queue = s.queue := by
  simp only [setAct]; split <;> rfl

@[simp] theorem setAct_held (c : Chan) (x : Activity) (s : State) : (setAct c x s).held = s.held := by
  simp only [setAct]; split <;> rfl

@[simp] theorem setAct_trains (c : Chan) (x : Activity) (s : State) : (setAct c x s).trains = s.trains := by
  simp only [setAct]; split <;> rfl

@[simp] theorem setAct_latches (c : Chan) (x : Activity) (s : State) : (setAct c x s).latches = s.latches := by
  simp only [setAct]; split <;> rfl

@[simp] theorem setAct_dropped (c : Chan) (x : Activity) (s : State) : (setAct c x s).dropped = s.dropped := by
  simp only [setAct]; split <;> rfl

@[simp] theorem setAct_passDue (c : Chan) (x : Activity) (s : State) : (setAct c x s).passDue = s.passDue := by
  simp only [setAct]; split <;> rfl

/-- A channel that joins the driven round has its short run and leak run set to 0, and no other protection record changes (R129, R130). -/
theorem setAct_guards (c : Chan) (x : Activity) (s : State) :
    (setAct c x s).guards =
      if !s.chans[c].driven && Channel.driven { s.chans[c] with act := x } then
        s.guards.set c { s.guards[c] with shortRun := 0, leakRun := 0 }
      else s.guards := by
  simp only [setAct]; split <;> rfl

/-! ### Joining -/

theorem insertEntry_length (e : Entry) (q : List Entry) : (insertEntry e q).length = q.length + 1 := by
  have h := congrArg List.length (List.takeWhile_append_dropWhile (p := fun x => decide (clsCode x.cls ≤ clsCode e.cls)) (l := q))
  simp only [List.length_append] at h
  simp only [insertEntry, List.length_append, List.length_cons]
  omega

theorem mem_insertEntry (e x : Entry) (q : List Entry) : x ∈ insertEntry e q ↔ x = e ∨ x ∈ q := by
  have h : x ∈ q ↔ x ∈ q.takeWhile (fun y => decide (clsCode y.cls ≤ clsCode e.cls)) ∨
      x ∈ q.dropWhile (fun y => decide (clsCode y.cls ≤ clsCode e.cls)) := by
    rw [← List.mem_append, List.takeWhile_append_dropWhile]
  simp only [insertEntry, List.mem_append, List.mem_cons, h]
  tauto

/-- What a request at the Drive Scheduler can do: it merges, joins with a place free, joins in an evicted entry's place, or finds the queue
full (R42, R43). -/
theorem submit_cases (e : Entry) (s : State) :
    (s.queue.any (·.matches e) = true ∧ submit e s = (.merged, s.setQueue
      (s.queue.map fun x => if x.matches e then { x with merged := min 15 (x.merged + 1) } else x))) ∨
    (s.queue.any (·.matches e) = false ∧ s.queue.length < Config.queueSize ∧
      submit e s = (.joined, (s.setQueue (insertEntry e s.queue)).callPass)) ∨
    (∃ k, s.queue.any (·.matches e) = false ∧ ¬ s.queue.length < Config.queueSize ∧ evictedClass e.cls s.queue = some k ∧
      submit e s = (.joined, ((countDropped s).setQueue (insertEntry e (dropYoungest k s.queue))).callPass)) ∨
    (s.queue.any (·.matches e) = false ∧ ¬ s.queue.length < Config.queueSize ∧ evictedClass e.cls s.queue = none ∧
      submit e s = (.full, s)) := by
  cases h : s.queue.any (·.matches e)
  · by_cases h2 : s.queue.length < Config.queueSize
    · exact .inr (.inl ⟨rfl, h2, by simp [submit, h, h2]⟩)
    · cases h3 : evictedClass e.cls s.queue with
      | some k => exact .inr (.inr (.inl ⟨k, rfl, h2, rfl, by simp [submit, h, h2, h3]⟩))
      | none => exact .inr (.inr (.inr ⟨rfl, h2, rfl, by simp [submit, h, h2, h3]⟩))
  · exact .inl ⟨rfl, by simp [submit, h]⟩

/-! ### The pass -/

/-- Every entry a pass leaves waiting stood in the queue before it, and only its wait reason may differ (R56). -/
theorem walk_mem (q : List Entry) (s : State) : ∀ e ∈ (walk q s).1, ∃ e' ∈ q, ∃ w, e = { e' with wait := w } := by
  induction q generalizing s with
  | nil => intro e h; cases h
  | cons x q ih =>
    intro e h
    simp only [walk] at h
    have keep : ∀ t : State, e ∈ (walk q t).1 → ∃ e' ∈ x :: q, ∃ w, e = { e' with wait := w } := by
      intro t ht
      obtain ⟨e', he', w, hw⟩ := ih t e ht
      exact ⟨e', List.mem_cons_of_mem _ he', w, hw⟩
    have stop : e ∈ ({ x with wait := .budget } :: q.map ({ · with wait := Wait.notReached }) : List Entry) →
        ∃ e' ∈ x :: q, ∃ w, e = { e' with wait := w } := by
      intro h
      rcases List.mem_cons.mp h with h | h
      · exact ⟨x, List.mem_cons_self, _, h⟩
      · obtain ⟨y, hy, rfl⟩ := List.mem_map.mp h
        exact ⟨y, List.mem_cons_of_mem _ hy, _, rfl⟩
    split at h
    · rename_i w _
      rcases List.mem_cons.mp h with h | h
      · exact ⟨x, List.mem_cons_self, w, h⟩
      · exact keep _ h
    · exact keep _ h
    · split at h
      · exact keep _ h
      · exact stop h
    · split at h
      · exact keep _ h
      · exact stop h

/-- A pass never lengthens the queue. -/
theorem walk_length (q : List Entry) (s : State) : (walk q s).1.length ≤ q.length := by
  induction q generalizing s with
  | nil => exact Nat.le_refl _
  | cons x q ih =>
    simp only [walk]
    split
    · exact Nat.succ_le_succ (ih _)
    · exact Nat.le_succ_of_le (ih _)
    · split
      · exact Nat.le_succ_of_le (ih _)
      · simp
    · split
      · exact Nat.le_succ_of_le (ih _)
      · simp

/-- With the relay open a pass does nothing (R60). -/
theorem pass_open {s : State} (h : s.node.relay = false) : pass s = s := by simp [pass, h]

end Sys2Proof.Machine
end

