-- ==== Sys2Proof/Tests/Slice0.lean ====
section
/-! SUPPORT. Our own tests: the expected values are the manual's worked figures, or worked by hand from its rules; and, for every
statement with hypotheses, a state and operands that meet them. -/

namespace Sys2Proof.Tests

set_option Elab.async false

open Sys2Proof.Machine

/-! ### Helpers -/

/-- The state a command answers; the state it was given where it answers none. -/
def out (i : Instr) (s : State) : State :=
  match exec i s with
  | .next t => t
  | _ => s

/-- The head of a frame for the node itself. -/
def own : Head := { dest := 1, tag := 7 }

/-- The head of a frame for another node. -/
def other : Head := { dest := 9, tag := 7 }

/-- The head of a frame whose payload check fails. -/
def hurt : Head := { dest := 1, tag := 7, damage := 1 }

/-- The node in LIVE with nothing loaded. -/
def live : State := { State.reset with node := { st := .live, relay := true }, port := { silence := some 250000 } }

/-- The node in a state whose relay is open. -/
def inState (st : NodeState) : State := { State.reset with node := { st := st } }

/-- The node in ARMING. -/
def arming : State :=
  { State.reset with
    node := { st := .arming, relay := true, settle := some 200000 }
    port := { silence := some 250000 } }

/-- The left flipper's coil of the manual's re-kick sequence. -/
def flipperCoil : Coil :=
  { enabled := true, p := 8, k := 30, kMin := 10, h := 4, holdLimit := 10000, recovery := 20 }

/-- The coil of the manual's table of the heat test at its boundaries. -/
def hotCoil : Coil :=
  { enabled := true, p := 6, k := 40, kMin := 15, h := 8, recovery := 20, l := 2000, a := 1000, s := 5, ck := 20 }

/-- A step coil. -/
def stepCoil : Coil := { enabled := true, p := 2, k := 20, kMin := 5, recovery := 10 }

/-- The flip context of the manual's re-kick sequence: trigger 3, end of stroke 12, mode Rekick, allowance 2. -/
def flipCtx : FlipContext :=
  { trigger := 3, rule := 0, group := 0, persistent := true, eos := some 12, mode := .rekick, allowance := 2 }

def flipDrive : Drive :=
  { kind := .flip flipCtx 2 none, source := .rule 0, persistent := true, began := 0, charged := 0 }

def pulseDrive : Drive := { kind := .pulse, source := .order 7, persistent := false, began := 0, charged := 0 }

def stepDrive : Drive := { kind := .stepPulse, source := .train 0, persistent := false, began := 0, charged := 0 }

/-- Channel 4 with the flipper coil, in a given state. -/
def flipper (x : Activity) : State := (live.setCoil 4 flipperCoil).setChan 4 { act := x }

/-- An input closed and settled. -/
def shut : Input := { closed := true, raw := false }

/-- The profile of the manual's interval tables. -/
def tableProfile : Profile := { start := 60, floor := 30, ramp := 10, idle := 0 }

/-! ### Well-formedness: each check refuses an ill-formed command -/

theorem test_wf_frame_empty : Instr.wf (.frame []) = false := by decide
theorem test_wf_frame_too_long : Instr.wf (.frame (List.replicate 249 0)) = false := by decide +kernel
theorem test_wf_abandoned_empty : Instr.wf (.frameAbandoned []) = false := by decide
theorem test_wf_lamps_miscounted : Instr.wf (.setLamps own 0 2 [15]) = false := by decide
theorem test_wf_modes_miscounted : Instr.wf (.setModes own 0 1 []) = false := by decide
theorem test_wf_bank_reels : Instr.wf (.loadBank own ⟨0, 2, 60, 30, 10, 0, [(1, 1)]⟩) = false := by decide
theorem test_wf_ring_members : Instr.wf (.loadRing own ⟨0, 2, 0, [1, 2]⟩) = false := by decide
theorem test_wf_query_too_long : Instr.wf (.queryCoil own 0 (List.replicate 239 0)) = false := by decide +kernel
theorem test_wf_sweep_count : Instr.wf (.sweep { own with dest := 0 } 1 0 [] []) = false := by decide
theorem test_wf_sweep_addressed : Instr.wf (.sweep own 1 1 (List.replicate 32 0) []) = false := by decide +kernel
theorem test_wf_sample_order : Instr.wf (.inputSample { levels := 0, order := [(1, .ruleEngine), (1, .ruleEngine)] }) = false := by
  decide
theorem test_wf_go : Instr.wf (.go own) = true := by decide

/-! ### The checks of a frame: the published check values of CRC-8 and CRC-16 of the parameters of R153 over "123456789" -/

theorem test_crc8 : crc8 [0x31, 0x32, 0x33, 0x34, 0x35, 0x36, 0x37, 0x38, 0x39] = 0xF4 := by decide +kernel
theorem test_crc16 : crc16 [0x31, 0x32, 0x33, 0x34, 0x35, 0x36, 0x37, 0x38, 0x39] = 0x29B1 := by decide +kernel

/-- Frames written out byte by byte, their checks worked by a separate program: a Step order of count −2 for unit 1, and a load of input 3 as
closed-high and Slow. -/
theorem test_read_step :
    decodeFrame [0xD2, 0x01, 0x01, 0x07, 0x03, 0xB6, 0x0C, 0x01, 0xFE, 0x84, 0x1D] = some (.step own 1 0xFE) := by decide +kernel
theorem test_read_load :
    decodeFrame [0xD2, 0x01, 0x02, 0x07, 0x04, 0x1E, 0x03, 0x03, 0x01, 0x02, 0x55, 0x3F] = some (.loadInput own ⟨3, 1, 2⟩) := by
  decide +kernel

/-- An order with a code that is not in the table is refused with Kind, and one of the wrong length with Range (R156). -/
theorem test_read_unknown : (decodeOrder own [20] = .error .kind) ∧ decodeOrder own [1, 0] = .error .range := by decide +kernel

/-! ### The manual's tables -/

/-- The interval table of one train of ten pulses, w_2 to w_11. -/
theorem test_intervals_ten :
    (List.range 10).map (fun n => intervalOf tableProfile (n + 1) 10) = [60, 50, 40, 30, 30, 30, 40, 50, 60, 60] := by
  decide +kernel

/-- The same with two idle intervals. -/
theorem test_intervals_idle :
    (List.range 10).map (fun n => intervalOf { tableProfile with idle := 2 } (n + 1) 10) =
      [60, 60, 60, 50, 40, 30, 40, 50, 60, 60] := by decide +kernel

/-- The heat test at its boundaries: the grantable kick and Heff at each Q of the manual's table. -/
theorem test_heat_table :
    [1000, 1250, 1700, 1701, 1805, 1940].map (fun q => (grantable hotCoil q 40, derated hotCoil q)) =
      [(40, 8), (37, 6), (15, 2), (14, 2), (9, 2), (3, 0)] := by decide +kernel

/-- The effective levels at masters 15, 10, 2 and 1 of the manual's table. -/
theorem test_effective_levels :
    [1, 4, 9, 12, 15].map (fun b => [15, 10, 2, 1].map (scaled b)) =
      [[1, 1, 1, 1], [4, 3, 1, 1], [9, 6, 1, 1], [12, 8, 2, 1], [15, 10, 2, 1]] := by decide +kernel

/-- Rotations and fills of the manual's ring. -/
theorem test_rotation_and_fill :
    let l := [15, 0, 0, 8, 0, 0]
    rotated l 1 = [0, 15, 0, 0, 8, 0] ∧ rotated l 2 = [0, 0, 15, 0, 0, 8] ∧ rotated l 7 = [0, 15, 0, 0, 8, 0] ∧
      filled l 1 = [15, 15, 0, 0, 8, 0] ∧ filled l 2 = [15, 15, 15, 0, 0, 8] ∧ filled l 6 = [15, 15, 15, 15, 15, 15] := by
  decide +kernel

/-! ### The machine, frames and node states -/

/-- A bank of three reels standing at 298, as in the manual's carry sequence. -/
def bank298 : State :=
  (((live.setCoil 1 stepCoil).setCoil 2 stepCoil).setCoil 3 stepCoil).setBank 0
    { reels := [{ channel := 1, zero := 21, position := some 8 }, { channel := 2, zero := 22, position := some 9 },
        { channel := 3, zero := 23, position := some 2 }],
      profile := { start := 60, floor := 40, ramp := 10 } }

/-- The credit unit of the manual's netting sequence. -/
def creditUnit : CounterUnit :=
  { inUse := true, up := 12, down := 13, top := 10, zero := 11, maximum := 99, settle := 100,
    profile := { start := 80, floor := 50, ramp := 15 }, position := some 20 }

def withUnit : State := ((live.setCoil 12 stepCoil).setCoil 13 stepCoil).setUnit 1 creditUnit

/-- The unit's up train of 5 with 2 pulses issued. -/
def upTrain : Train :=
  { state := .gap, owner := .counter 1, channel := 12, dir := .up, planned := 5, issued := 2, profile := creditUnit.profile,
    interval := some 145000 }

/-- A bare train on channel 17. -/
def bareTrain : Train :=
  { state := .gap, owner := .bare, channel := 17, planned := 6, issued := 4, profile := tableProfile, interval := some 200000 }

theorem test_step_takes_front :
    step { live with pending := [.arm own 1, .disarm own 1] } = exec (.arm own 1) { live with pending := [.disarm own 1] } := rfl
theorem test_idle : step State.reset = .next { State.reset with now := 1 } := rfl

theorem test_power_on :
    let t := out (.powerOnReset 2 0xFFFFFFF7) live
    t.port.address = 2 ∧ t.inputs[3].closed = true ∧ t.inputs[3].count = 0 ∧ t.inputs[2].closed = false ∧ t.node.st = .safe := by
  decide +kernel
theorem test_frame_go :
    (out (.frame [0xD2, 0x01, 0x01, 0x07, 0x01, 0xB8, 0x01, 0xF1, 0xD1]) State.reset).node =
      { st := .arming, relay := true, settle := some 200000 } := by decide +kernel
theorem test_frame_identity :
    (out (.frame [0xD2, 0x01, 0x03, 0x07, 0x10, 0x19, 0x0D, 0, 0, 0, 0, 0, 0, 0, 0, 0, 0, 0, 0, 0, 0, 0, 0x53, 0x79])
      State.reset).port.downstream =
      [0xD2, 0x01, 0x04, 0x07, 0x10, 0x0F, 0x0D, 0x00, 0x00, 0x24, 0x08, 0x01, 0x01, 0x18, 0x20, 0x40, 0x20, 0x10, 0x0C, 0x04,
        0x04, 0x04, 0x25, 0x7D] := by decide +kernel
theorem test_abandoned :
    let t := out (.frameAbandoned [0xD2, 1, 1]) State.reset
    t.port.damage = 1 ∧ t.latches = 1 ∧ t.port.downstream = [0xD2, 1, 1] := by decide +kernel
theorem test_go : (out (.go own) State.reset).port.silence = some 250000 := by decide +kernel
theorem test_go_tripped :
    let t := out (.go own) (inState .tripped)
    t.node.st = .tripped ∧ t.port.lastReason = some .state ∧ t.port.refusals = 1 := by decide +kernel
theorem test_quiet :
    let t := out (.quiet own 2) live
    t.node.st = .quiet ∧ t.node.wakeMask = 2 ∧ t.node.relay = false ∧ t.port.silence = none := by decide +kernel
theorem test_quiet_wakes :
    let t := out (.quiet own 2) (live.setInput 1 shut)
    t.node.st = .arming ∧ t.node.wake = .input 1 ∧ t.latches = 0x8000 := by decide +kernel
theorem test_reset :
    let t := out (.reset own) { live with latches := 0xFFFF, armed := 3, dropped := 9 }
    t.node.st = .safe ∧ t.latches = 0 ∧ t.armed = 0 ∧ t.dropped = 0 := by decide +kernel

/-! ### Orders of coil work -/

/-- At Q = 1800 a Pulse with override 10 is granted; at 1805 it waits for heat. -/
theorem test_pulse_granted :
    (out (.pulse own 14 10) ((live.setCoil 14 hotCoil).setHeat 14 { q := 1800 })).chans[14].act =
      .kicking { pulseDrive with source := .order 7 } 10 10000 := by decide +kernel
theorem test_pulse_waits :
    let t := out (.pulse own 14 10) ((live.setCoil 14 hotCoil).setHeat 14 { q := 1805 })
    t.chans[14].act = .idle ∧ t.queue.map (·.wait) = [.heatWait] := by decide +kernel
theorem test_release :
    let t := out (.release own 4) { flipper (.holding flipDrive 4) with inUse := 2 }
    t.chans[4].act = .recovering 20000 ∧ t.inUse = 0 := by decide +kernel
theorem test_arm : (out (.arm own 5) { live with armed := 2 }).armed = 7 := by decide +kernel
theorem test_disarm :
    let t := out (.disarm own 1) { flipper (.holding flipDrive 4) with armed := 3, inUse := 2 }
    t.armed = 2 ∧ t.chans[4].act = .recovering 20000 := by decide +kernel
theorem test_run :
    (out (.run own 17 10 60 30 10 0) (live.setCoil 17 stepCoil)).trains[0] =
      some { state := .pulse, owner := .bare, channel := 17, planned := 10, issued := 1, profile := tableProfile,
             interval := some 60000, inFlight := true } := by decide +kernel
theorem test_run_extends :
    ((out (.run own 17 4 60 30 10 0) ((live.setCoil 17 stepCoil).setTrain 0 (some bareTrain))).trains[0]).map (·.planned) =
      some 10 := by decide +kernel
theorem test_cancel : (out (.cancel own 0 17) ((live.setCoil 17 stepCoil).setTrain 0 (some bareTrain))).trains[0] = none := by
  decide +kernel
theorem test_cancel_unit :
    let t := out (.cancel own 1 1) (withUnit.setTrain 0 (some upTrain))
    t.trains[0] = none ∧ t.units[1].position = none := by decide +kernel
/-- 298 and an Add of 15: the digits 5, 1 and 0. -/
theorem test_add :
    (out (.add own 0 15) bank298).trains.toList.map (fun x => x.map fun y => (y.planned, y.issued, y.state)) =
      [some (5, 1, .pulse), some (1, 1, .pulse), some (0, 0, .verify)] ++ List.replicate 9 none := by decide +kernel
theorem test_add_range : (out (.add own 0 1000) bank298).port.lastReason = some .range := by decide +kernel
/-- The tens reel's switch reads closed: it takes position 0 and no pulses; the others become Unknown with 10. -/
theorem test_zero :
    let t := out (.zero own 0) (bank298.setInput 22 shut)
    t.banks[0].reels.map (·.position) = [none, some 0, none] ∧ t.banks[0].state = .zeroing ∧
      (t.trains.toList.take 3).map (fun x => x.map (·.planned)) = [some 10, some 0, some 10] := by decide +kernel
/-- Case 2 of the netting sequence: a step of −6 sets N to n and leaves 3 pending. -/
theorem test_step_nets :
    let t := out (.step own 1 0xFA) (withUnit.setTrain 0 (some upTrain))
    (t.trains[0]).map (fun x => (x.planned, x.issued)) = some (2, 2) ∧ t.units[1].opposite = 3 := by decide +kernel
theorem test_step_at_limit :
    let t := out (.step own 1 1) (withUnit.setInput 10 shut)
    t.port.lastReason = some .atLimit ∧ t.units[1].position = some 99 ∧ t.latches = 0x802 := by decide +kernel
theorem test_lock :
    let t := out (.lock own 4) { flipper (.holding flipDrive 4) with inUse := 2 }
    t.chans[4].act = .locked ∧ t.guards[4].cause = some .manual ∧ t.inUse = 0 ∧ t.latches = 0x40 := by decide +kernel
theorem test_unlock :
    let t := out (.unlock own 4) ((flipper .locked).setGuard 4 { strikes := 3, cause := some .opened })
    t.chans[4].act = .idle ∧ t.guards[4] = {} := by decide +kernel

/-! ### Lamps and counts -/

theorem test_set_lamps : (out (.setLamps own 62 2 [9, 200]) live).lamps.toList.drop 62 = [{ level := 9 }, { level := 15 }] := by
  decide +kernel
theorem test_set_modes : (out (.setModes own 63 1 [2]) live).lamps[63].mode = .blinkB := by decide +kernel
theorem test_set_modes_range : (out (.setModes own 63 1 [3]) live).port.lastReason = some .range := by decide +kernel

/-- The manual's ring: lamps 40 to 45 at 15, 0, 0, 8, 0, 0. -/
def ringState : State :=
  ((live.setRing 0 { members := [40, 41, 42, 43, 44, 45], period := 100, timer := some 100000 }).setLamp 40 { level := 15 }).setLamp 43
    { level := 8 }

theorem test_move : (((out (.move own 0 0xFE) ringState).lamps.toList.drop 40).take 6).map (·.level) = [15, 15, 15, 0, 0, 8] := by
  decide +kernel
theorem test_acknowledge : (out (.acknowledge own 3) { live with latches := 0xFFFF }).latches = 0xFFFC := by decide +kernel
theorem test_clear_counts :
    let t := out (.clearCounts own 2) ((live.setInput 1 { count := 4, closeLatch := true }).setInput 2 { count := 5 })
    t.inputs[1].count = 0 ∧ t.inputs[1].closeLatch = false ∧ t.inputs[2].count = 5 := by decide +kernel

/-! ### Loads -/

/-- The reserve is clamped to the budget as loaded, and the blink period to 100. -/
theorem test_load_settings :
    let t := out (.loadNodeSettings own ⟨6, 9, 250, 200, 84, 48, 5, 70, 95, 8, 15, 2, 50, 0, 0xFFFF⟩) live
    t.settings.budget = 6 ∧ t.settings.reserve = 6 ∧ t.settings.blink = 100 := by decide +kernel
/-- The minimum kick is clamped to the kick time as loaded, and the alert level to the heat limit. -/
theorem test_load_coil :
    let t := out (.loadCoil own ⟨23, 1, 16, 30, 40, 17, 10000, 20, 1000, 2000, 5, 20, 0, 90⟩) live
    t.coils[23] = { enabled := true, p := 15, k := 30, kMin := 30, h := 16, holdLimit := 10000, recovery := 20, l := 1000, a := 1000,
                    s := 5, ck := 20, shortCeiling := 90 } := by decide +kernel
/-- The strikes at a coil load: an IDLE channel's go with open floor 0 (R127), a LOCKED channel's stay, and so does its cause (R2). -/
theorem test_load_coil_strikes :
    let load := fun (floor : Byte) (a : Activity) =>
      (out (.loadCoil own ⟨4, 1, 6, 20, 10, 4, 0, 5, 0, 0, 1, 1, floor, 90⟩)
        ((flipper a).setGuard 4 { strikes := 2, cause := if a = .locked then some .opened else none })).guards[4]
    (load 0 .idle).strikes = 0 ∧ (load 0 .locked).strikes = 2 ∧ (load 0 .locked).cause = some .opened ∧
      (load 20 .locked).strikes = 2 := by
  decide +kernel
/-- A polarity change re-seats the input from its most recent sample. -/
theorem test_load_input : (out (.loadInput own ⟨31, 1, 2⟩) live).inputs[31] = { closedHigh := true, debounce := .slow, closed := true } := by
  decide +kernel
/-- The persistent flag is kept for a Pulse. -/
theorem test_load_rule :
    (out (.loadRule own ⟨31, 5, 0, 1, 7, 2000, 1, 23, 251, 0, 0⟩) live).rules[31] =
      { trigger := 5, action := .pulse 23 250, group := 7, holdoff := 1000, persistent := true } := by decide +kernel
/-- A Flip needs a Close edge. -/
theorem test_load_rule_open_flip : (out (.loadRule own ⟨0, 5, 1, 2, 0, 0, 0, 4, 12, 2, 2⟩) live).port.lastReason = some .range := by
  decide +kernel
theorem test_load_bank :
    (out (.loadBank own ⟨3, 2, 60, 70, 10, 9, [(1, 21), (2, 22), (99, 99), (0, 0), (0, 0)]⟩) live).banks[3] =
      { reels := [{ channel := 1, zero := 21 }, { channel := 2, zero := 22 }],
        profile := { start := 60, floor := 60, ramp := 10, idle := 7 } } := by decide +kernel
theorem test_load_unit :
    (out (.loadUnit own ⟨1, 1, 12, 13, 10, 11, 99, 100, 80, 50, 15, 0⟩) (live.setInput 10 shut)).units[1] =
      { creditUnit with position := some 99 } := by decide +kernel
theorem test_load_ring :
    (out (.loadRing own ⟨0, 2, 49, [40, 41, 0, 0, 0, 0, 0, 0, 0, 0, 0, 0, 0, 0, 0, 0]⟩) live).rings[0] =
      { members := [40, 41], period := 50, timer := some 50000 } := by decide +kernel

/-! ### Queries: the status and the record, from the third payload byte on -/

/-- The answer's bytes as they went downstream, without the checks. -/
def answered (i : Instr) (s : State) (n : Nat) : List Byte := ((out i s).port.downstream.drop 8).take n

/-- The place of an answer. -/
def room (n : Nat) : List Byte := List.replicate n 0

theorem test_query_settings :
    answered (.queryNodeSettings own 0 (room 20)) live 20 =
      [0, 24, 8, 0, 250, 0, 200, 84, 48, 5, 70, 95, 8, 15, 2, 1, 244, 0, 255, 255] := by decide +kernel
theorem test_query_coil :
    answered (.queryCoil own 4 (room 18)) (flipper .idle) 18 = [0, 4, 1, 8, 30, 10, 4, 0x27, 0x10, 20, 0, 0, 0, 0, 1, 1, 0, 1] := by
  decide +kernel
theorem test_query_coil_range : answered (.queryCoil own 24 (room 18)) live 1 = [8] := by decide +kernel
theorem test_query_input :
    answered (.queryInput own 31 (room 9)) (live.setInput 31 { count := 3, closeLatch := true, since := some 0 }) 9 =
      [0, 31, 0, 1, 0, 1, 3, 1, 0] := by decide +kernel
theorem test_query_input_short : answered (.queryInput own 31 (room 8)) live 1 = [8] := by decide +kernel
theorem test_query_rule :
    answered (.queryRule own 2 (room 16)) { (live.setRule 2 { trigger := 3, action := .flip 4 (some 12) .rekick 2, holdoff := 260 })
      with armed := 1 } 16 = [0, 2, 3, 0, 2, 0, 1, 4, 0, 4, 12, 2, 2, 0, 0, 1] := by decide +kernel
theorem test_query_bank :
    answered (.queryBank own 0 (room 19)) bank298 19 = [0, 0, 3, 0, 60, 0, 40, 10, 0, 1, 21, 2, 22, 3, 23, 0, 0, 0, 0] := by
  decide +kernel
theorem test_query_unit :
    answered (.queryCounterUnit own 1 (room 16)) withUnit 16 = [0, 1, 1, 12, 13, 10, 11, 99, 0, 100, 0, 80, 0, 50, 15, 0] := by
  decide +kernel
theorem test_query_ring :
    answered (.queryRing own 0 (room 23)) ringState 23 =
      [0, 0, 6, 0, 100, 40, 41, 42, 43, 44, 45, 0, 0, 0, 0, 0, 0, 0, 0, 0, 0, 0, 100] := by decide +kernel
theorem test_query_channel :
    answered (.queryChannelStatus own 4 (room 8)) ((flipper (.holding flipDrive 4)).setHeat 4 { q := 258 }) 8 =
      [0, 4, 2, 4, 1, 2, 0, 0] := by decide +kernel
theorem test_query_queue : answered (.queryQueueSnapshot own 0 (room 6)) live 6 = [0, 0, 24, 8, 0, 0] := by decide +kernel
theorem test_query_train : answered (.queryTrainStatus own 11 (room 23)) live 23 = 0 :: 11 :: room 21 := by decide +kernel
theorem test_query_bank_status : answered (.queryBankStatus own 3 (room 25)) live 25 = 0 :: 3 :: room 23 := by decide +kernel
theorem test_query_counter_status : answered (.queryCounterStatus own 3 (room 13)) live 13 = 0 :: 3 :: room 11 := by decide +kernel
theorem test_query_identity :
    answered (.queryIdentity own 0 (room 14)) live 14 = [0, 0x24, 8, 1, 1, 24, 32, 64, 32, 16, 12, 4, 4, 4] := by decide +kernel
theorem test_query_monitor :
    answered (.queryMonitor own 0 (room 15)) { live with latches := 0x1001, mon := { supply := 96, trips := 2, tripCause := some .heat } } 15 =
      [0, 96, 0, 0, 0, 0, 0, 3, 255, 2, 0x10, 1, 255, 255, 1] := by decide +kernel
theorem test_query_lamps :
    answered (.queryLampImage own 0 (room 69)) (live.setLamp 63 { level := 9, mode := .blinkB }) 69 = room 64 ++ [41, 0, 0, 250, 15] := by
  decide +kernel

/-! ### Sweeps -/

/-- The slot of a live node at address 1 of a sweep of one slot: LIVE in attention, the count of input 1 in the high half of its
byte. -/
theorem test_sweep :
    let t := out (.sweep { dest := 0, tag := 7 } 1 1 (room 32) []) { (live.setInput 1 { count := 4 }) with latches := 2 }
    ((t.port.downstream.drop 8).take 32) =
      [130, 0, 2, 0, 0, 0, 0, 0x40, 0, 0, 0, 0, 0, 0, 0, 0, 0, 0, 0, 0, 0, 0, 0, 0, 0, 0, 0, 0, 0, 0, 0, 0] ∧
      t.inputs[1].count = 0 := by decide +kernel
/-- A sweep damaged in transit returns the counts. -/
theorem test_sweep_damaged :
    let t := out (.sweep { dest := 0, tag := 7, damage := 1 } 1 1 (room 32) []) (live.setInput 20 { count := 4, openLatch := true })
    t.inputs[20] = { count := 4, openLatch := true } ∧ t.port.damage = 1 := by decide +kernel

/-! ### Timers -/

theorem test_silence :
    let t := out .silenceExpiry (flipper (.holding flipDrive 4))
    t.node.st = .chainLost ∧ t.node.relay = false ∧ t.chans[4].act = .recovering 270000 ∧ t.now = 250000 := by decide +kernel
/-- A persistent rule of an armed group keeps the relay closed and the flipper held. -/
theorem test_silence_persistent :
    let t := out .silenceExpiry { ((flipper (.holding flipDrive 4)).setRule 0 { persistent := true }) with armed := 1 }
    t.node.relay = true ∧ t.chans[4].act = .holding flipDrive 4 := by decide +kernel
theorem test_settle : (out .settleExpiry { arming with mon := { supply := 48 } }).node.st = .live := by decide +kernel
theorem test_settle_trips :
    let t := out .settleExpiry { arming with mon := { supply := 47 } }
    t.node.st = .tripped ∧ t.mon.tripCause = some .supply ∧ t.latches = 0x4000 := by decide +kernel
/-- The bouncing button: the run begun at 10.50 ms makes the edge at 11.50 and not at 11.25. -/
theorem test_sample_edge :
    (out (.inputSample { levels := 0xFFFFFFF7 })
      { (live.setInput 3 { debounce := .fast, since := some 10500, raw := false }) with clocks := { sample := 11500 } }).inputs[3] =
      { debounce := .fast, closed := true, raw := false, count := 1, closeLatch := true } := by decide +kernel
theorem test_sample_no_edge :
    (out (.inputSample { levels := 0xFFFFFFF7 })
      { (live.setInput 3 { debounce := .fast, since := some 10500, raw := false }) with clocks := { sample := 11250 } }).inputs[3].closed =
      false := by decide +kernel
/-- The kick completes with the trigger closed: HOLDING at Heff 4, the hold-limit timer started, 2 units drawn. -/
theorem test_kick_ends :
    let t := out (.kickTimerExpiry 4) { (flipper (.kicking flipDrive 30 30000)).setInput 3 shut with inUse := 8 }
    t.chans[4].act = .holding { flipDrive with kind := .flip flipCtx 2 (some 10030000), began := 30000 } 4 ∧ t.inUse = 2 := by
  decide +kernel
theorem test_hold_limit :
    (out (.holdLimitExpiry 4) (flipper (.holding { flipDrive with kind := .flip flipCtx 2 (some 10014000) } 4))).chans[4].act =
      .recovering 10034000 := by decide +kernel
theorem test_recovery : (out (.recoveryExpiry 4) (flipper (.recovering 2420000))).chans[4].act = .idle := by decide +kernel
theorem test_kick_accrual :
    (out (.kickAccrual 14) (((live.setCoil 14 hotCoil).setHeat 14 { q := 1990 }).setChan 14 { act := .kicking pulseDrive 10 10000 })).heat[14].q =
      2000 := by decide +kernel
/-- The degraded flip of the manual: 40 in sixteenths a millisecond is 2 hu and 8 carried. -/
theorem test_hold_accrual :
    (out (.holdAccrual 14) (((live.setCoil 14 hotCoil).setHeat 14 { q := 1701 }).setChan 14 { act := .holding flipDrive 2 })).heat[14] =
      { q := 1703, f := 8 } := by decide +kernel
/-- The trimmed kick's first tick: 18600 falls by 581. -/
theorem test_cooling :
    (out .coolingTick ((live.setCoil 9 { l := 20000, a := 15000, s := 5 }).setHeat 9 { q := 18600 })).heat[9].q = 18019 := by
  decide +kernel
/-- The tick at 58 ms of the trimmed kick's hold: the 13th millisecond is charged, then Heff rises to 3. -/
theorem test_cooling_raises :
    let s := { ((live.setCoil 9 { enabled := true, p := 8, h := 6, l := 20000, a := 15000, s := 5, ck := 40 }).setHeat 9 { q := 18311 }).setChan 9
        { act := .holding { flipDrive with began := 45000, charged := 12 } 2 } with
      now := 57000, inUse := 1, clocks := { cooling := 58000 } }
    (out .coolingTick s).heat[9].q = 17744 ∧ (out .coolingTick s).inUse = 2 := by decide +kernel

/-- A RULE entry for channel 2. -/
def ruleEntry : Entry :=
  { channel := 2, cls := .rule, kind := .pulse, source := .rule 10, persistent := false, joined := 0, merged := 1, kReq := 20,
    wait := .budget, stale := some 25000 }

theorem test_stale :
    let t := out (.staleTimerExpiry 2 1) { live with queue := [ruleEntry] }
    t.queue = [] ∧ t.dropped = 1 ∧ t.latches = 4 ∧ t.now = 25000 := by decide +kernel
theorem test_interval :
    ((out (.intervalExpiry 0) ((live.setCoil 17 stepCoil).setTrain 0 (some bareTrain))).trains[0]).map (fun x => (x.issued, x.interval)) =
      some (5, some 260000) := by decide +kernel
theorem test_interval_ends :
    (out (.intervalExpiry 0) ((live.setCoil 17 stepCoil).setTrain 0 (some { bareTrain with issued := 6 }))).trains[0] = none := by
  decide +kernel

/-- The ones reel's context, finished and verified but for its timer. -/
def reelTrain : Train :=
  { state := .verify, owner := .reel 0 0, channel := 1, planned := 5, issued := 5, profile := { start := 60, floor := 40, ramp := 10 },
    verify := .running 340000 }

/-- A zeroing reel whose switch never closed is stuck. -/
theorem test_verify_stuck :
    let s := (live.setBank 0 { reels := [{ channel := 1, zero := 21 }], state := .zeroing }).setTrain 0 (some reelTrain)
    (out (.verifyExpiry 0) s).latches = 0x200 ∧ (out (.verifyExpiry 0) s).banks[0].state = .idle := by decide +kernel
theorem test_train_settle :
    ((out (.trainSettleExpiry 0) (withUnit.setTrain 0 (some
      { state := .settle, owner := .counter 1, channel := 13, dir := .down, planned := 3, profile := creditUnit.profile,
        settle := some 245000 }))).trains[0]).map (fun x => (x.state, x.issued, x.interval)) = some (.pulse, 1, some 325000) := by
  decide +kernel
theorem test_holdoff : (out (.holdoffExpiry 0) (live.setHoldoff 0 (some 5000))).holdoffs[0] = none := by decide +kernel

/-! ### Protection -/

theorem test_drive_sample :
    (out (.driveSample 91) (((live.setCoil 11 { k := 30, openFloor := 20, shortCeiling := 90 }).setChan 11
      { act := .kicking pulseDrive 30 30000 }))).guards[11].shortRun = 1 := by decide +kernel
theorem test_short_lock :
    let s := ((live.setCoil 11 { k := 30, openFloor := 20, shortCeiling := 90 }).setChan 11
      { act := .kicking pulseDrive 30 30000 }).setGuard 11 { shortRun := 1 }
    (out (.shortLock 91) s).chans[11].act = .locked ∧ (out (.shortLock 91) s).guards[11].cause = some .shorted := by decide +kernel
/-- The fifth kick of the broken lead. -/
theorem test_open_lock :
    let s := ((live.setCoil 11 { k := 30, recovery := 200, openFloor := 20, shortCeiling := 90 }).setChan 11
      { act := .kicking pulseDrive 30 30000 }).setGuard 11 { strikes := 2, verdict := .openSoFar }
    (out (.openLock 11) s).chans[11].act = .locked ∧ (out (.openLock 11) s).guards[11] = { strikes := 3, cause := some .opened } := by
  decide +kernel
theorem test_undriven : (out (.undrivenSample 0 6) live).guards[0].leakRun = 1 := by decide +kernel
theorem test_leak_trip :
    let t := out (.leakTrip 23 6) (live.setGuard 23 { leakRun := 4 })
    t.node.st = .tripped ∧ t.mon.tripChan = some 23 ∧ t.mon.tripCause = some .leak := by decide +kernel
theorem test_supply : (out (.supplyReading 80) live).mon = { supply := 80, lowRun := 1 } := by decide +kernel
/-- The supply that sinks: the fourth low reading, the budget 18, and the fiftieth below the floor. -/
theorem test_sag_set :
    let t := out (.sagSet 78) { live with mon := { lowRun := 3 } }
    t.mon.sag = true ∧ t.latches = 0x1000 ∧ budgetInForce t = 18 := by decide +kernel
theorem test_sag_clear :
    let t := out (.sagClear 90) { live with mon := { sag := true, goodRun := 19 } }
    t.mon.sag = false ∧ budgetInForce t = 24 := by decide +kernel
theorem test_floor_trip :
    let t := out (.supplyFloorTrip 46) { live with mon := { lowRun := 59, sag := true, floorRun := 49 } }
    t.node.st = .tripped ∧ t.mon.tripCause = some .supply ∧ t.mon.floorRun = 50 ∧ t.mon.lowRun = 60 := by decide +kernel
theorem test_temperature :
    let t := out (.temperatureReading 70) live
    t.mon.warm = true ∧ t.latches = 0x2000 := by decide +kernel
theorem test_heat_trip : (out (.heatTrip 95) { live with mon := { hotCount := 9, warm := true } }).node.st = .tripped := by
  decide +kernel

/-! ### The lamp clocks -/

/-- Blinking on a warm board, first half: lamps 20, 21 and 22 are driven at 12, 1 and 1. -/
theorem test_strobe :
    let s := { ((live.setLamp 20 { level := 12, mode := .blinkA }).setLamp 21 { level := 12, mode := .blinkB }) with
      mon := { warm := true }, settings := { warmLamp := 1 }, scan := { next := 2 } }
    (out .strobeSlot s).scan = { next := 3, slot := some 2, drive := [1, 1, 1, 1, 12, 1, 1, 1] } := by decide +kernel
theorem test_blink : (out .blinkHalfChange live).blink = { second := true, ends := 500000, period := 500 } := by decide +kernel
theorem test_chase :
    let t := out (.chaseExpiry 0) ringState
    ((t.lamps.toList.drop 40).take 6).map (·.level) = [0, 15, 0, 0, 8, 0] ∧ t.rings[0].timer = some 200000 := by decide +kernel

/-! ### Witnesses: for every statement with hypotheses, states and operands that meet them, clause by clause

Each theorem is named after its statement, and gives the hypotheses at values where a clause begins or ends. -/

theorem heard_live : Heard own live := by unfold Heard; decide +kernel
theorem calm_live : Calm live := by unfold Calm; decide +kernel

/-- A node at work: a flipper kicking and a pulse waiting. -/
def busy : State :=
  { (flipper (.kicking flipDrive 30 30000)) with inUse := 8, queue := [ruleEntry] }

theorem test_witness_EveryCommandCompletes :
    State.reset.port.silence = none ∧ State.reset.node.settle = none ∧ State.reset.chans[0].isKicking = false ∧
      State.reset.chans[23].isHolding = false ∧ State.reset.chans[0].driven = false ∧
      (∀ c : Chan, State.reset.chans[c].driven = false) ∧ State.reset.queue = [] ∧ State.reset.trains[11] = none ∧
      State.reset.holdoffs[31] = none ∧ State.reset.rings[3].timer = none ∧ busy.chans[4].driven = true := by decide +kernel
theorem test_witness_EveryCommandCompletes_recovery : ∀ ends, State.reset.chans[0].act ≠ .recovering ends := by
  intro ends h
  have h' : State.reset.chans[0].act = .idle := by decide +kernel
  rw [h'] at h
  cases h
theorem test_witness_OnlyTheirCommands : exec (.arm own 1) live = .next (out (.arm own 1) live) := rfl
theorem test_witness_StepsKeepRelay : RelayAgrees busy ∧ step busy = .next { busy with now := 1 } :=
  ⟨by unfold RelayAgrees; decide +kernel, rfl⟩
theorem test_witness_StepsDriveNothing : ColdWhileOpen arming ∧ ColdWhileOpen State.reset ∧ step State.reset = .next { State.reset with now := 1 } :=
  ⟨by unfold ColdWhileOpen; decide +kernel, by unfold ColdWhileOpen; decide +kernel, rfl⟩
theorem test_witness_StepsKeepHeat : HeatWithin busy ∧ HeatWithin ((live.setCoil 14 hotCoil).setHeat 14 { q := 2000, f := 15 }) ∧
    step busy = .next { busy with now := 1 } :=
  ⟨by unfold HeatWithin; decide +kernel, by unfold HeatWithin; decide +kernel, rfl⟩
theorem test_witness_StepsKeepLocks : LocksHaveCauses busy ∧ LocksHaveCauses ((flipper .locked).setGuard 4 { cause := some .manual }) ∧
    step busy = .next { busy with now := 1 } :=
  ⟨by unfold LocksHaveCauses; decide +kernel, by unfold LocksHaveCauses; decide +kernel, rfl⟩
theorem test_witness_StepsKeepBudget : BudgetIsDraws busy ∧ step busy = .next { busy with now := 1 } :=
  ⟨by unfold BudgetIsDraws; decide +kernel, rfl⟩
/-- Sixteen entries of class RULE, on sixteen channels. -/
def fullQueue : List Entry := ((List.finRange 24).take 16).map fun c => { ruleEntry with channel := c }

theorem test_witness_StepsKeepQueueAndCounts : QueueInOrder busy ∧ QueueInOrder { busy with queue := fullQueue } ∧
    CountsWithin busy ∧ CountsWithin { busy with dropped := 255 } ∧ step busy = .next { busy with now := 1 } :=
  ⟨by unfold QueueInOrder; decide +kernel, by unfold QueueInOrder; decide +kernel, by unfold CountsWithin; decide +kernel,
    by unfold CountsWithin; decide +kernel, rfl⟩
theorem test_witness_FramesReadBack :
    Instr.wf (.setLamps own 0 64 (List.replicate 64 15)) = true ∧
      (framePayload (.setLamps own 0 64 (List.replicate 64 15))).isSome = true := by decide +kernel
theorem test_witness_FramesAreForwardedOrCounted :
    framePayload (.go hurt) = some (1, hurt, [1]) ∧ hurt.damage ≠ 0 ∧ live.port.address ≠ 0 ∧
      framePayload (.loadInput other ⟨0, 0, 0⟩) = some (2, other, [3, 0, 0, 0]) ∧ other.damage = 0 ∧ other.dest ≠ 0 ∧
      other.dest ≠ live.port.address.setWidth 8 ∧ live.node.st ≠ .chainLost ∧ live.passDue = false ∧
      framePayload (.queryIdentity own 0 []) = some (3, own, [13, 0]) ∧ ({ live with port := { address := 0 } } : State).port.address = 0 ∧
      (List.replicate 240 (0 : Byte)).length ≤ 240 ∧
      framePayload (.queryIdentity { own with dest := 0 } 0 []) = some (3, { own with dest := 0 }, [13, 0]) ∧
      ({ own with dest := 0 } : Head).dest ≠ live.port.address.setWidth 8 ∧ ({ hurt with dest := 0 } : Head).damage ≠ 0 ∧ 7 < (8 : Byte).toNat ∧
      ([] : List Byte).length ≠ 32 * (1 : Byte).toNat := by decide +kernel
theorem test_witness_FramesAreForwardedOrCounted_row :
    Heard own live ∧ (room 239).length ≤ 239 ∧ (room 240).length ≤ 240 ∧ 19 < (20 : Byte).toNat ∧ 7 < (8 : Byte).toNat ∧
      [0, 4, 0, 2, 1, 1, 1, 8, 2, 4, 1, 2, 1, 1, 2, 2, 2, 2, 4][(19 : Byte).toNat - 1]? = some 4 ∧ (room 5).length ≠ 4 ∧
      [19, 17, 3, 12, 18, 15, 20][(7 : Byte).toNat - 1]? = some 20 ∧ (room 19).length ≠ 20 ∧ (19 : Byte) ≠ 0 ∧ (7 : Byte) ≠ 0 ∧
      ((6 : Byte) ≠ 1 ∧ (6 : Byte) ≠ 2 ∧ (6 : Byte) ≠ 3 ∧ (6 : Byte) ≠ 5) ∧ other.dest ≠ 0 ∧
      other.dest ≠ live.port.address.setWidth 8 ∧ hurt.damage ≠ 0 ∧ Instr.wf (.go own) = true ∧ (framePayload (.go own)).isSome = true := by
  simp only [Heard]; decide +kernel
theorem test_witness_BadAndAbandoned :
    live.port.address ≠ 0 ∧ (0 : Byte) ≠ crc8 [0xD2, 1, 3, 7, 3] ∧ 240 < (241 : Byte).toNat ∧ (1 : Byte) ≠ 3 ∧ (1 : Byte) ≠ 5 ∧
      (240 : Byte).toNat ≤ 240 ∧ ([1] : List Byte).length < (0 : Byte).toNat + 2 ∧ arrival [0xD2] = .cut ∧ live.reported = none ∧
      ∀ i : InputNo, live.inputs[i].count ≤ 15 := by decide +kernel
theorem test_witness_FirstGoodFrame :
    ([] : List Byte).length ≤ 240 ∧ other.damage = 0 ∧ own.damage = 0 ∧ (inState .chainLost).port.address ≠ 0 ∧
      (inState .chainLost).node.st = .chainLost ∧ framePayload (.go own) = some (1, own, [1]) ∧
      framePayload (.go other) = some (1, other, [1]) ∧ other.dest ≠ 0 ∧ other.dest ≠ (inState .chainLost).port.address.setWidth 8 ∧
      framePayload (.queryIdentity own 0 []) = some (3, own, [13, 0]) ∧
      framePayload (.sweep { own with dest := 0 } 1 1 (room 32) []) = some (5, { own with dest := 0 }, 1 :: 1 :: room 32) ∧
      (4 : Byte) ≠ 5 ∧ ({ own with dest := 0 } : Head).dest = 0 := by
  decide +kernel
theorem test_witness_GoActs :
    (Heard own (inState .safe) ∧ Calm (inState .safe)) ∧ (Heard own (inState .quiet) ∧ Calm (inState .quiet)) ∧
      (Heard own arming ∧ Calm arming) ∧ Heard own (inState .tripped) ∧ Calm (inState .tripped) := by
  simp only [Heard, Calm]; decide +kernel
theorem test_witness_QuietActs :
    Heard own live ∧ live.node.st = .live ∧ (∀ i : InputNo, (2 : BitVec 32).getLsbD i.val = true → live.inputs[i].closed = false) ∧
      (let s := (live.setInput 1 shut).setInput 31 shut
       Heard own s ∧ (0x80000002 : BitVec 32).getLsbD 1 = true ∧ s.inputs[1].closed = true ∧
         ∀ j : InputNo, j < 1 → (0x80000002 : BitVec 32).getLsbD j.val = true → s.inputs[j].closed = false) ∧
      Heard own (inState .quiet) ∧ Heard own (inState .tripped) := by
  simp only [Heard]; decide +kernel
theorem test_witness_ResetStops : Heard own live ∧ Heard own (inState .tripped) := by simp only [Heard]; decide +kernel
theorem test_witness_CoilWorkOutsideLive : Heard own arming ∧ arming.node.st ≠ .live := by simp only [Heard]; decide +kernel
theorem test_witness_PulseIsGranted :
    let s := (live.setCoil 23 hotCoil).setHeat 23 { q := 1700 }
    Heard own s ∧ s.node.st = .live ∧ 23 < (24 : Byte).toNat ∧ (23 : Byte).toNat = (23 : Chan).val ∧
      claimed bank298 1 = true ∧ (claimed live 23 = false ∧ live.coils[(23 : Chan)].enabled = false) ∧
      (let l := s.setChan 23 { act := .locked }
       claimed l 23 = false ∧ l.coils[(23 : Chan)].enabled = true ∧ l.chans[(23 : Chan)].act = .locked) ∧
      claimed s 23 = false ∧ s.coils[(23 : Chan)].enabled = true ∧ s.chans[(23 : Chan)].act = .idle ∧ Calm s ∧ s.node.relay = true ∧
      s.inUse + s.coils[(23 : Chan)].p ≤ budgetInForce s - s.settings.reserve ∧
      min 15 40 ≤ min 40 ((2000 - 1700) / 20) := by
  simp only [Heard, Calm]; decide +kernel
theorem test_witness_PulseWaits :
    let s := (live.setCoil 23 hotCoil).setHeat 23 { q := 1720 }
    let b : State := { live.setCoil 23 hotCoil with inUse := 11 }
    let r := (live.setCoil 23 hotCoil).setChan 23 { act := .recovering 5 }
    (Heard own s ∧ s.node.st = .live ∧ claimed s 23 = false ∧ s.coils[(23 : Chan)].enabled = true ∧ s.chans[(23 : Chan)].act = .idle ∧
        Calm s ∧ s.node.relay = true ∧ (2000 - 1720) / 20 < min 15 40) ∧
      (b.chans[(23 : Chan)].act = .idle ∧ min 15 40 ≤ min 40 (2000 / 20) ∧
        budgetInForce b - b.settings.reserve < b.inUse + b.coils[(23 : Chan)].p) ∧
      (r.chans[(23 : Chan)].act ≠ .idle ∧ r.chans[(23 : Chan)].act ≠ .locked ∧ claimed r 23 = false) := by
  simp only [Heard, Calm]; decide +kernel
theorem test_witness_Release :
    let w : State := { live with queue := [ruleEntry], node := { st := .safe } }
    Heard own (flipper (.holding flipDrive 4)) ∧ claimed (flipper (.holding flipDrive 4)) 4 = false ∧
      Calm (flipper (.holding flipDrive 4)) ∧ (flipper (.holding flipDrive 4)).chans[4].driven = true ∧ flipperCoil.recovery ≠ 0 ∧
      flipperCoil.openFloor = 0 ∧ claimed bank298 1 = true ∧ Heard own bank298 ∧ (Calm live ∧ live.chans[4].driven = false) ∧
      (Heard own w ∧ claimed w 2 = false ∧ w.chans[(2 : Chan)].driven = false ∧ w.node.relay = false ∧ w.held = []) := by
  simp only [Heard, Calm]; decide +kernel
theorem test_witness_Masks : Heard own { live with armed := 1 } := by simp only [Heard]; decide +kernel
theorem test_witness_Run :
    let s := live.setCoil 17 stepCoil
    let r := s.setTrain 0 (some bareTrain)
    let full := (List.finRange 12).foldl (fun s t => s.setTrain t (some { bareTrain with channel := 5 })) s
    Heard own s ∧ s.node.st = .live ∧ (17 : Byte).toNat = (17 : Chan).val ∧ claimed s 17 = false ∧ s.coils[17].enabled = true ∧
      s.chans[17].isLocked = false ∧ trainOn s 17 = none ∧ firstFree s = some 0 ∧
      ((∀ e ∈ s.queue, e.source ≠ .train 0) ∧ (0 : TrainNo) ∉ s.held) ∧
      (Heard own full ∧ trainOn full 17 = none ∧ firstFree full = none) ∧
      Heard own r ∧ trainOn r 17 = some 0 ∧ r.trains[0] = some bareTrain ∧ bareTrain.owner = .bare ∧ bareTrain.state ≠ .verify ∧
      bareTrain.planned + 255 ≤ 1023 ∧ 1023 < 1000 + max 1 (24 : Byte).toNat := by
  simp only [Heard]; decide +kernel
theorem test_witness_Run_refused :
    Heard own live ∧ live.node.st = .live ∧ 23 < (24 : Byte).toNat ∧ claimed bank298 1 = true ∧
      (claimed live 5 = false ∧ live.coils[(5 : Chan)].enabled = false) ∧
      (let s := flipper .locked
       claimed s 4 = false ∧ s.coils[(4 : Chan)].enabled = true ∧ s.chans[(4 : Chan)].isLocked = true) := by
  simp only [Heard]; decide +kernel
theorem test_witness_Cancel :
    let r := (live.setCoil 17 stepCoil).setTrain 0 (some bareTrain)
    let u := withUnit.setTrain 0 (some upTrain)
    let b := bank298.setTrain 0 (some reelTrain)
    (Heard own r ∧ claimed r 17 = false ∧ trainOn r 17 = some 0 ∧ r.trains[0] = some bareTrain) ∧
      (Heard own u ∧ trainOf u (.counter 1) = some 0) ∧ (Heard own b ∧ bankTrains b 0 ≠ []) ∧
      (claimed live 23 = false ∧ trainOn live 23 = none) ∧ 2 < (3 : Byte).toNat ∧ 23 < (24 : Byte).toNat ∧ 3 < (4 : Byte).toNat ∧
      claimed bank298 1 = true ∧ trainOf live (.counter 3) = none ∧ bankTrains live 3 = [] := by
  simp only [Heard]; decide +kernel
theorem test_witness_Add :
    Heard own bank298 ∧ bank298.node.st = .live ∧ 10 ^ 3 ≤ min (1000 : BitVec 24).toNat 99999 ∧
      min (999 : BitVec 24).toNat 99999 < 10 ^ bank298.banks[0].reels.length ∧ bank298.banks[0].state = .idle ∧
      bankTrains bank298 0 = [] ∧ bank298.banks[0].reels.length ≤ freeTrains bank298 ∧
      (∀ r ∈ bank298.banks[0].reels, r.position ≠ none ∧ bank298.coils[r.channel].enabled = true ∧
        bank298.chans[r.channel].isLocked = false) ∧
      (let z := bank298.setBank 0 { bank298.banks[0] with state := .zeroing }
       Heard own z ∧ z.banks[0].state = .zeroing) ∧
      (let k := bank298.setBank 0 (bank298.banks[0]).forgotten
       Heard own k ∧ k.banks[0].state ≠ .zeroing ∧ ∃ r ∈ k.banks[0].reels, r.position = none) := by
  simp only [Heard]; decide +kernel

/-- A bank of one reel in the middle of an add. -/
def adding : State :=
  (live.setBank 0 { reels := [{ channel := 1, zero := 21, position := some 3 }], state := .adding }).setTrain 0 (some reelTrain)

theorem test_witness_Add_adding :
    Heard own adding ∧ adding.banks[0].state = .adding ∧ (∀ r ∈ adding.banks[0].reels, r.position ≠ none) ∧
      ∀ (r : Nat) (k : TrainNo) (x : Train), r < adding.banks[0].reels.length → trainOf adding (.reel 0 r) = some k →
        adding.trains[k] = some x → x.planned - x.issued + 9 / 10 ^ r % 10 ≤ 100 ∧ x.planned + 9 / 10 ^ r % 10 ≤ 1023 := by
  have h1 : adding.banks[0].reels.length = 1 := by decide +kernel
  have h2 : trainOf adding (.reel 0 0) = some 0 := by decide +kernel
  have h3 : adding.trains[(0 : TrainNo)] = some reelTrain := by decide +kernel
  refine ⟨by simp only [Heard]; decide +kernel, by decide +kernel, by decide +kernel, ?_⟩
  intro r k x hr hk hx
  rw [h1] at hr
  obtain rfl : r = 0 := by omega
  obtain rfl : (0 : TrainNo) = k := Option.some.inj (h2.symm.trans hk)
  obtain rfl : reelTrain = x := Option.some.inj (h3.symm.trans hx)
  decide
theorem test_witness_Banks_refused :
    let o := adding.setTrain 0 (some { reelTrain with planned := 1023, issued := 1023 })
    let d := bank298.setCoil 2 {}
    let l := bank298.setChan 2 { act := .locked }
    let n : State := { bank298 with trains := Vector.replicate 12 (some { bareTrain with channel := 20 }) }
    3 < (4 : Byte).toNat ∧
      (trainOf o (.reel 0 0) = some 0 ∧ 1023 < 1023 + 9 / 10 ^ 0 % 10 ∧ 9 < 10 ^ o.banks[(0 : BankNo)].reels.length ∧
        (∀ r ∈ o.banks[(0 : BankNo)].reels, r.position ≠ none)) ∧
      (∀ r ∈ bank298.banks[(0 : BankNo)].reels, r.position ≠ none ∧ bank298.coils[r.channel].enabled = true) ∧
      (¬ ∀ r ∈ d.banks[(0 : BankNo)].reels, d.coils[r.channel].enabled = true) ∧
      (¬ ∀ r ∈ l.banks[(0 : BankNo)].reels, l.chans[r.channel].isLocked = false) ∧
      (n.banks[(0 : BankNo)].state = .idle ∧ bankTrains n 0 = [] ∧ freeTrains n < n.banks[(0 : BankNo)].reels.length) := by
  decide +kernel
theorem test_witness_Zero :
    Heard own bank298 ∧ bank298.banks[0].reels ≠ [] ∧ live.banks[3].reels = [] ∧ bank298.banks[0].state = .idle ∧
      bankTrains bank298 0 = [] ∧ 3 ≤ freeTrains bank298 ∧
      (∀ r ∈ bank298.banks[0].reels, bank298.coils[r.channel].enabled = true ∧ bank298.chans[r.channel].isLocked = false) ∧
      adding.banks[0].state = .adding ∧ adding.banks[0].reels.length ≤ (bankTrains adding 0).length ∧ Heard own adding ∧
      Heard own (bank298.setBank 0 { bank298.banks[0] with state := .zeroing }) := by
  simp only [Heard]; decide +kernel
theorem test_witness_Step :
    let u := withUnit.setUnit 1 { creditUnit with last := some (.down, 0) }
    let r := withUnit.setTrain 0 (some upTrain)
    Heard own u ∧ u.node.st = .live ∧ (1 : Byte).toNat = (1 : UnitNo).val ∧ u.units[1].inUse = true ∧ live.units[1].inUse = false ∧
      (withUnit.setInput 10 shut).closedByte 10 = true ∧ u.closedByte 10 = false ∧ trainOf u (.counter 1) = none ∧
      (12 : Byte).toNat = (12 : Chan).val ∧ u.coils[12].enabled = true ∧ u.chans[12].isLocked = false ∧ firstFree u = some 0 ∧
      u.units[1].last = some (.down, 0) ∧ u.now < 0 + u.units[1].settle * 1000 ∧
      Heard own r ∧ trainOf r (.counter 1) = some 0 ∧ r.trains[0] = some upTrain ∧ r.units[1].opposite = 0 ∧ upTrain.dir = .up ∧
      upTrain.state ≠ .verify ∧ upTrain.planned + 99 ≤ 1023 ∧ 1023 < 1000 + 99 ∧ (max (-99) (min (254 : Byte).toInt 99) : Int).natAbs < 5 - 2 := by
  simp only [Heard]; decide +kernel
theorem test_witness_Step_refused :
    let d := withUnit.setCoil 12 {}
    let l := withUnit.setChan 12 { act := .locked }
    let n : State := { withUnit with trains := Vector.replicate 12 (some { bareTrain with channel := 20 }) }
    withUnit.units[(1 : UnitNo)].inUse = true ∧ (12 : Byte).toNat = (12 : Chan).val ∧ withUnit.units[(1 : UnitNo)].up = 12 ∧
      withUnit.closedByte withUnit.units[(1 : UnitNo)].top = false ∧ d.coils[(12 : Chan)].enabled = false ∧
      (l.coils[(12 : Chan)].enabled = true ∧ l.chans[(12 : Chan)].isLocked = true) ∧
      (trainOf n (.counter 1) = none ∧ firstFree n = none ∧ n.chans[(12 : Chan)].isLocked = false) := by decide +kernel
theorem test_witness_Step_nets :
    let r := withUnit.setTrain 0 (some upTrain)
    let w := withUnit.setTrain 0 (some { upTrain with state := .wait, interval := none })
    let p := r.setUnit 1 { creditUnit with opposite := 3 }
    5 - 2 ≤ (max (-99) (min (253 : Byte).toInt 99) : Int).natAbs ∧ upTrain.state = .gap ∧
      (Heard own w ∧ trainOf w (.counter 1) = some 0 ∧ w.units[1].opposite = 0 ∧ w.closedByte 11 = false ∧ w.coils[(13 : Chan)].enabled = true ∧
        w.chans[(13 : Chan)].isLocked = false) ∧
      (Heard own p ∧ trainOf p (.counter 1) = some 0 ∧ p.trains[0] = some upTrain ∧ 0 < p.units[1].opposite ∧ upTrain.planned ≤ 1023 ∧
        (3 : Byte).toInt.natAbs ≤ p.units[1].opposite ∧ p.units[1].opposite < (4 : Byte).toInt.natAbs ∧ 1023 < 1000 + (99 - 3)) := by
  simp only [Heard]; decide +kernel
theorem test_witness_Lock :
    Heard own live ∧ (flipper .locked).chans[4].isLocked = true ∧ live.chans[4].isLocked = false ∧
      ∀ (k : TrainNo) (x : Train), live.trains[k] = some x → x.channel = 4 → trainOn live 4 = some k := by
  refine ⟨heard_live, by decide +kernel, by decide +kernel, fun k x h => ?_⟩
  have h' : ∀ k : TrainNo, live.trains[k] = none := by decide +kernel
  rw [h' k] at h
  cases h
theorem test_witness_Unlock :
    Heard own (flipper .locked) ∧ (flipper .locked).node.st ≠ .tripped ∧ (flipper .locked).chans[(4 : Chan)].act = .locked ∧
      Calm (flipper .locked) ∧ live.chans[23].isLocked = false ∧ 23 < (24 : Byte).toNat ∧ Heard own (inState .tripped) := by
  simp only [Heard, Calm]; decide +kernel
theorem test_witness_LampRuns :
    Heard own live ∧ ([15] : List Byte).length = (1 : Byte).toNat ∧ (63 : Byte).toNat ≤ 63 ∧ (63 : Byte).toNat + (1 : Byte).toNat ≤ 64 ∧
      (∀ m ∈ ([2] : List Byte), m.toNat ≤ 2) ∧ 63 < (64 : Byte).toNat ∧ 64 < (63 : Byte).toNat + (2 : Byte).toNat ∧
      ∃ m ∈ ([3] : List Byte), 2 < m.toNat := by
  simp only [Heard]; decide +kernel
theorem test_witness_Move :
    Heard own ringState ∧ ringState.rings[0].members ≠ [] ∧ ringState.rings[3].members = [] ∧ ringState.rings[0].members.Nodup ∧
      0 < (127 : Byte).toInt ∧ (0x80 : Byte).toInt < 0 ∧ 3 < (4 : Byte).toNat := by
  simp only [Heard]; decide +kernel
theorem test_witness_ClearCounts :
    own.damage = 0 ∧ live.port.address ≠ 0 ∧ own.dest = live.port.address.setWidth 8 ∧ live.node.st ≠ .chainLost ∧
      live.passDue = false ∧ (inState .chainLost).node.st = .chainLost := by decide +kernel
theorem test_witness_SettingsLoad : Heard own live ∧ Calm live := ⟨heard_live, calm_live⟩
/-- The reel fields of a bank record whose first reel names a switch that does not exist. -/
def oneReelWrong : List (Byte × Byte) := [(1, 32), (0, 0), (0, 0), (0, 0), (0, 0)]

theorem test_witness_CoilLoad :
    Heard own live ∧ (23 : Byte).toNat = (23 : Chan).val ∧ live.chans[(23 : Chan)].act = .idle ∧ trainOn live 23 = none ∧ Calm live ∧
      ((flipper (.recovering 5)).chans[(4 : Chan)].act ≠ .idle ∧ (flipper (.recovering 5)).chans[(4 : Chan)].act ≠ .locked) ∧
      trainOn (live.setTrain 0 (some bareTrain)) 17 ≠ none ∧
      (let l := (flipper .locked).setGuard 4 { strikes := 3, cause := some .opened }
       Heard own l ∧ l.chans[(4 : Chan)].act = .locked ∧ trainOn l 4 = none ∧ Calm l ∧ (l.guards[(4 : Chan)]).strikes = 3) := by
  simp only [Heard, Calm]; decide +kernel
theorem test_witness_Loads_waiting :
    let s : State := { live with queue := [ruleEntry], held := [0] }
    Heard own s ∧ s.chans[(2 : Chan)].act = .idle ∧ trainOn s 2 = none ∧ claimedBesideBank s 0 2 = false ∧ bankTrains s 0 = [] ∧
      claimedBesideUnit s 1 2 = false ∧ trainOf s (.counter 1) = none ∧ s.chans[(2 : Chan)].driven = false := by
  simp only [Heard]; decide +kernel
theorem test_witness_Loads_range :
    23 < (24 : Byte).toNat ∧ 3 < (4 : Byte).toNat ∧ 63 < (64 : Byte).toNat ∧
      (∃ p, oneReelWrong[0]? = some p ∧ 31 < p.2.toNat) ∧ oneReelWrong.length = 5 ∧ 0 < (1 : Byte).toNat ∧
      (List.replicate 16 (64 : Byte)).length = 16 := by decide +kernel
theorem test_witness_InputLoad :
    Heard own live ∧ 31 < (32 : Byte).toNat ∧ (31 : Byte).toNat = (31 : InputNo).val ∧ 1 < (2 : Byte).toNat ∧ 2 < (3 : Byte).toNat ∧
      (1 : Byte) = (if true then 1 else 0) ∧ (2 : Byte) = debounceCode .slow := by
  simp only [Heard]; decide +kernel
theorem test_witness_RuleLoad :
    Heard own live ∧ ActionLoaded ⟨31, 5, 0, 2, 7, 0, 1, 23, 255, 1, 3⟩ (.flip 23 none .stop 3) ∧
      (∀ c, (Action.flip 23 none .stop 3).channel? = some c → claimed live c = false) ∧
      ∃ c, (Action.pulse 1 0).channel? = some c ∧ claimed bank298 c = true :=
  ⟨heard_live, .inr (.inr (.inl ⟨rfl, rfl, 23, .stop, rfl, rfl, .inl ⟨rfl, rfl⟩⟩)), by decide +kernel, 1, rfl, by decide +kernel⟩

/-- A bank record of one reel, on channel 1. -/
def oneReel : BankRec := ⟨0, 1, 60, 30, 10, 0, [(1, 21), (0, 0), (0, 0), (0, 0), (0, 0)]⟩

theorem test_witness_BankLoad :
    Heard own live ∧ oneReel.reels.length = 5 ∧ [({ channel := 1, zero := 21 } : Reel)].length = min oneReel.width.toNat 5 ∧
      (∀ (i : Nat) (x : Reel) (p : Byte × Byte), [({ channel := 1, zero := 21 } : Reel)][i]? = some x → oneReel.reels[i]? = some p →
        x.position = none ∧ p.1.toNat = x.channel.val ∧ p.2.toNat = x.zero.val) ∧
      claimedBesideBank live 0 1 = false ∧ bankTrains live 0 = [] ∧ trainOn live 1 = none ∧ live.chans[1].driven = false ∧
      claimedBesideBank bank298 1 1 = true ∧ bankTrains (bank298.setTrain 0 (some reelTrain)) 0 ≠ [] ∧ Calm live := by
  refine ⟨heard_live, by decide, by decide, ?_, by decide +kernel, by decide +kernel, by decide +kernel, by decide +kernel,
    by decide +kernel, by decide +kernel, calm_live⟩
  intro i x p hx hp
  match i with
  | 0 =>
    obtain rfl : ({ channel := 1, zero := 21 } : Reel) = x := Option.some.inj hx
    obtain rfl : ((1, 21) : Byte × Byte) = p := Option.some.inj hp
    decide
  | i + 1 => cases hx
theorem test_witness_UnitLoad :
    Heard own live ∧ (1 : Byte).toNat = (1 : UnitNo).val ∧ trainOf live (.counter 1) = none ∧
      trainOf (withUnit.setTrain 0 (some upTrain)) (.counter 1) ≠ none ∧ 23 < (24 : Byte).toNat ∧ 31 < (32 : Byte).toNat ∧
      (22 : Byte).toNat = (22 : Chan).val ∧ (23 : Byte).toNat = (23 : Chan).val ∧ (31 : Byte).toNat = (31 : InputNo).val ∧
      claimedBesideUnit live 1 22 = false ∧ claimedBesideUnit live 1 23 = false ∧ claimedBesideUnit bank298 1 1 = true ∧
      (∀ c : Chan, c = 22 ∨ c = 23 → trainOn live c = none ∧ live.chans[c].driven = false) ∧ Calm live := by
  simp only [Heard, Calm]; decide +kernel
theorem test_witness_RingLoad :
    Heard own ringState ∧ (List.replicate 16 (63 : Byte)).length = 16 ∧ ([63] : List LampNo).length = min (1 : Byte).toNat 16 ∧
      ([63] : List LampNo).Nodup ∧ (∀ (l : LampNo) (o : RingNo), l ∈ ([63] : List LampNo) → o ≠ 1 → l ∉ ringState.rings[o].members) ∧
      (40 : LampNo) ∈ ringState.rings[0].members := by
  simp only [Heard]; decide +kernel
theorem test_witness_Queries :
    framePayload (.queryLampImage own 0 [0]) = some (3, own, 15 :: 0 :: [0]) ∧ own.dest = live.port.address.setWidth 8 ∧
      live.port.address ≠ 0 ∧ own.damage = 0 ∧ hurt.damage ≠ 0 ∧ live.node.st ≠ .chainLost ∧ live.passDue = false := by decide +kernel
theorem test_witness_Queries_raw :
    15 < (16 : Byte).toNat ∧ (room 238).length ≤ 238 ∧ ([9] : List Byte).length ≤ 1 ∧ own.dest = live.port.address.setWidth 8 ∧
      hurt.dest = live.port.address.setWidth 8 ∧ hurt.damage ≠ 0 ∧ own.damage = 0 := by decide +kernel
theorem test_witness_InputQueries :
    31 < (32 : Byte).toNat ∧ (31 : Byte).toNat = (31 : InputNo).val ∧ own.damage = 0 ∧ live.port.address ≠ 0 ∧
      own.dest = live.port.address.setWidth 8 ∧ (room 9).length = 9 := by decide +kernel
theorem test_witness_Answers :
    23 < (24 : Byte).toNat ∧ (23 : Byte).toNat = (23 : Chan).val ∧ 31 < (32 : Byte).toNat ∧ (31 : Byte).toNat = (31 : RuleNo).val ∧
      11 < (12 : Byte).toNat ∧ (11 : Byte).toNat = (11 : TrainNo).val ∧ 3 < (4 : Byte).toNat ∧ (3 : Byte).toNat = (3 : BankNo).val ∧
      live.trains[(11 : TrainNo)] = none ∧ (live.setTrain 11 (some bareTrain)).trains[(11 : TrainNo)] = some bareTrain ∧
      bareTrain.interval = some 200000 ∧ live.units[(3 : UnitNo)].inUse = false ∧ withUnit.units[(1 : UnitNo)].inUse = true := by
  decide +kernel
theorem test_witness_Sweeps :
    ({ own with dest := 0 } : Head).dest = 0 ∧ live.port.address ≠ 0 ∧ 1 ≤ (7 : Byte).toNat ∧ (7 : Byte).toNat ≤ 7 ∧
      (room 224).length = 32 * (7 : Byte).toNat ∧ ((1 : Byte).toNat ≤ live.port.address.toNat ∧
        live.port.address.toNat < (1 : Byte).toNat + (1 : Byte).toNat) ∧ ¬ (2 : Byte).toNat ≤ live.port.address.toNat ∧
      (∀ i : InputNo, live.inputs[i].count ≤ 15) ∧ live.node.st ≠ .chainLost ∧ live.passDue = false := by decide +kernel
theorem test_witness_Sweeps_during :
    let s : State := { live.setInput 20 { count := 4, debounce := .fast, since := some 10500, raw := false } with clocks := { sample := 11500 } }
    let x : Sample := { levels := 0xFFEFFFFF, order := [] }
    let u := sampleInputs x { s with inputs := s.inputs.map fun x => { x with count := 0, closeLatch := false, openLatch := false } }
    u.node.st ≠ .chainLost ∧ u.passDue = false ∧ u.inputs[(20 : InputNo)].count = 1 ∧ (sampleInputs x s).node.st ≠ .chainLost ∧
      (sampleInputs x s).passDue = false ∧
      (out (.sweep { dest := 0, tag := 7 } 1 1 (room 32) [x]) s).inputs[(20 : InputNo)].count = 1 ∧
      (out (.sweep { dest := 0, tag := 7, damage := 1 } 1 1 (room 32) [x]) s).inputs[(20 : InputNo)].count = 5 := by decide +kernel
theorem test_witness_Silence : live.port.silence = some 250000 := by decide +kernel
theorem test_witness_Settle :
    arming.node.settle = some 200000 ∧ arming.node.st = .arming ∧ arming.mon.supply.toNat < arming.settings.supplyFloor ∧
      ({ arming with mon := { supply := 48 } } : State).settings.supplyFloor ≤
        ({ arming with mon := { supply := 48 } } : State).mon.supply.toNat := by decide +kernel
theorem test_witness_Samples :
    let s := (live.setInput 3 { debounce := .fast, since := some 10500 }).setInput 4 { closed := true, since := some 0 }
    let t : State := { s with clocks := { sample := 11500 } }
    s.inputs[(3 : InputNo)].since = some 10500 ∧ timeFor s.inputs[(3 : InputNo)] ≤ t.clocks.sample - 10500 ∧
      11250 - 10500 < timeFor s.inputs[(3 : InputNo)] ∧
      ((false == t.inputs[(3 : InputNo)].closedHigh) ≠ t.inputs[(3 : InputNo)].closed) ∧
      ((true == t.inputs[(4 : InputNo)].closedHigh) ≠ t.inputs[(4 : InputNo)].closed) ∧ 4000 ≤ t.clocks.sample - 0 ∧
      (∀ i : InputNo, ((0xFFFFFFFF : BitVec 32).getLsbD i.val == live.inputs[i].closedHigh) = live.inputs[i].closed ∨
        live.inputs[i].since = none) := by decide +kernel

/-- That a rule fires on an edge, as `EdgesFireTheirRules` has it. -/
abbrev Firing (s : State) (i : InputNo) (close : Bool) (n : RuleNo) : Prop :=
  s.rules[n].trigger = i ∧ s.rules[n].onClose = close ∧ s.rules[n].action ≠ .inert ∧
    (s.node.st = .live ∨ (s.node.st = .chainLost ∧ s.rules[n].persistent = true)) ∧
    s.armed.getLsbD s.rules[n].group.val = true ∧ s.holdoffs[n] = none

/-- That it fires alone. -/
def firesAlone (s : State) (i : InputNo) (close : Bool) (n : RuleNo) : Bool :=
  decide (Firing s i close n ∧ ∀ m : RuleNo, m ≠ n → ¬ Firing s i close m)

/-- Rule 31 on input 3, its group armed. -/
def ruled (a : Action) (s : State) : State := { s.setRule 31 { trigger := 3, action := a, holdoff := 10 } with armed := 1 }

theorem test_witness_EdgesFire_sample :
    let s : State := { live.setInput 3 { debounce := .fast, since := some 10500, raw := false } with clocks := { sample := 11500 } }
    let reads := fun j : InputNo => (0xFFFFFFF7 : BitVec 32).getLsbD j.val == s.inputs[j].closedHigh
    reads 3 ≠ s.inputs[(3 : InputNo)].closed ∧ s.inputs[(3 : InputNo)].since = some 10500 ∧
      timeFor s.inputs[(3 : InputNo)] ≤ s.clocks.sample - 10500 ∧ (∀ j : InputNo, j ≠ 3 → reads j = s.inputs[j].closed) ∧
      consumers.Nodup ∧ consumers.length = 4 := by decide +kernel
theorem test_witness_EdgesFire_pulse :
    let p := ruled (.pulse 14 10) (live.setCoil 14 hotCoil)
    firesAlone p 3 true 31 = true ∧ p.passDue = false ∧ (∀ n : RuleNo, ¬ Firing live 3 true n) ∧
      (claimed (ruled (.pulse 1 0) bank298) 1 = true ∧ firesAlone (ruled (.pulse 1 0) bank298) 3 true 31 = true) ∧
      (claimed p 14 = false ∧ p.coils[(14 : Chan)].enabled = true ∧ (ruled (.pulse 15 0) live).coils[(15 : Chan)].enabled = false) ∧
      (p.setChan 14 { act := .locked }).chans[(14 : Chan)].act = .locked ∧
      p.chans[(14 : Chan)].act = .idle ∧ p.queue = [] ∧ p.held = [] ∧ p.node.relay = true ∧ min 15 10 ≤ kickFor hotCoil 0 10 ∧
      p.inUse + 6 ≤ budgetInForce p - p.settings.reserve := by decide +kernel
theorem test_witness_EdgesFire_pulse_waits :
    let p := ruled (.pulse 14 0) ((live.setCoil 14 hotCoil).setHeat 14 { q := 1720 })
    let b : State := { ruled (.pulse 14 0) (live.setCoil 14 hotCoil) with inUse := 11 }
    let r := p.setChan 14 { act := .recovering 5 }
    (firesAlone p 3 true 31 = true ∧ claimed p 14 = false ∧ p.chans[(14 : Chan)].act = .idle ∧ kickFor hotCoil 1720 40 < min 15 40) ∧
      (firesAlone b 3 true 31 = true ∧ min 15 40 ≤ kickFor hotCoil 0 40 ∧ budgetInForce b - b.settings.reserve < b.inUse + 6) ∧
      firesAlone r 3 true 31 = true ∧ r.chans[(14 : Chan)].act ≠ .idle ∧ r.chans[(14 : Chan)].act ≠ .locked := by decide +kernel
theorem test_witness_EdgesFire_flip :
    let f := ruled (.flip 4 (some 12) .rekick 2) (flipper .idle)
    let b := ruled (.flip 4 (some 12) .rekick 2) (flipper (.holding flipDrive 4))
    firesAlone f 3 true 31 = true ∧ claimed f 4 = false ∧ f.coils[(4 : Chan)].enabled = true ∧ f.chans[(4 : Chan)].act = .idle ∧ f.queue = [] ∧
      f.held = [] ∧ f.node.relay = true ∧ f.inputs[(12 : InputNo)].closed = false ∧ flipperCoil.kMin ≤ kickFor flipperCoil 0 30 ∧
      f.inUse + 8 ≤ budgetInForce f ∧ firesAlone b 3 true 31 = true ∧ b.chans[(4 : Chan)].running? ≠ none := by decide +kernel
theorem test_witness_EdgesFire_flip_waits :
    let f : State := { ruled (.flip 4 (some 12) .rekick 2) (flipper .idle) with inUse := 17 }
    let r := ruled (.flip 4 (some 12) .rekick 2) (flipper (.recovering 5))
    (firesAlone f 3 true 31 = true ∧ f.inputs[(12 : InputNo)].closed = false ∧ flipperCoil.kMin ≤ kickFor flipperCoil 0 30 ∧
        budgetInForce f < f.inUse + 8) ∧
      firesAlone r 3 true 31 = true ∧ r.chans[(4 : Chan)].act ≠ .idle ∧ r.chans[(4 : Chan)].act ≠ .locked ∧
      r.chans[(4 : Chan)].running? = none := by decide +kernel
theorem test_witness_EdgesFire_step :
    let u := ruled (.step 1 (-99)) withUnit
    firesAlone u 3 true 31 = true ∧ u.units[(1 : UnitNo)].inUse = true ∧ u.closedByte 11 = false ∧ (u.setInput 11 shut).closedByte 11 = true ∧
      trainOf u (.counter 1) = none ∧ (13 : Byte).toNat = (13 : Chan).val ∧ u.coils[(13 : Chan)].enabled = true ∧
      u.chans[(13 : Chan)].isLocked = false ∧ firstFree u = some 0 ∧ firesAlone (ruled (.step 1 0) live) 3 true 31 = true ∧
      (ruled (.step 1 1) live).units[(1 : UnitNo)].inUse = false := by decide +kernel
theorem test_witness_EdgesFire_add :
    let a := ruled (.add 0 15) bank298
    firesAlone a 3 true 31 = true ∧ 15 < 10 ^ a.banks[(0 : BankNo)].reels.length ∧ a.banks[(0 : BankNo)].state = .idle ∧ bankTrains a 0 = [] ∧
      a.banks[(0 : BankNo)].reels.length ≤ freeTrains a ∧
      (∀ x ∈ a.banks[(0 : BankNo)].reels,
        x.position ≠ none ∧ a.coils[x.channel].enabled = true ∧ a.chans[x.channel].isLocked = false) ∧
      10 ^ a.banks[(0 : BankNo)].reels.length ≤ 1000 ∧ firesAlone (ruled (.add 0 1000) bank298) 3 true 31 = true ∧
      firesAlone (ruled (.add 0 0) live) 3 true 31 = true ∧
      (a.setBank 0 { a.banks[(0 : BankNo)] with state := .zeroing }).banks[(0 : BankNo)].state = .zeroing ∧
      ∃ x ∈ (a.setBank 0 (a.banks[(0 : BankNo)]).forgotten).banks[(0 : BankNo)].reels, x.position = none := by
  decide +kernel

/-- A property of flip contexts that the channels but one have none of. -/
theorem none_named {s : State} {c : Chan} (p : FlipContext → Prop)
    (h : ∀ c' : Chan, c' ≠ c → s.chans[c'].running? = none ∧ s.chans[c'].waiting = none) :
    ∀ (c' : Chan) (x : FlipContext), c' ≠ c → s.chans[c'].running? = some x ∨ s.chans[c'].waiting = some x → ¬ p x := by
  intro c' x hc hx
  rw [(h c' hc).1, (h c' hc).2] at hx
  cases hx with
  | inl hx => cases hx
  | inr hx => cases hx

theorem test_witness_EdgesAct_channel (p : FlipContext → Prop) :
    let w := live.setChan 4 { waiting := some flipCtx }
    let k := flipper (.kicking flipDrive 30 30000)
    let h := flipper (.holding flipDrive 4)
    let z := flipper (.holding { flipDrive with kind := .flip flipCtx 0 none } 4)
    let m := { h with mon := { sag := true }, inUse := 12 }
    (∀ s ∈ [w, k, h, z, m], ∀ (c' : Chan) (x : FlipContext), c' ≠ 4 → s.chans[c'].running? = some x ∨ s.chans[c'].waiting = some x → ¬ p x) ∧
      (flipperCoil.openFloor = 0 ∧ flipperCoil.recovery ≠ 0) ∧ flipCtx.trigger = 3 ∧ flipCtx.eos = some 12 ∧ flipCtx.mode = .rekick ∧
      (w.chans[(4 : Chan)].waiting = some flipCtx ∧ w.chans[(4 : Chan)].running? = none) ∧
      (Calm k ∧ k.chans[(4 : Chan)].act = .kicking flipDrive 30 30000 ∧ k.chans[(4 : Chan)].waiting = none ∧
        k.inputs[(3 : InputNo)].closed = false ∧ (k.setInput 3 shut).inputs[(3 : InputNo)].closed = true ∧ 0 < dutyFor k flipperCoil 0) ∧
      (Calm h ∧ h.node.relay = true ∧ h.chans[(4 : Chan)].act = .holding flipDrive 4 ∧ flipperCoil.kMin ≤ kickFor flipperCoil 0 30 ∧
        h.inUse - drawFor flipperCoil 4 + 8 ≤ budgetInForce h ∧ m.inUse - drawFor flipperCoil 4 + 8 ≤ budgetInForce m ∧
        budgetInForce { m with inUse := 13 } < 13 - drawFor flipperCoil 4 + 8) ∧
      z.chans[(4 : Chan)].act = .holding { flipDrive with kind := .flip flipCtx 0 none } 4 ∧
      (3 : InputNo) ≠ 12 ∧ kickFor { hotCoil with kMin := 15 } 1940 40 < 15 := by
  refine ⟨fun s hs => none_named p ?_, by simp only [Calm]; decide +kernel⟩
  revert s
  decide +kernel
theorem test_witness_EdgesAct_units :
    let u := withUnit.setTrain 0 (some upTrain)
    let w := withUnit.setTrain 0 (some { upTrain with state := .wait, interval := none })
    let z := (live.setBank 0 { reels := [{ channel := 1, zero := 21 }], state := .zeroing }).setTrain 0
      (some { reelTrain with state := .gap, issued := 3, verify := .stopped })
    (u.units[(1 : UnitNo)].inUse = true ∧ creditUnit.top ≠ creditUnit.zero ∧ creditUnit.top.toNat = (10 : InputNo).val ∧
        trainOf u (.counter 1) = some 0 ∧ u.trains[(0 : TrainNo)] = some upTrain ∧ upTrain.dir = .up ∧ upTrain.state = .gap) ∧
      (trainOf w (.counter 1) = some 0 ∧ upTrain.issued < upTrain.planned ∧ w.units[(1 : UnitNo)].opposite = 0 ∧
        ∀ u' : UnitNo, u' ≠ 1 → w.units[u'].inUse = false) ∧
      (z.banks[(0 : BankNo)].state = .zeroing ∧ z.banks[(0 : BankNo)].reels[0]? = some { channel := 1, zero := 21 } ∧
        trainOf z (.reel 0 0) = some 0) ∧
      (Calm (inState .quiet) ∧ (inState .quiet).passDue = false ∧ (0x80000000 : BitVec 32).getLsbD (31 : InputNo).val = true ∧
        (0x80000000 : BitVec 32).getLsbD (30 : InputNo).val = false) := by
  simp only [Calm]; decide +kernel

/-- A full queue of sixteen waiting pulses of class ORDER. -/
def fullOrders : List Entry := ((List.finRange 24).take 16).map fun c => { ruleEntry with channel := c, cls := .order, source := .order 1 }

/-- A full queue of sixteen step pulses. -/
def fullSteps : List Entry :=
  ((List.finRange 24).take 16).map fun c => { ruleEntry with channel := c, cls := .step, kind := .stepPulse, source := .train 0, stale := none }

theorem test_witness_Requests :
    let r := fun q => { live.setCoil 17 stepCoil with queue := q }
    QueueInOrder (r fullOrders) ∧ QueueInOrder (r fullQueue) ∧ QueueInOrder (r fullSteps) ∧ QueueInOrder (r [ruleEntry]) ∧
      (r fullOrders).queue.length = 16 ∧ (r fullQueue).queue.length = 16 ∧ (r fullSteps).queue.length = 16 ∧ [ruleEntry].length < 16 ∧
      (∃ x ∈ (r fullOrders).queue, x.channel = 5 ∧ x.cls = .order) := by
  simp only [QueueInOrder]; decide +kernel
theorem test_witness_Requests_full :
    let r := fun q => { live.setCoil 17 stepCoil with queue := q }
    (∃ x ∈ (r fullOrders).queue, x.cls = .order) ∧
      (∃ x ∈ (r fullQueue).queue, x.cls = .rule) ∧ (∀ x ∈ (r fullQueue).queue, x.cls ≠ .order) ∧
      (∀ x ∈ (r fullOrders).queue, ¬ (x.channel = 17 ∧ x.cls = .order)) ∧
      (∀ x ∈ (r fullSteps).queue, x.cls ≠ .rule ∧ x.cls ≠ .order ∧ ¬ (x.channel = 4 ∧ x.cls = .flip)) ∧
      (∀ x ∈ (r fullSteps).queue, x.cls ≠ .order ∧ ¬ (x.channel = 17 ∧ x.cls = .step)) ∧
      (Heard own (r fullSteps) ∧ (r fullSteps).node.st = .live ∧ claimed (r fullSteps) 17 = false ∧ (r fullSteps).coils[(17 : Chan)].enabled = true ∧
        (r fullSteps).chans[(17 : Chan)].isLocked = false ∧ trainOn (r fullSteps) 17 = none ∧ firstFree (r fullSteps) = some 0) ∧
      Heard own (r fullOrders) := by
  simp only [Heard]; decide +kernel
theorem test_witness_Requests_held :
      (let r := fun q => { live.setCoil 17 stepCoil with queue := q }
       let h := { (r [ruleEntry]).setTrain 0 (some { bareTrain with held := true }) with held := [0] }
       h.held = [0] ∧ h.trains[(0 : TrainNo)] = some { bareTrain with held := true } ∧ QueueInOrder h ∧ h.queue.length < 16 ∧
         ∀ e ∈ h.queue, ¬ (e.channel = bareTrain.channel ∧ e.cls = .step)) := by
  simp only [QueueInOrder]; decide +kernel

/-- The flipper's waiting entry. -/
def flipEntry : Entry :=
  { channel := 4, cls := .flip, kind := .flip, source := .rule 0, persistent := true, joined := 0, merged := 1, kReq := 30,
    wait := .channelBusy, stale := some 4000 }

theorem test_witness_Passes :
    let f := fun k => { (live.setCoil 4 k).setChan 4 { act := .recovering 20000, waiting := some flipCtx } with queue := [flipEntry] }
    let s := f flipperCoil
    let e := s.setInput 12 shut
    let hot := { flipperCoil with l := 2000, a := 1000, ck := 100 }
    (s.chans[(4 : Chan)].act = .recovering 20000 ∧ s.chans[(4 : Chan)].waiting = some flipCtx ∧ s.queue = [flipEntry] ∧ s.held = [] ∧
        s.node.relay = true) ∧
      (s.inputs[(12 : InputNo)].closed = false ∧ e.inputs[(12 : InputNo)].closed = true) ∧
      (flipperCoil.kMin ≤ kickFor flipperCoil 0 30 ∧ s.inUse + 8 ≤ budgetInForce s ∧ budgetInForce s < 17 + 8) ∧
      (0 < dutyFor e flipperCoil 0 ∧ e.inUse + drawFor flipperCoil (dutyFor e flipperCoil 0) ≤ budgetInForce e ∧
        budgetInForce e < 23 + drawFor flipperCoil (dutyFor e flipperCoil 0)) ∧
      ({ flipperCoil with h := 0 } : Coil).h = 0 ∧
      (kickFor hot 1500 30 < hot.kMin ∧ 0 < dutyFor (f hot) hot 1500 ∧ dutyFor (f hot) hot 2000 = 0 ∧ 0 < hot.h ∧
        kickFor hot 2000 30 < hot.kMin) ∧
      (let r := { (flipper (.holding flipDrive 4)).setChan 5 { act := .recovering 20000 } with
         inUse := 2, queue := [{ flipEntry with kind := .rekick }] }
       (4 : Chan) ≠ 5 ∧ r.chans[(5 : Chan)].act = .recovering 20000 ∧ r.chans[(4 : Chan)].act = .holding flipDrive 4 ∧
         r.inUse - drawFor flipperCoil 4 + 8 ≤ budgetInForce r ∧ budgetInForce r < 19 - drawFor flipperCoil 4 + 8) := by
  decide +kernel
theorem test_witness_Passes_pulses :
    let e := { ruleEntry with channel := 14, kReq := 40 }
    let f := fun (e : Entry) (q : Nat) =>
      { ((live.setCoil 14 hotCoil).setHeat 14 { q := q }).setChan 14 { act := .recovering 20000 } with queue := [e] }
    let p := f { e with kind := .stepPulse, cls := .step, source := .train 0 } 1200
    let t := p.setTrain 0 (some { bareTrain with channel := 14 })
    ((f e 1720).chans[(14 : Chan)].act = .recovering 20000 ∧ (f e 1720).held = [] ∧ (f e 1720).node.relay = true ∧
        kickFor hotCoil 1720 40 < min 15 40) ∧
      (min 15 40 ≤ kickFor hotCoil 1700 40 ∧ (f e 1700).inUse + 6 ≤ budgetInForce (f e 1700) - (f e 1700).settings.reserve ∧
        budgetInForce (f e 1700) - (f e 1700).settings.reserve < 11 + 6) ∧
      (kickFor hotCoil 1201 40 < 40 ∧ 40 ≤ kickFor hotCoil 1200 40 ∧ t.trains[(0 : TrainNo)] = some { bareTrain with channel := 14 }) ∧
      (let b := p.setChan 5 { act := .recovering 20000 }
       (14 : Chan) ≠ 5 ∧ b.chans[(5 : Chan)].act = .recovering 20000 ∧ b.chans[(14 : Chan)].act ≠ .idle ∧
         b.chans[(14 : Chan)].isHolding = false) ∧
      ((inState .safe).setChan 5 { act := .recovering 20000 }).node.relay = false := by
  decide +kernel
theorem test_witness_KicksAndHolds :
    let k := (flipper (.kicking flipDrive 30 30000)).setInput 3 shut
    let p := flipper (.kicking pulseDrive 30 30000)
    let h := flipper (.holding { flipDrive with kind := .flip flipCtx 2 (some 10014000) } 4)
    let r := flipper (.kicking { flipDrive with kind := .flip flipCtx 1 (some 10014000) } 30 30000)
    let hot := { flipperCoil with l := 2000, a := 1000, ck := 20 }
    (Calm k ∧ Calm p ∧ Calm h ∧ Calm r) ∧ flipperCoil.openFloor = 0 ∧ flipperCoil.recovery ≠ 0 ∧ 0 < flipperCoil.h ∧
      k.chans[(4 : Chan)].act = .kicking flipDrive 30 30000 ∧ k.now ≤ 30000 ∧ k.inputs[flipCtx.trigger].closed = true ∧
      p.inputs[flipCtx.trigger].closed = false ∧ pulseDrive.kind = .pulse ∧ p.chans[(4 : Chan)].act = .kicking pulseDrive 30 30000 ∧
      0 < dutyFor k flipperCoil (heatAtKickEnd flipperCoil 0 flipDrive 30000) ∧
      dutyFor (k.setCoil 4 hot) hot (heatAtKickEnd hot 1990 { flipDrive with charged := 29 } 30000) = 0 := by
  simp only [Calm]; decide +kernel
/-- A zeroing waits for a kick left over from the add it cut, which then moves no reel (R116, R117). -/
theorem test_leftover_kick :
    let z := (adding.setBank 0 { reels := [{ channel := 1, zero := 21, position := some 0 }], state := .zeroing }).setChan 1
      { act := .kicking stepDrive 20 2000000 }
    let s := out (.verifyExpiry 0) (z.setInput 21 shut)
    let t := out (.kickTimerExpiry 1) s
    s.banks[0].state = .zeroing ∧ t.banks[0].state = .idle ∧ t.banks[0].reels.map (·.position) = [some 0] ∧ t.trains[0] = none := by
  decide +kernel
theorem test_witness_StepPulses :
    let s := (adding.setTrain 0 (some { reelTrain with state := .gap, inFlight := true })).setChan 1 { act := .kicking stepDrive 20 20000 }
    let top := (s.setBank 0 { reels := [{ channel := 1, zero := 21, position := some 9 }], state := .adding })
    let u := withUnit.setChan 12 { act := .kicking stepDrive 20 20000 }
    let lost : Coil := { stepCoil with openFloor := 20 }
    let open_ : Guard := { strikes := 2, verdict := .openSoFar }
    s.chans[(1 : Chan)].act = .kicking stepDrive 20 20000 ∧ stepDrive.kind = .stepPulse ∧ s.coils[(1 : Chan)].openFloor = 0 ∧
      reelOf s 1 = some (0, 0) ∧ unitOn s 1 = none ∧ s.banks[(0 : BankNo)].state = .adding ∧
      (trainOf s (.reel 0 0) = some 0 ∧ (s.trains[(0 : TrainNo)]).map (·.inFlight) = some true) ∧
      (top.banks[(0 : BankNo)].reels[0]?).map (·.position) = some (some 9) ∧ 0 + 1 = top.banks[(0 : BankNo)].reels.length ∧
      (top.setBank 0 { top.banks[(0 : BankNo)] with state := .zeroing }).banks[(0 : BankNo)].state ≠ .adding ∧
      reelOf u 12 = none ∧ unitOn u 12 = some 1 ∧ u.units[(1 : UnitNo)].position = some 20 ∧
      (let l := (u.setCoil 12 lost).setGuard 12 open_
       l.coils[(12 : Chan)].openFloor ≠ 0 ∧ l.guards[(12 : Chan)].verdict = .openSoFar ∧ 2 ≤ l.guards[(12 : Chan)].strikes ∧
         unitOn l 12 = some 1) ∧
      (let l := (s.setCoil 1 lost).setGuard 1 open_
       l.guards[(1 : Chan)].verdict = .openSoFar ∧ reelOf l 1 = some (0, 0) ∧ unitOn l 1 = none ∧ trainOn l 1 = some 0 ∧
         (l.trains[(0 : TrainNo)]).map (·.owner) = some (.reel 0 0)) ∧
      Heard own s ∧ Heard own u ∧ bankTrains s 0 ≠ [] := by simp only [Heard]; decide +kernel
/-- The carry of the manual's sequence: the ones reel passes from 9 to 0 with the tens reel's context beside it. -/
theorem test_witness_StepPulses_carry :
    let s := fun (pos : Option (Fin 10)) (planned : Nat) =>
      (((bank298.setBank 0 { bank298.banks[(0 : BankNo)] with
        reels := [{ channel := 1, zero := 21, position := some 9 }, { channel := 2, zero := 22, position := pos }], state := .adding }).setTrain 0
        (some { reelTrain with inFlight := true })).setTrain 1 (some { reelTrain with owner := .reel 0 1, channel := 2, planned := planned, issued := 1 })).setChan 1
        { act := .kicking stepDrive 20 20000 }
    (trainOf (s (some 4) 1022) (.reel 0 0) = some 0 ∧ reelOf (s (some 4) 1022) 1 = some (0, 0) ∧ unitOn (s (some 4) 1022) 1 = none ∧ trainOf (s (some 4) 1022) (.reel 0 1) = some 1 ∧
        (s (some 4) 1022).banks[(0 : BankNo)].reels[0 + 1]? = some { channel := 2, zero := 22, position := some 4 } ∧ 1022 + 1 ≤ 1023 ∧ 1 ≤ 1022) ∧
      (trainOf (s none 3) (.reel 0 1) = some 1 ∧ (s none 3).banks[(0 : BankNo)].state = .adding) ∧
      (trainOf (s (some 4) 1023) (.reel 0 1) = some 1 ∧ 1023 < 1023 + 1) := by
  decide +kernel
/-- A bank whose kick on channel 1 ends: its contexts are finished, with no other kick on its channels, and with one on channel 2. -/
theorem test_witness_StepPulses_return :
    let one : Reel := { channel := 1, zero := 21, position := some 0 }
    let two_ : Reel := { channel := 2, zero := 22, position := some 0 }
    let done : Train := { reelTrain with verify := .expired }
    let k := fun (st : BankState) (reels : List Reel) (x : Train) =>
      ((live.setBank 0 { reels := reels, state := st }).setTrain 0 (some x)).setChan 1 { act := .kicking stepDrive 20 20000 }
    let s := k .zeroing [one, two_] done
    let a := k .adding [one] { done with inFlight := true }
    let o := s.setChan 2 { act := .kicking stepDrive 20 20000 }
    s.banks[(0 : BankNo)].state ≠ .idle ∧ s.banks[(0 : BankNo)].state ≠ .adding ∧ s.banks[(0 : BankNo)].reels[0]? = some one ∧
      reelOf s 1 = some (0, 0) ∧ unitOn s 1 = none ∧ bankTrains s 0 = [0] ∧ s.trains[(0 : TrainNo)] = some done ∧ done.issued = done.planned ∧
      done.verify = .expired ∧ done.inFlight = false ∧ (∀ z ∈ [one, two_], z.channel ≠ 1 → s.chans[z.channel].isKicking = false) ∧
      (∃ z ∈ [one, two_], z.channel ≠ 1 ∧ o.chans[z.channel].isKicking = true) ∧ one.position ≠ some 9 ∧
      a.banks[(0 : BankNo)].state = .adding ∧ trainOn a 1 = some 0 ∧ s.coils[(1 : Chan)].openFloor = 0 := by decide +kernel
theorem test_witness_RecoveryStaleHoldoff :
    (flipper (.recovering 0)).chans[(4 : Chan)].act = .recovering 0 ∧ Calm (flipper (.recovering 0)) ∧
      (flipper (.recovering 0)).passDue = false ∧ busy.queue.find? (fun x => x.channel == 2 && x.cls == clsOf 1) = some ruleEntry ∧
      ruleEntry.stale = some 25000 ∧ clsOf 1 ≠ .step ∧ (live.setHoldoff 31 (some 5)).holdoffs[(31 : RuleNo)] = some 5 := by
  simp only [Calm]; decide +kernel
theorem test_witness_DriveHeats :
    let hot := (live.setCoil 14 hotCoil).setHeat 14 { q := 1999 }
    let k := hot.setChan 14 { act := .kicking pulseDrive 10 10000 }
    let h := hot.setChan 14 { act := .holding flipDrive 2 }
    hot.heat[(14 : Chan)].q ≤ hotCoil.l ∧ k.chans[(14 : Chan)].act = .kicking pulseDrive 10 10000 ∧ pulseDrive.charged < 10 ∧
      h.chans[(14 : Chan)].act = .holding flipDrive 2 ∧ Calm h ∧ h.passDue = false ∧ 0 < hotCoil.l ∧ 1998 + (20 * 2 + 0) / 16 ≤ hotCoil.l ∧
      hotCoil.l < 1999 + (20 * 2 + 0) / 16 ∧ h.now ≤ flipDrive.began + (flipDrive.charged + 1) * 1000 ∧ hotCoil.recovery ≠ 0 ∧
      flipperCoil.l = 0 := by
  simp only [Calm]; decide +kernel
theorem test_witness_Cooling :
    let h := fun q e => (((live.setCoil 14 hotCoil).setHeat 14 { q := q }).setChan 14 { act := .holding flipDrive e })
    let two_ := ((h 1250 5).setCoil 15 hotCoil).setChan 15 { act := .holding { flipDrive with began := 15000 } 8 }
    (∀ c : Chan, live.chans[c].driven = false) ∧ Calm live ∧ live.passDue = false ∧ Calm (h 1250 6) ∧ Calm two_ ∧
      (∀ c : Chan, c ≠ 14 → c ≠ 15 → two_.chans[c].driven = false) ∧
      flipDrive.began + (flipDrive.charged + 1) * 1000 ≠ two_.clocks.cooling ∧ 15000 + (0 + 1) * 1000 = two_.clocks.cooling ∧
      0 + (hotCoil.ck * 8 + 0) / 16 ≤ hotCoil.l ∧
      dutyFor (h 1250 6) hotCoil 1211 = 6 ∧ dutyFor (h 1290 8) hotCoil 1250 < 8 ∧ 5 < dutyFor (h 1250 5) hotCoil 1211 ∧
      (h 1250 5).inUse - drawFor hotCoil 5 + drawFor hotCoil 6 ≤ budgetInForce (h 1250 5) ∧
      budgetInForce { h 1250 5 with settings := { budget := 1, reserve := 0 } } < (h 1250 5).inUse - drawFor hotCoil 5 + drawFor hotCoil 6 ∧
      dutyFor (h 2000 1) { hotCoil with s := 6 } 1969 = 0 := by
  simp only [Calm]; decide +kernel
theorem test_witness_Intervals :
    let b := (live.setCoil 17 stepCoil).setTrain 0 (some bareTrain)
    let u := withUnit.setTrain 0 (some { upTrain with planned := 2 })
    let z := (adding.setBank 0 { adding.banks[0] with state := .zeroing }).setTrain 0 (some { reelTrain with state := .gap, interval := some 5, verify := .stopped })
    let q := withUnit.setTrain 0 (some { upTrain with state := .settle, interval := none, settle := some 245000 })
    b.trains[(0 : TrainNo)] = some bareTrain ∧ bareTrain.interval = some 200000 ∧ Calm b ∧ bareTrain.issued < bareTrain.planned ∧
      u.trains[(0 : TrainNo)] = some { upTrain with planned := 2 } ∧ Calm u ∧ 0 < upTrain.issued ∧ u.units[(1 : UnitNo)].opposite = 0 ∧
      z.banks[(0 : BankNo)].state = .zeroing ∧ reelTrain.planned ≤ reelTrain.issued ∧ reelTrain.owner = .reel 0 0 ∧ Calm z ∧
      (q.trains[(0 : TrainNo)]).bind (·.settle) = some 245000 ∧ Calm q ∧
      (b.node.relay = true ∧ b.chans[(17 : Chan)].act = .idle ∧ kickFor stepCoil 0 20 = 20 ∧
        b.inUse + 2 ≤ budgetInForce b - b.settings.reserve) ∧
      (b.setChan 17 { act := .recovering 5 }).chans[(17 : Chan)].act ≠ .idle ∧
      (let a := adding.setTrain 0 (some { reelTrain with state := .gap, issued := 4, interval := some 5, verify := .stopped })
       (a.banks[(0 : BankNo)].reels[0]?).map (·.position) = some (some 3) ∧ a.inputs[(21 : InputNo)].closed = decide ((3 : Fin 10) = 0) ∧
         4 < reelTrain.planned ∧ Calm a) := by
  simp only [Calm]; decide +kernel
theorem test_witness_Reels :
    let x : Train := { reelTrain with state := .gap, issued := 4, interval := some 5, verify := .stopped }
    let s := adding.setTrain 0 (some x)
    let z := (adding.setBank 0 { adding.banks[0] with state := .zeroing })
    trainOf s (.reel 0 0) = some 0 ∧ s.trains[(0 : TrainNo)] = some x ∧ x.interval = some 5 ∧ x.inFlight = false ∧
      s.banks[(0 : BankNo)].reels[0]? = some { channel := 1, zero := 21, position := some 3 } ∧ s.banks[(0 : BankNo)].state = .adding ∧
      x.state = .gap ∧ x.issued ≤ x.planned ∧ Calm s ∧ s.inputs[(21 : InputNo)].closed = decide ((3 : Fin 10) = 0) ∧
      (s.setInput 21 shut).inputs[(21 : InputNo)].closed ≠ decide ((3 : Fin 10) = 0) ∧
      z.trains[(0 : TrainNo)] = some reelTrain ∧ reelTrain.verify = .running 340000 ∧ z.banks[(0 : BankNo)].state = .zeroing ∧
      adding.trains[(0 : TrainNo)] = some reelTrain ∧ adding.banks[(0 : BankNo)].state = .adding ∧ reelTrain.inFlight = false ∧
      x.issued < x.planned ∧
      (let last := { x with issued := x.planned }
       (adding.setTrain 0 (some last)).trains[(0 : TrainNo)] = some last ∧ last.interval = some 5 ∧ last.issued = last.planned) := by
  simp only [Calm]; decide +kernel
theorem test_witness_Reels_return :
    trainOf adding (.reel 0 0) = some 0 ∧ reelTrain.state = .verify ∧ reelTrain.issued = reelTrain.planned ∧ bankTrains adding 0 = [0] ∧
      adding.banks[(0 : BankNo)].state ≠ .idle ∧ (adding.setTrain 0 (some { reelTrain with planned := 6 })).trains[(0 : TrainNo)] =
        some { reelTrain with planned := 6 } ∧ reelTrain.issued ≠ 6 ∧
      (∀ z ∈ adding.banks[(0 : BankNo)].reels, adding.chans[z.channel].isKicking = false) ∧
      (¬ ∀ z ∈ adding.banks[(0 : BankNo)].reels, (adding.setChan 1 { act := .kicking stepDrive 20 20000 }).chans[z.channel].isKicking = false) ∧
      ∀ (k' : TrainNo), k' ∈ bankTrains adding 0 → k' = 0 := by decide +kernel
theorem test_witness_DriveSamples :
    let s := (live.setCoil 11 { k := 30, openFloor := 20, shortCeiling := 90 }).setChan 11 { act := .kicking pulseDrive 30 30000 }
    let t := s.setGuard 11 { shortRun := 1 }
    let o := s.setGuard 11 { strikes := 2, verdict := .openSoFar }
    nextDriven s = some 11 ∧ s.passDue = false ∧ (90 : Byte).toNat ≤ s.coils[(11 : Chan)].shortCeiling ∧ s.guards[(11 : Chan)].shortRun = 0 ∧
      s.chans[(11 : Chan)].act = .kicking pulseDrive 30 30000 ∧ s.coils[(11 : Chan)].openFloor ≠ 0 ∧
      pulseDrive.began + 2000 < max s.clocks.driven ((2001 + 49) / 50 * 50) ∧ max s.clocks.driven ((2000 + 49) / 50 * 50) ≤ pulseDrive.began + 2000 ∧
      nextDriven t = some 11 ∧ t.guards[(11 : Chan)].shortRun = 1 ∧ t.coils[(11 : Chan)].shortCeiling < (91 : Byte).toNat ∧
      o.guards[(11 : Chan)].verdict = .openSoFar ∧ o.guards[(11 : Chan)].strikes = 2 ∧ s.guards[(11 : Chan)].verdict = .noneYet ∧
      (s.setGuard 11 { verdict := .good }).guards[(11 : Chan)].verdict = .good ∧
      (s.setGuard 11 { strikes := 1, verdict := .openSoFar }).guards[(11 : Chan)].strikes < 2 := by decide +kernel
theorem test_witness_Leaks :
    live.chans[(23 : Chan)].driven = false ∧ live.settings.leakThreshold < (6 : Byte).toNat ∧ ¬ live.settings.leakThreshold < (5 : Byte).toNat ∧
      4 ≤ (live.setGuard 23 { leakRun := 4 }).guards[(23 : Chan)].leakRun ∧ live.node.st ≠ .tripped ∧
      (inState .tripped).node.st = .tripped ∧ (inState .tripped).passDue = false ∧ live.guards[(23 : Chan)].leakRun < 4 ∧
      (live.setGuard 23 { leakRun := 3 }).guards[(23 : Chan)].leakRun < 4 ∧ 4 ≤ ((inState .tripped).setGuard 0 { leakRun := 4 }).guards[(0 : Chan)].leakRun ∧
      (inState .tripped).chans[(0 : Chan)].driven = false := by decide +kernel
theorem test_witness_Readings :
    (83 : Byte).toNat < live.settings.sagThreshold ∧ ¬ (84 : Byte).toNat < live.settings.sagThreshold ∧ live.passDue = false ∧ Calm live ∧
      ({ live with mon := { lowRun := 3 } } : State).mon.sag = false ∧ ({ live with mon := { sag := true, goodRun := 19 } } : State).mon.sag = true ∧
      (47 : Byte).toNat < live.settings.supplyFloor ∧ live.node.st = .live ∧ 49 + 1 = 50 ∧
      live.settings.tripTemp ≤ (95 : Byte).toNat ∧ ¬ live.settings.tripTemp ≤ (94 : Byte).toNat ∧ 10 ≤ min 255 (9 + 1) := by
  simp only [Calm]; decide +kernel
theorem test_witness_Slots : (15 : Nat) ≤ 15 ∧ live.settings.master ≤ 15 ∧ (live.setLamp 63 { level := 15 }).lamps[63].level ≤ 15 := by
  decide +kernel
theorem test_witness_BlinkAndChase :
    live.blink.second = false ∧ (out .blinkHalfChange live).blink.second = true ∧ ringState.rings[(0 : RingNo)].timer = some 100000 ∧
      ringState.rings[(0 : RingNo)].members.Nodup := by decide +kernel

end Sys2Proof.Tests
end

section
/-! SUPPORT. What the work of the queue, the trains and the units leaves alone, and what the work on a channel leaves alone, each said once for every
shared operation. -/

namespace Sys2Proof.Machine

set_option Elab.async false

/-! ### The two views of a state -/

/-- The state with everything blanked that the work of the queue, the trains and the units may change: what that work leaves alone. -/
def State.beyondTrains (s : State) : State :=
  { s with passDue := false, queue := [], held := [], dropped := 0, trains := Vector.replicate 12 none,
           banks := Vector.replicate 4 {}, units := Vector.replicate 4 {}, latches := 0 }

/-- The state with everything blanked that the work on the channels may change as well: what no drive, grant, train or unit changes. -/
def State.beyondDrives (s : State) : State :=
  { s.beyondTrains with chans := Vector.replicate 24 {}, heat := Vector.replicate 24 {}, guards := Vector.replicate 24 {},
                        inUse := 0 }

theorem beyondDrives_of_beyondTrains {s t : State} (h : t.beyondTrains = s.beyondTrains) : t.beyondDrives = s.beyondDrives := by
  simp only [State.beyondDrives, h]

/-- What keeps everything but the Drive Scheduler, the channels and the trains keeps what lies beyond the drives. -/
theorem Kept.beyondDrives {s t : State} (h : Kept s t) : t.beyondDrives = s.beyondDrives := by
  simp only [State.beyondDrives, State.beyondTrains, h.pending, h.now, h.node, h.port, h.inputs, h.reported, h.rules, h.holdoffs,
    h.armed, h.coils, h.mon, h.clocks, h.lamps, h.rings, h.blink, h.scan, h.settings]

section
variable {s t : State}

theorem chans_of_beyondTrains (h : t.beyondTrains = s.beyondTrains) : t.chans = s.chans := (congrArg State.chans h :)
theorem heat_of_beyondTrains (h : t.beyondTrains = s.beyondTrains) : t.heat = s.heat := (congrArg State.heat h :)
theorem guards_of_beyondTrains (h : t.beyondTrains = s.beyondTrains) : t.guards = s.guards := (congrArg State.guards h :)
theorem now_of_beyondDrives (h : t.beyondDrives = s.beyondDrives) : t.now = s.now := (congrArg State.now h :)
theorem node_of_beyondDrives (h : t.beyondDrives = s.beyondDrives) : t.node = s.node := (congrArg State.node h :)
theorem port_of_beyondDrives (h : t.beyondDrives = s.beyondDrives) : t.port = s.port := (congrArg State.port h :)
theorem inputs_of_beyondDrives (h : t.beyondDrives = s.beyondDrives) : t.inputs = s.inputs := (congrArg State.inputs h :)
theorem coils_of_beyondDrives (h : t.beyondDrives = s.beyondDrives) : t.coils = s.coils := (congrArg State.coils h :)
theorem settings_of_beyondDrives (h : t.beyondDrives = s.beyondDrives) : t.settings = s.settings := (congrArg State.settings h :)
theorem mon_of_beyondDrives (h : t.beyondDrives = s.beyondDrives) : t.mon = s.mon := (congrArg State.mon h :)
theorem armed_of_beyondDrives (h : t.beyondDrives = s.beyondDrives) : t.armed = s.armed := (congrArg State.armed h :)
theorem holdoffs_of_beyondDrives (h : t.beyondDrives = s.beyondDrives) : t.holdoffs = s.holdoffs := (congrArg State.holdoffs h :)
theorem rules_of_beyondDrives (h : t.beyondDrives = s.beyondDrives) : t.rules = s.rules := (congrArg State.rules h :)

/-- What lies beyond the drives takes in the tables and the lamp image. -/
theorem tablesKept_of_beyondDrives (h : t.beyondDrives = s.beyondDrives) : TablesKept s t :=
  ⟨coils_of_beyondDrives h, rules_of_beyondDrives h, settings_of_beyondDrives h, (congrArg State.lamps h :),
    (congrArg State.rings h :)⟩

end

/-! ### Folds -/

/-- What every step of a fold preserves, the fold preserves. -/
theorem foldl_invariant {α σ : Type} {P : σ → Prop} {f : σ → α → σ} (h : ∀ s x, P s → P (f s x)) (l : List α) {s : σ}
    (hs : P s) : P (l.foldl f s) := by
  induction l generalizing s with
  | nil => exact hs
  | cons x l ih => exact ih (h s x hs)

/-- A view that no step of a fold changes is not changed by the fold. -/
theorem foldl_view {α β σ : Type} {v : σ → β} {f : σ → α → σ} (h : ∀ s x, v (f s x) = v s) (l : List α) (s : σ) :
    v (l.foldl f s) = v s :=
  foldl_invariant (P := fun t => v t = v s) (fun t x ht => (h t x).trans ht) l rfl

theorem forChans_view {β : Type} {v : State → β} {f : Chan → State → State} (h : ∀ c s, v (f c s) = v s) (s : State) :
    v (forChans f s) = v s :=
  foldl_view (fun s c => h c s) _ s

/-! ### The plain updates leave alone what lies beyond the trains -/

section
variable (s : State)

@[simp] theorem beyondTrains_setTrain (t : TrainNo) (x : Option Train) : (s.setTrain t x).beyondTrains = s.beyondTrains := rfl
@[simp] theorem beyondTrains_setUnit (u : UnitNo) (x : CounterUnit) : (s.setUnit u x).beyondTrains = s.beyondTrains := rfl
@[simp] theorem beyondTrains_setBank (b : BankNo) (x : Bank) : (s.setBank b x).beyondTrains = s.beyondTrains := rfl
@[simp] theorem beyondTrains_setQueue (q : List Entry) : (s.setQueue q).beyondTrains = s.beyondTrains := rfl
@[simp] theorem beyondTrains_setHeld (h : List TrainNo) : (s.setHeld h).beyondTrains = s.beyondTrains := rfl
@[simp] theorem beyondTrains_callPass : s.callPass.beyondTrains = s.beyondTrains := rfl
@[simp] theorem beyondTrains_setLatch (x : Latch) : (setLatch x s).beyondTrains = s.beyondTrains := rfl
@[simp] theorem beyondTrains_countDropped : (countDropped s).beyondTrains = s.beyondTrains := rfl

@[simp] theorem beyondTrains_setLatchIf (b : Bool) (x : Latch) : (setLatchIf b x s).beyondTrains = s.beyondTrains := by
  cases b <;> rfl

/-! ### The queue -/

@[simp] theorem beyondTrains_submit (e : Entry) : (submit e s).2.beyondTrains = s.beyondTrains := by
  rcases submit_cases e s with ⟨-, h⟩ | ⟨-, -, h⟩ | ⟨k, -, -, -, h⟩ | ⟨-, -, -, h⟩ <;> simp [h]

@[simp] theorem beyondTrains_joinHeld (t : TrainNo) : (joinHeld t s).beyondTrains = s.beyondTrains := by
  simp only [joinHeld]; split <;> simp

@[simp] theorem beyondTrains_handPlaces (ts : List TrainNo) : (handPlaces ts s).beyondTrains = s.beyondTrains := by
  induction ts generalizing s with
  | nil => rfl
  | cons t ts ih => simp only [handPlaces]; split <;> simp [ih]

@[simp] theorem beyondTrains_handOver : (handOver s).beyondTrains = s.beyondTrains := beyondTrains_handPlaces _ _

@[simp] theorem beyondTrains_withdraw (p : Entry → Bool) : (withdraw p s).beyondTrains = s.beyondTrains := by
  simp only [withdraw]; split <;> simp

@[simp] theorem beyondTrains_withdrawRekick (c : Chan) : (withdrawRekick c s).beyondTrains = s.beyondTrains :=
  beyondTrains_withdraw _ _

@[simp] theorem beyondTrains_submitPulse (c : Chan) (cls : Cls) (who : Source) (p : Bool) (k : Nat) :
    (submitPulse c cls who p k s).beyondTrains = s.beyondTrains := by
  have h := beyondTrains_submit s (newEntry s c cls .pulse who p (pulseKick s.coils[c] k))
  simp only [submitPulse]
  split <;> rename_i heq <;> rw [heq] at h
  · simpa using h
  · exact h

@[simp] theorem beyondTrains_submitRekick (c : Chan) (x : FlipContext) :
    (submitRekick c x s).beyondTrains = s.beyondTrains := by
  have h := beyondTrains_submit s (newEntry s c .flip .rekick (.rule x.rule) x.persistent s.coils[c].k)
  simp only [submitRekick]
  split <;> rename_i heq <;> rw [heq] at h
  · simpa using h
  · exact h

/-! ### The trains -/

@[simp] theorem beyondTrains_offer (t : TrainNo) : (offer t s).beyondTrains = s.beyondTrains := by
  simp only [offer]; split
  · rfl
  · rename_i x _
    have h := beyondTrains_submit s (stepEntry s t x)
    split <;> rename_i heq <;> rw [heq] at h
    · simpa using h
    · exact h

@[simp] theorem beyondTrains_enterWait (t : TrainNo) (x : Train) : (enterWait t x s).beyondTrains = s.beyondTrains := by
  simp [enterWait]

@[simp] theorem beyondTrains_trainGranted (t : TrainNo) : (trainGranted t s).beyondTrains = s.beyondTrains := by
  simp only [trainGranted]; split <;> simp

@[simp] theorem beyondTrains_trainKickEnd (c : Chan) : (trainKickEnd c s).beyondTrains = s.beyondTrains := by
  simp only [trainKickEnd]
  repeat' split
  all_goals simp

@[simp] theorem beyondTrains_takeBack (t : TrainNo) : (takeBack t s).beyondTrains = s.beyondTrains := by simp [takeBack]

@[simp] theorem beyondTrains_freeTrain (t : TrainNo) : (freeTrain t s).beyondTrains = s.beyondTrains := by simp [freeTrain]

@[simp] theorem beyondTrains_startUnit (t : TrainNo) (u : UnitNo) (d : Dir) (c : Chan) (n : Nat) :
    (startUnit t u d c n s).beyondTrains = s.beyondTrains := by
  simp only [startUnit]; split <;> simp

@[simp] theorem beyondTrains_recordEnd (u : UnitNo) (x : Train) : (recordEnd u x s).beyondTrains = s.beyondTrains := by
  simp only [recordEnd]; split <;> simp

@[simp] theorem beyondTrains_startOpposite (u : UnitNo) (d : Dir) : (startOpposite u d s).beyondTrains = s.beyondTrains := by
  simp only [startOpposite]
  repeat' split
  all_goals simp

@[simp] theorem beyondTrains_endTrain (t : TrainNo) : (endTrain t s).beyondTrains = s.beyondTrains := by
  simp only [endTrain]
  repeat' split
  all_goals simp

@[simp] theorem beyondTrains_endAtIssued (t : TrainNo) : (endAtIssued t s).beyondTrains = s.beyondTrains := by
  simp only [endAtIssued]
  repeat' split
  all_goals simp

@[simp] theorem beyondTrains_limitEnd (t : TrainNo) : (limitEnd t s).beyondTrains = s.beyondTrains := by
  simp only [limitEnd]
  repeat' split
  all_goals simp

theorem beyondTrains_extend {s s' : State} {t : TrainNo} {m : Nat} (h : extend t m s = some s') :
    s'.beyondTrains = s.beyondTrains := by
  simp only [extend] at h
  repeat' split at h
  all_goals simp only [Option.some.injEq, reduceCtorEq] at h
  all_goals subst h; simp

theorem beyondTrains_extend_getD (t : TrainNo) (m : Nat) {d : State} (hd : d.beyondTrains = s.beyondTrains) :
    ((extend t m s).getD d).beyondTrains = s.beyondTrains := by
  cases h : extend t m s with
  | none => exact hd
  | some s' => exact beyondTrains_extend h

@[simp] theorem beyondTrains_extended (t : TrainNo) (m : Nat) : (extended t m s).beyondTrains = s.beyondTrains :=
  beyondTrains_extend_getD s t m rfl

@[simp] theorem beyondTrains_netStep (t : TrainNo) (u : UnitNo) (d : Dir) (m : Nat) :
    (netStep t u d m s).beyondTrains = s.beyondTrains := by
  simp only [netStep]
  repeat' split
  all_goals simp

/-! ### The units -/

@[simp] theorem beyondTrains_setReel (b : BankNo) (r : Nat) (p : Option (Fin 10)) :
    (setReel b r p s).beyondTrains = s.beyondTrains := by
  simp only [setReel]; split <;> simp

@[simp] theorem beyondTrains_mismatch (b : BankNo) (r : Nat) : (mismatch b r s).beyondTrains = s.beyondTrains := by
  simp only [mismatch]; split <;> simp

@[simp] theorem beyondTrains_carry (b : BankNo) (r : Nat) : (carry b r s).beyondTrains = s.beyondTrains := by
  simp only [carry]; split
  · split
    · exact beyondTrains_extend_getD s _ _ (by simp)
    · rfl
  · simp

@[simp] theorem beyondTrains_reelKickEnd (b : BankNo) (r : Nat) (done : Bool) :
    (reelKickEnd b r done s).beyondTrains = s.beyondTrains := by
  simp only [reelKickEnd]
  repeat' split
  all_goals simp

@[simp] theorem beyondTrains_reelCheck (b : BankNo) (r : Nat) (k : Bool) : (reelCheck b r k s).beyondTrains = s.beyondTrains := by
  simp only [reelCheck]
  repeat' split
  all_goals simp

@[simp] theorem beyondTrains_settleZero (b : BankNo) (r : Nat) : (settleZero b r s).beyondTrains = s.beyondTrains := by
  simp only [settleZero]
  repeat' split
  all_goals simp

@[simp] theorem beyondTrains_freeBank (b : BankNo) : (freeBank b s).beyondTrains = s.beyondTrains :=
  foldl_view (fun s t => beyondTrains_freeTrain s t) _ s

@[simp] theorem beyondTrains_bankTest (b : BankNo) : (bankTest b s).beyondTrains = s.beyondTrains := by
  simp only [bankTest]; split <;> simp

@[simp] theorem beyondTrains_bankTestOn (c : Chan) : (bankTestOn c s).beyondTrains = s.beyondTrains := by
  simp only [bankTestOn]; split <;> simp

@[simp] theorem beyondTrains_cancelBank (b : BankNo) : (cancelBank b s).beyondTrains = s.beyondTrains := by
  simp only [cancelBank]; split <;> simp

@[simp] theorem beyondTrains_unitKickEnd (u : UnitNo) (c : Chan) (done : Bool) :
    (unitKickEnd u c done s).beyondTrains = s.beyondTrains := rfl

@[simp] theorem beyondTrains_cancelTrain (t : TrainNo) : (cancelTrain t s).beyondTrains = s.beyondTrains := by
  simp only [cancelTrain]
  repeat' split
  all_goals simp

@[simp] theorem beyondTrains_cancelAll : (cancelAll s).beyondTrains = s.beyondTrains :=
  foldl_view (fun s t => beyondTrains_cancelTrain s t) _ s

@[simp] theorem beyondTrains_unitsKickEnd (c : Chan) (done : Bool) : (unitsKickEnd c done s).beyondTrains = s.beyondTrains := by
  simp only [unitsKickEnd]
  repeat' split
  all_goals simp

@[simp] theorem beyondTrains_unitsLocked (c : Chan) : (unitsLocked c s).beyondTrains = s.beyondTrains := by
  simp only [unitsLocked]
  repeat' split
  all_goals simp

@[simp] theorem beyondTrains_allocReel (b : BankNo) (r : Nat) (c : Chan) (n : Nat) :
    (allocReel b r c n s).beyondTrains = s.beyondTrains := by
  simp only [allocReel]
  repeat' split
  all_goals simp

@[simp] theorem beyondTrains_allocBank (b : BankNo) (plan : Nat → Nat) : (allocBank b plan s).beyondTrains = s.beyondTrains :=
  foldl_view (v := State.beyondTrains) (fun s r => by split <;> simp) _ s

@[simp] theorem beyondTrains_takeAdd (b : BankNo) (v : Nat) : (takeAdd b v s).beyondTrains = s.beyondTrains := by
  simp only [takeAdd]; split
  · simp
  · exact foldl_view (v := State.beyondTrains) (fun s r => by repeat' split
                                                              all_goals simp) _ s

@[simp] theorem beyondTrains_takeZero (b : BankNo) : (takeZero b s).beyondTrains = s.beyondTrains := by simp [takeZero]

@[simp] theorem beyondTrains_takeStep (u : UnitNo) (d : Dir) (m : Nat) : (takeStep u d m s).beyondTrains = s.beyondTrains := by
  simp only [takeStep]
  repeat' split
  all_goals simp

@[simp] theorem beyondTrains_limitClosed (u : UnitNo) (d : Dir) : (limitClosed u d s).beyondTrains = s.beyondTrains := by
  simp only [limitClosed]
  repeat' split
  all_goals simp

@[simp] theorem beyondTrains_zeroClosed (b : BankNo) (r : Nat) : (zeroClosed b r s).beyondTrains = s.beyondTrains := by
  simp only [zeroClosed]
  repeat' split
  all_goals simp

@[simp] theorem beyondTrains_unitsClosed (i : InputNo) : (unitsClosed i s).beyondTrains = s.beyondTrains := by
  simp only [unitsClosed]
  rw [foldl_view (v := State.beyondTrains) (fun s u => by repeat' split
                                                          all_goals simp)]
  exact foldl_view (v := State.beyondTrains)
    (fun s b => foldl_view (v := State.beyondTrains) (fun s r => by split <;> simp) _ s) _ s

@[simp] theorem beyondTrains_intervalCompared (t : TrainNo) : (intervalCompared t s).beyondTrains = s.beyondTrains := by
  simp only [intervalCompared]
  repeat' split
  all_goals simp

@[simp] theorem beyondTrains_verifyReel (b : BankNo) (r : Nat) (k : Bool) : (verifyReel b r k s).beyondTrains = s.beyondTrains := by
  simp only [verifyReel]; split <;> simp

@[simp] theorem beyondTrains_markVerified (t : TrainNo) : (markVerified t s).beyondTrains = s.beyondTrains := by
  simp only [markVerified]; split <;> simp

end

/-! ### The work on a channel leaves alone what lies beyond the drives -/

section
variable (s : State)

@[simp] theorem beyondDrives_callPass : s.callPass.beyondDrives = s.beyondDrives := rfl
@[simp] theorem beyondDrives_setLatch (x : Latch) : (setLatch x s).beyondDrives = s.beyondDrives := rfl
@[simp] theorem beyondDrives_setGuard (c : Chan) (x : Guard) : (s.setGuard c x).beyondDrives = s.beyondDrives := rfl
@[simp] theorem beyondDrives_setHeat (c : Chan) (x : Heat) : (s.setHeat c x).beyondDrives = s.beyondDrives := rfl
@[simp] theorem beyondDrives_setChan (c : Chan) (x : Channel) : (s.setChan c x).beyondDrives = s.beyondDrives := rfl
@[simp] theorem beyondDrives_countDropped : (countDropped s).beyondDrives = s.beyondDrives := rfl
@[simp] theorem beyondDrives_setQueue (q : List Entry) : (s.setQueue q).beyondDrives = s.beyondDrives := rfl
@[simp] theorem beyondDrives_setHeld (q : List TrainNo) : (s.setHeld q).beyondDrives = s.beyondDrives := rfl
@[simp] theorem beyondDrives_setTrain (t : TrainNo) (x : Option Train) : (s.setTrain t x).beyondDrives = s.beyondDrives := rfl
@[simp] theorem beyondDrives_setBank (b : BankNo) (x : Bank) : (s.setBank b x).beyondDrives = s.beyondDrives := rfl
@[simp] theorem beyondDrives_setUnit (u : UnitNo) (x : CounterUnit) : (s.setUnit u x).beyondDrives = s.beyondDrives := rfl

@[simp] theorem beyondDrives_setLatchIf (b : Bool) (x : Latch) : (setLatchIf b x s).beyondDrives = s.beyondDrives :=
  (kept_setLatchIf b x s).beyondDrives
@[simp] theorem beyondDrives_setAct (c : Chan) (x : Activity) : (setAct c x s).beyondDrives = s.beyondDrives :=
  (kept_setAct c x s).beyondDrives
@[simp] theorem beyondDrives_setWaiting (c : Chan) (x : Option FlipContext) : (setWaiting c x s).beyondDrives = s.beyondDrives := rfl
@[simp] theorem beyondDrives_accrueKick (c : Chan) : (accrueKick c s).beyondDrives = s.beyondDrives :=
  (kept_accrueKick c s).beyondDrives
@[simp] theorem beyondDrives_accrueHold (c : Chan) (e : Nat) : (accrueHold c e s).beyondDrives = s.beyondDrives :=
  (kept_accrueHold c e s).beyondDrives
@[simp] theorem beyondDrives_finalCharge (c : Chan) : (finalCharge c s).beyondDrives = s.beyondDrives :=
  (kept_finalCharge c s).beyondDrives
@[simp] theorem beyondDrives_becomeIdle (c : Chan) : (becomeIdle c s).beyondDrives = s.beyondDrives :=
  (kept_becomeIdle c s).beyondDrives
@[simp] theorem beyondDrives_enterRecovery (c : Chan) : (enterRecovery c s).beyondDrives = s.beyondDrives :=
  (kept_enterRecovery c s).beyondDrives
@[simp] theorem beyondDrives_enterHold (c : Chan) (d : Drive) (x : FlipContext) (n : Nat) (l : Option Nat) (e : Nat) :
    (enterHold c d x n l e s).beyondDrives = s.beyondDrives := (kept_enterHold c d x n l e s).beyondDrives
@[simp] theorem beyondDrives_endHold (c : Chan) : (endHold c s).beyondDrives = s.beyondDrives := (kept_endHold c s).beyondDrives
@[simp] theorem beyondDrives_withdraw (p : Entry → Bool) : (withdraw p s).beyondDrives = s.beyondDrives :=
  (kept_withdraw p s).beyondDrives
@[simp] theorem beyondDrives_withdrawFlip (c : Chan) : (withdrawFlip c s).beyondDrives = s.beyondDrives :=
  (kept_withdrawFlip c s).beyondDrives
@[simp] theorem beyondDrives_withdrawRekick (c : Chan) : (withdrawRekick c s).beyondDrives = s.beyondDrives :=
  (kept_withdrawRekick c s).beyondDrives
@[simp] theorem beyondDrives_withdrawAll (c : Chan) : (withdrawAll c s).beyondDrives = s.beyondDrives :=
  (kept_withdrawAll c s).beyondDrives
@[simp] theorem beyondDrives_withdrawPulses (c : Chan) : (withdrawPulses c s).beyondDrives = s.beyondDrives :=
  (kept_withdraw _ s).beyondDrives
@[simp] theorem beyondDrives_clearClaimed (c : Chan) : (clearClaimed c s).beyondDrives = s.beyondDrives :=
  (kept_withdraw _ s).beyondDrives
@[simp] theorem beyondDrives_emptyQueue : (emptyQueue s).beyondDrives = s.beyondDrives := (kept_emptyQueue s).beyondDrives
@[simp] theorem beyondDrives_reduceQueue : (reduceQueue s).beyondDrives = s.beyondDrives := (kept_reduceQueue s).beyondDrives
@[simp] theorem beyondDrives_handOver : (handOver s).beyondDrives = s.beyondDrives := (kept_handOver s).beyondDrives
@[simp] theorem beyondDrives_arbitrate : (arbitrate s).beyondDrives = s.beyondDrives := (kept_arbitrate s).beyondDrives
@[simp] theorem beyondDrives_submitFlip (c : Chan) (x : FlipContext) : (submitFlip c x s).beyondDrives = s.beyondDrives :=
  (kept_submitFlip c x s).beyondDrives
@[simp] theorem beyondDrives_submitRekick (c : Chan) (x : FlipContext) : (submitRekick c x s).beyondDrives = s.beyondDrives :=
  (kept_submitRekick c x s).beyondDrives

@[simp] theorem beyondDrives_trainKickEnd (c : Chan) : (trainKickEnd c s).beyondDrives = s.beyondDrives :=
  (kept_trainKickEnd c s).beyondDrives
@[simp] theorem beyondDrives_unitsKickEnd (c : Chan) (done : Bool) : (unitsKickEnd c done s).beyondDrives = s.beyondDrives :=
  beyondDrives_of_beyondTrains (by simp)
@[simp] theorem beyondDrives_bankTestOn (c : Chan) : (bankTestOn c s).beyondDrives = s.beyondDrives :=
  beyondDrives_of_beyondTrains (by simp)
@[simp] theorem beyondDrives_unitsLocked (c : Chan) : (unitsLocked c s).beyondDrives = s.beyondDrives :=
  beyondDrives_of_beyondTrains (by simp)
@[simp] theorem beyondDrives_cancelTrain (t : TrainNo) : (cancelTrain t s).beyondDrives = s.beyondDrives :=
  beyondDrives_of_beyondTrains (by simp)
@[simp] theorem beyondDrives_cancelAll : (cancelAll s).beyondDrives = s.beyondDrives :=
  beyondDrives_of_beyondTrains (by simp)

@[simp] theorem beyondDrives_holdAfterKick (c : Chan) (d : Drive) (x : FlipContext) (n : Nat) (l : Option Nat) :
    (holdAfterKick c d x n l s).beyondDrives = s.beyondDrives := by
  simp only [holdAfterKick]; split <;> simp

@[simp] theorem beyondDrives_lockChannel (c : Chan) (k : LockCause) : (lockChannel c k s).beyondDrives = s.beyondDrives := by
  simp only [lockChannel]
  repeat' split
  all_goals simp

@[simp] theorem beyondDrives_settleVerdict (c : Chan) : (settleVerdict c s).beyondDrives = s.beyondDrives := by
  simp only [settleVerdict]
  repeat' split
  all_goals simp

@[simp] theorem beyondDrives_endKick (c : Chan) (done : Bool) : (endKick c done s).beyondDrives = s.beyondDrives := by
  simp only [endKick]
  repeat' split
  all_goals simp

@[simp] theorem beyondDrives_endDrive (c : Chan) : (endDrive c s).beyondDrives = s.beyondDrives := by
  simp only [endDrive]; split <;> simp

@[simp] theorem beyondDrives_endFlipWork (p : FlipContext → Bool) : (endFlipWork p s).beyondDrives = s.beyondDrives :=
  forChans_view (v := State.beyondDrives) (fun c s => by simp only [endFlipWorkOn]
                                                         repeat' split
                                                         all_goals simp) s

@[simp] theorem beyondDrives_endDrives (keep : Bool) : (endDrives keep s).beyondDrives = s.beyondDrives :=
  forChans_view (v := State.beyondDrives) (fun c s => by split <;> simp) s

@[simp] theorem beyondDrives_channelsEdge (i : InputNo) (close : Bool) : (channelsEdge i close s).beyondDrives = s.beyondDrives :=
  forChans_view (v := State.beyondDrives) (fun c s => by simp only [edgeOn]
                                                         repeat' split
                                                         all_goals simp) s

@[simp] theorem beyondDrives_kickMs (c : Chan) : (kickMs c s).beyondDrives = s.beyondDrives := by
  simp only [kickMs]; split <;> simp

@[simp] theorem beyondDrives_holdMs (c : Chan) : (holdMs c s).beyondDrives = s.beyondDrives := by
  simp only [holdMs]
  repeat' split
  all_goals simp

end

end Sys2Proof.Machine
end

section
/-! SUPPORT. What the operations on one channel do to it, and that they change no other channel. -/

namespace Sys2Proof.Machine

set_option Elab.async false

/-! ### Entries of a vector after an update -/

theorem getElem_set_same {α : Type} {n : Nat} (v : Vector α n) (i : Fin n) (x : α) : (v.set i x)[i] = x := by
  simp

theorem getElem_set_other {α : Type} {n : Nat} (v : Vector α n) {i j : Fin n} (x : α) (h : j ≠ i) : (v.set i x)[j] = v[j] := by
  have h' : i.val ≠ j.val := fun e => h (Fin.ext e.symm)
  simp [h']

/-! ### The stages of a kick's end and of a lock -/

/-- The channel's own part of a kick's end, the last millisecond charged: HOLDING for a completed Flip that may hold, else RECOVERING (R5, R14). -/
def afterKick (c : Chan) (done : Bool) (d : Drive) (s : State) : State :=
  match d.kind with
  | .flip ctx left limit =>
    if done ∧ 0 < s.coils[c].h ∧ s.closed ctx.trigger then holdAfterKick c d ctx left limit s else enterRecovery c s
  | _ => enterRecovery c s

/-- A step pulse's outcome is reported to the Unit Logic and the Train Engine (R96, R111, R122). -/
def reportKick (c : Chan) (done isStep : Bool) (s : State) : State :=
  if isStep then trainKickEnd c (unitsKickEnd c done s) else s

/-- A step pulse's bank is tested for its return to IDLE (R114). -/
def testAfterKick (c : Chan) (isStep : Bool) (s : State) : State := if isStep then bankTestOn c s else s

/-- Whether a drive is a step pulse. -/
def Drive.isStep (d : Drive) : Bool := d.kind == .stepPulse

theorem endKick_of_kicking {c : Chan} {s : State} {d : Drive} {k ends : Nat} (done : Bool)
    (h : s.chans[c].act = .kicking d k ends) :
    endKick c done s =
      testAfterKick c d.isStep (settleVerdict c (reportKick c done d.isStep (afterKick c done d (finalCharge c s).callPass))) := by
  simp only [endKick, h, testAfterKick, reportKick, Drive.isStep, beq_iff_eq]
  rfl

theorem endKick_of_not_kicking {c : Chan} {s : State} (done : Bool) (h : s.chans[c].isKicking = false) : endKick c done s = s := by
  simp only [endKick]; split
  · rename_i e
    simp only [Channel.isKicking, e, reduceCtorEq] at h
  · rfl

/-- The channel's own part of a lock: its drive is cut and the channel is LOCKED (R21). -/
def cutAndLock (c : Chan) (s : State) : State :=
  if s.chans[c].driven then (setAct c .locked (finalCharge c s)).callPass else setAct c .locked (finalCharge c s)

/-- Whether a step pulse runs on a channel. -/
def Channel.isStepping (x : Channel) : Bool := x.drive?.any (·.kind == .stepPulse)

/-- The marks a lock leaves: the latch, the verdict put back and the cause (R21, R127). -/
def markLocked (c : Chan) (cause : LockCause) (s : State) : State :=
  (setLatch .locked s).setGuard c { (setLatch .locked s).guards[c] with verdict := .noneYet, cause := some cause }

theorem lockChannel_of_free {c : Chan} {s : State} (cause : LockCause) (h : s.chans[c].isLocked = false) :
    lockChannel c cause s =
      let t := withdrawAll c (reportKick c false s.chans[c].isStepping (cutAndLock c s))
      markLocked c cause (unitsLocked c (cancelOf (trainOn t c) t)) := by
  simp only [lockChannel, h, Bool.false_eq_true, if_false]
  rfl

theorem lockChannel_of_locked {c : Chan} {s : State} (cause : LockCause) (h : s.chans[c].isLocked = true) :
    lockChannel c cause s = s := by
  simp only [lockChannel, h, if_true]

section
variable (s : State)

@[simp] theorem beyondTrains_reportKick (c : Chan) (done b : Bool) : (reportKick c done b s).beyondTrains = s.beyondTrains := by
  simp only [reportKick]; split <;> simp

@[simp] theorem beyondTrains_testAfterKick (c : Chan) (b : Bool) : (testAfterKick c b s).beyondTrains = s.beyondTrains := by
  simp only [testAfterKick]; split <;> simp

@[simp] theorem beyondTrains_cancelOf (t : Option TrainNo) : (cancelOf t s).beyondTrains = s.beyondTrains := by
  simp only [cancelOf]; split <;> simp

end

/-! ### Work on one channel -/

/-- No channel but `c` has its drive state, its heat account or its protection record changed. -/
def OnlyOn (c : Chan) (s t : State) : Prop :=
  ∀ c' : Chan, c' ≠ c → t.chans[c'] = s.chans[c'] ∧ t.heat[c'] = s.heat[c'] ∧ t.guards[c'] = s.guards[c']

section
variable {c : Chan} {s₀ s : State}

theorem OnlyOn.refl (c : Chan) (s : State) : OnlyOn c s s := fun _ _ => ⟨rfl, rfl, rfl⟩

theorem OnlyOn.of_beyondTrains {t : State} (h : OnlyOn c s₀ s) (e : t.beyondTrains = s.beyondTrains) : OnlyOn c s₀ t := by
  intro c' hc
  rw [chans_of_beyondTrains e, heat_of_beyondTrains e, guards_of_beyondTrains e]
  exact h c' hc

theorem OnlyOn.setChan (h : OnlyOn c s₀ s) (x : Channel) : OnlyOn c s₀ (s.setChan c x) := fun c' hc => by
  obtain ⟨hx, hq, hg⟩ := h c' hc
  exact ⟨(getElem_set_other _ _ hc).trans hx, hq, hg⟩

theorem OnlyOn.setHeat (h : OnlyOn c s₀ s) (x : Heat) : OnlyOn c s₀ (s.setHeat c x) := fun c' hc => by
  obtain ⟨hx, hq, hg⟩ := h c' hc
  exact ⟨hx, (getElem_set_other _ _ hc).trans hq, hg⟩

theorem OnlyOn.setGuard (h : OnlyOn c s₀ s) (x : Guard) : OnlyOn c s₀ (s.setGuard c x) := fun c' hc => by
  obtain ⟨hx, hq, hg⟩ := h c' hc
  exact ⟨hx, hq, (getElem_set_other _ _ hc).trans hg⟩

theorem OnlyOn.setAct (h : OnlyOn c s₀ s) (x : Activity) : OnlyOn c s₀ (setAct c x s) := by
  simp only [Machine.setAct]
  split
  · exact (show OnlyOn c s₀ { s with inUse := _ } from h).setGuard _ |>.setChan _
  · exact (show OnlyOn c s₀ { s with inUse := _ } from h).setChan _

theorem OnlyOn.callPass (h : OnlyOn c s₀ s) : OnlyOn c s₀ s.callPass := h
theorem OnlyOn.setLatch (h : OnlyOn c s₀ s) (x : Latch) : OnlyOn c s₀ (setLatch x s) := h
theorem OnlyOn.setLatchIf (h : OnlyOn c s₀ s) (b : Bool) (x : Latch) : OnlyOn c s₀ (setLatchIf b x s) :=
  h.of_beyondTrains (by simp)
theorem OnlyOn.setWaiting (h : OnlyOn c s₀ s) (x : Option FlipContext) : OnlyOn c s₀ (setWaiting c x s) := h.setChan _
theorem OnlyOn.withdraw (h : OnlyOn c s₀ s) (p : Entry → Bool) : OnlyOn c s₀ (withdraw p s) := h.of_beyondTrains (by simp)

theorem OnlyOn.accrueKick (h : OnlyOn c s₀ s) : OnlyOn c s₀ (accrueKick c s) := by
  simp only [Machine.accrueKick]; split
  · exact h
  · exact (h.setHeat _).setLatchIf _ _

theorem OnlyOn.accrueHold (h : OnlyOn c s₀ s) (e : Nat) : OnlyOn c s₀ (accrueHold c e s) := by
  simp only [Machine.accrueHold]; split
  · exact h
  · exact (h.setHeat _).setLatchIf _ _

theorem OnlyOn.finalCharge (h : OnlyOn c s₀ s) : OnlyOn c s₀ (finalCharge c s) := by
  simp only [Machine.finalCharge]
  repeat' split
  · exact h.accrueKick
  · exact h
  · exact h.accrueHold _
  · exact h
  · exact h

theorem OnlyOn.becomeIdle (h : OnlyOn c s₀ s) : OnlyOn c s₀ (becomeIdle c s) := h.setAct _

theorem OnlyOn.enterRecovery (h : OnlyOn c s₀ s) : OnlyOn c s₀ (enterRecovery c s) := by
  simp only [Machine.enterRecovery]; split
  · exact h.becomeIdle
  · exact h.setAct _

theorem OnlyOn.enterHold (h : OnlyOn c s₀ s) (d : Drive) (x : FlipContext) (n : Nat) (l : Option Nat) (e : Nat) :
    OnlyOn c s₀ (enterHold c d x n l e s) := (h.setHeat _).setAct _

theorem OnlyOn.holdAfterKick (h : OnlyOn c s₀ s) (d : Drive) (x : FlipContext) (n : Nat) (l : Option Nat) :
    OnlyOn c s₀ (holdAfterKick c d x n l s) := by
  simp only [Machine.holdAfterKick]; split
  · exact (h.setLatch _).enterRecovery
  · exact h.enterHold _ _ _ _ _

theorem OnlyOn.endHold (h : OnlyOn c s₀ s) : OnlyOn c s₀ (endHold c s) := by
  simp only [Machine.endHold]; split
  · exact h.finalCharge.enterRecovery.callPass.withdraw _
  · exact h

theorem OnlyOn.cutAndLock (h : OnlyOn c s₀ s) : OnlyOn c s₀ (cutAndLock c s) := by
  simp only [Machine.cutAndLock]; split <;> exact h.finalCharge.setAct _

theorem OnlyOn.lockChannel (h : OnlyOn c s₀ s) (k : LockCause) : OnlyOn c s₀ (lockChannel c k s) := by
  cases hl : s.chans[c].isLocked
  · rw [lockChannel_of_free k hl]
    have hcut : OnlyOn c s₀ (withdrawAll c (reportKick c false s.chans[c].isStepping (Machine.cutAndLock c s))) :=
      ((h.cutAndLock.of_beyondTrains (by simp)).withdraw _).setWaiting _
    exact (hcut.of_beyondTrains (by simp)).setGuard _
  · rwa [lockChannel_of_locked k hl]

theorem OnlyOn.settleVerdict (h : OnlyOn c s₀ s) : OnlyOn c s₀ (settleVerdict c s) := by
  simp only [Machine.settleVerdict]; split
  · exact h.setGuard _
  · split
    · exact h
    · exact h.setGuard _
    · repeat' split
      · exact (h.setGuard _).lockChannel _
      · exact (h.setGuard _).setLatch _
      · exact h.setGuard _

theorem OnlyOn.afterKick (h : OnlyOn c s₀ s) (done : Bool) (d : Drive) : OnlyOn c s₀ (afterKick c done d s) := by
  simp only [Machine.afterKick]
  repeat' split
  · exact h.holdAfterKick _ _ _ _
  · exact h.enterRecovery
  · exact h.enterRecovery

theorem OnlyOn.endKick (h : OnlyOn c s₀ s) (done : Bool) : OnlyOn c s₀ (endKick c done s) := by
  cases ha : s.chans[c].act with
  | kicking d k ends =>
    rw [endKick_of_kicking done ha]
    have hk := (h.finalCharge.callPass.afterKick done d).of_beyondTrains (t := reportKick c done d.isStep _) (by simp; rfl)
    exact hk.settleVerdict.of_beyondTrains (by simp)
  | _ => rwa [endKick_of_not_kicking done (by simp only [Channel.isKicking, ha])]

theorem OnlyOn.endDrive (h : OnlyOn c s₀ s) : OnlyOn c s₀ (endDrive c s) := by
  simp only [Machine.endDrive]; split
  · exact h.endKick _
  · exact h.endHold

end

end Sys2Proof.Machine
end

section
/-! SUPPORT. The activity an operation leaves on its channel, and that nothing but a grant drives a channel that was not driven (R3). -/

namespace Sys2Proof.Machine

set_option Elab.async false

/-! ### Activities -/

theorem driven_of_kicking {x : Channel} {d : Drive} {k ends : Nat} (h : x.act = .kicking d k ends) : x.driven = true := by
  simp only [Channel.driven, Channel.isKicking, h, Bool.true_or]

theorem driven_of_holding {x : Channel} {d : Drive} {e : Nat} (h : x.act = .holding d e) : x.driven = true := by
  simp only [Channel.driven, Channel.isHolding, h, Bool.or_true]

theorem not_driven_of_idle {x : Channel} (h : x.act = .idle) : x.driven = false := by
  simp only [Channel.driven, Channel.isKicking, Channel.isHolding, h, Bool.or_self]

theorem not_driven_of_recovering {x : Channel} {ends : Nat} (h : x.act = .recovering ends) : x.driven = false := by
  simp only [Channel.driven, Channel.isKicking, Channel.isHolding, h, Bool.or_self]

theorem not_driven_of_locked {x : Channel} (h : x.act = .locked) : x.driven = false := by
  simp only [Channel.driven, Channel.isKicking, Channel.isHolding, h, Bool.or_self]

/-- A channel is driven exactly while it is KICKING or HOLDING (R126). -/
theorem driven_iff {x : Channel} :
    x.driven = true ↔ (∃ d k ends, x.act = .kicking d k ends) ∨ ∃ d e, x.act = .holding d e := by
  cases h : x.act <;> simp [Channel.driven, Channel.isKicking, Channel.isHolding, h]

theorem isLocked_iff {x : Channel} : x.isLocked = true ↔ x.act = .locked := by
  cases h : x.act <;> simp [Channel.isLocked, h]

theorem isLocked_eq_false_iff {x : Channel} : x.isLocked = false ↔ x.act ≠ .locked := by
  rw [ne_eq, ← isLocked_iff, Bool.not_eq_true]

/-! ### What a drive's last charge leaves alone -/

/-- The state with the heat accounts and the latches blanked. -/
def State.beyondHeat (s : State) : State := { s with heat := Vector.replicate 24 {}, latches := 0 }

section
variable (c : Chan) (s : State)

theorem beyondHeat_raiseHeat (x : Heat) : (raiseHeat c x s).beyondHeat = s.beyondHeat := by
  simp only [raiseHeat, setLatchIf]; split <;> rfl

theorem beyondHeat_accrueKick : (accrueKick c s).beyondHeat = s.beyondHeat := by
  simp only [accrueKick]; split
  · rfl
  · exact beyondHeat_raiseHeat c s _

theorem beyondHeat_accrueHold (e : Nat) : (accrueHold c e s).beyondHeat = s.beyondHeat := by
  simp only [accrueHold]; split
  · rfl
  · exact beyondHeat_raiseHeat c s _

theorem beyondHeat_finalCharge : (finalCharge c s).beyondHeat = s.beyondHeat := by
  simp only [finalCharge]
  repeat' split
  · exact beyondHeat_accrueKick c s
  · rfl
  · exact beyondHeat_accrueHold c s _
  · rfl
  · rfl

@[simp] theorem finalCharge_chans : (finalCharge c s).chans = s.chans := (congrArg State.chans (beyondHeat_finalCharge c s) :)
@[simp] theorem finalCharge_guards : (finalCharge c s).guards = s.guards := (congrArg State.guards (beyondHeat_finalCharge c s) :)
@[simp] theorem finalCharge_coils : (finalCharge c s).coils = s.coils := (congrArg State.coils (beyondHeat_finalCharge c s) :)
@[simp] theorem finalCharge_inUse : (finalCharge c s).inUse = s.inUse := (congrArg State.inUse (beyondHeat_finalCharge c s) :)
@[simp] theorem finalCharge_queue : (finalCharge c s).queue = s.queue := (congrArg State.queue (beyondHeat_finalCharge c s) :)
@[simp] theorem finalCharge_held : (finalCharge c s).held = s.held := (congrArg State.held (beyondHeat_finalCharge c s) :)
@[simp] theorem finalCharge_trains : (finalCharge c s).trains = s.trains := (congrArg State.trains (beyondHeat_finalCharge c s) :)
@[simp] theorem finalCharge_passDue : (finalCharge c s).passDue = s.passDue := (congrArg State.passDue (beyondHeat_finalCharge c s) :)
@[simp] theorem finalCharge_now : (finalCharge c s).now = s.now := (congrArg State.now (beyondHeat_finalCharge c s) :)

/-! ### The channels after each operation -/

@[simp] theorem withdraw_chans (p : Entry → Bool) : (withdraw p s).chans = s.chans := chans_of_beyondTrains (by simp)
@[simp] theorem setWaiting_chans (x : Option FlipContext) :
    (setWaiting c x s).chans = s.chans.set c { s.chans[c] with waiting := x } := rfl
@[simp] theorem withdrawAll_chans : (withdrawAll c s).chans = s.chans.set c { s.chans[c] with waiting := none } := by
  simp [withdrawAll]
@[simp] theorem reportKick_chans (done b : Bool) : (reportKick c done b s).chans = s.chans := chans_of_beyondTrains (by simp)
@[simp] theorem testAfterKick_chans (b : Bool) : (testAfterKick c b s).chans = s.chans := chans_of_beyondTrains (by simp)
@[simp] theorem cancelOf_chans (t : Option TrainNo) : (cancelOf t s).chans = s.chans := chans_of_beyondTrains (by simp)
@[simp] theorem unitsLocked_chans : (unitsLocked c s).chans = s.chans := chans_of_beyondTrains (by simp)

/-- The activity a drive's end leaves: RECOVERING, or IDLE where the recovery time is 0 (R7). -/
def restOf (c : Chan) (s : State) : Activity :=
  if s.coils[c].recovery = 0 then .idle else .recovering (s.after s.coils[c].recovery)

theorem restOf_not_driven : Channel.driven { s.chans[c] with act := restOf c s } = false := by
  simp only [restOf]; split
  · exact not_driven_of_idle rfl
  · exact not_driven_of_recovering rfl

@[simp] theorem becomeIdle_chans : (becomeIdle c s).chans = s.chans.set c { s.chans[c] with act := .idle } := by
  simp [becomeIdle]

@[simp] theorem enterRecovery_chans : (enterRecovery c s).chans = s.chans.set c { s.chans[c] with act := restOf c s } := by
  simp only [enterRecovery, restOf]; split <;> simp

@[simp] theorem enterHold_chans (d : Drive) (x : FlipContext) (n : Nat) (l : Option Nat) (e : Nat) :
    (enterHold c d x n l e s).chans = s.chans.set c { s.chans[c] with
      act := .holding { d with kind := .flip x n (holdTimer s c l), began := s.now, charged := 0 } e } := by
  simp only [enterHold, setAct_chans, State.setHeat_chans]
  rfl

@[simp] theorem cutAndLock_chans : (cutAndLock c s).chans = s.chans.set c { s.chans[c] with act := .locked } := by
  simp only [cutAndLock]; split <;> simp

theorem lockChannel_chans {s : State} (k : LockCause) (h : s.chans[c].isLocked = false) :
    (lockChannel c k s).chans = s.chans.set c { act := .locked, waiting := none } := by
  rw [lockChannel_of_free k h]
  simp [markLocked]

/-- A lock leaves the channel LOCKED (R21). -/
theorem lockChannel_act (k : LockCause) : (lockChannel c k s).chans[c].act = .locked := by
  cases h : s.chans[c].isLocked
  · rw [lockChannel_chans c k h, getElem_set_same]
  · rw [lockChannel_of_locked k h]; exact isLocked_iff.mp h

/-- With no open check a kick's end only puts the verdict back (R127, R128). -/
theorem settleVerdict_unchecked {s : State} (h : s.coils[c].openFloor = 0) :
    settleVerdict c s = s.setGuard c { s.guards[c] with verdict := .noneYet } := by
  simp only [settleVerdict, if_pos h]

theorem settleVerdict_noneYet {s : State} (h : s.coils[c].openFloor ≠ 0) (hv : s.guards[c].verdict = .noneYet) :
    settleVerdict c s = s := by
  simp only [settleVerdict, if_neg h, hv]

/-- A good kick clears the strikes (R128). -/
theorem settleVerdict_good {s : State} (h : s.coils[c].openFloor ≠ 0) (hv : s.guards[c].verdict = .good) :
    settleVerdict c s = s.setGuard c { s.guards[c] with verdict := .noneYet, strikes := 0 } := by
  simp only [settleVerdict, if_neg h, hv]

/-- What an open kick makes of the protection record: one strike more (R128). -/
def struck (c : Chan) (s : State) : State :=
  s.setGuard c { s.guards[c] with verdict := .noneYet, strikes := min 3 (s.guards[c].strikes + 1) }

/-- An open kick is a strike: the first sets OpenAlert and the third locks the channel (R128). -/
theorem settleVerdict_open {s : State} (h : s.coils[c].openFloor ≠ 0) (hv : s.guards[c].verdict = .openSoFar) :
    settleVerdict c s =
      if min 3 (s.guards[c].strikes + 1) = 3 then lockChannel c .opened (struck c s)
      else if min 3 (s.guards[c].strikes + 1) = 1 then setLatch .openAlert (struck c s)
      else struck c s := by
  simp only [settleVerdict, if_neg h, hv]
  rfl

/-- The verdict of a kick's end leaves the channels as they are, or its own channel LOCKED (R128). -/
theorem settleVerdict_chans_or_locked :
    (settleVerdict c s).chans = s.chans ∨ (settleVerdict c s).chans[c].act = .locked := by
  by_cases h : s.coils[c].openFloor = 0
  · exact .inl (by rw [settleVerdict_unchecked c h]; rfl)
  · cases hv : s.guards[c].verdict with
    | noneYet => exact .inl (by rw [settleVerdict_noneYet c h hv])
    | good => exact .inl (by rw [settleVerdict_good c h hv]; rfl)
    | openSoFar =>
      rw [settleVerdict_open c h hv]
      split
      · exact .inr (lockChannel_act c _ _)
      · split <;> exact .inl rfl

/-- A cut kick leaves its channel without a drive (R5). -/
theorem endKick_cut_not_driven {s : State} (h : s.chans[c].isKicking = true) : (endKick c false s).chans[c].driven = false := by
  cases ha : s.chans[c].act with
  | kicking d k ends =>
    rw [endKick_of_kicking false ha, testAfterKick_chans]
    have hrest : (reportKick c false d.isStep (afterKick c false d (finalCharge c s).callPass)).chans[c].driven = false := by
      have hact : afterKick c false d (finalCharge c s).callPass = enterRecovery c (finalCharge c s).callPass := by
        simp only [afterKick, Bool.false_eq_true, false_and, if_false]
        split <;> rfl
      rw [reportKick_chans, hact, enterRecovery_chans, getElem_set_same]
      exact restOf_not_driven c _
    rcases settleVerdict_chans_or_locked c (reportKick c false d.isStep (afterKick c false d (finalCharge c s).callPass)) with e | e
    · rwa [e]
    · exact not_driven_of_locked e
  | _ => simp only [Channel.isKicking, ha, Bool.false_eq_true] at h

theorem endHold_of_holding {s : State} {d : Drive} {e : Nat} (h : s.chans[c].act = .holding d e) :
    endHold c s = withdrawRekick c (enterRecovery c (finalCharge c s)).callPass := by
  simp only [endHold, h]

theorem endHold_of_not_holding {s : State} (h : s.chans[c].isHolding = false) : endHold c s = s := by
  simp only [endHold]; split
  · rename_i e
    simp only [Channel.isHolding, e, reduceCtorEq] at h
  · rfl

@[simp] theorem withdrawRekick_chans : (withdrawRekick c s).chans = s.chans := withdraw_chans s _

theorem restOf_finalCharge : restOf c (finalCharge c s) = restOf c s := by
  simp only [restOf, finalCharge_coils, State.after, finalCharge_now]

theorem endHold_chans {s : State} {d : Drive} {e : Nat} (h : s.chans[c].act = .holding d e) :
    (endHold c s).chans = s.chans.set c { s.chans[c] with act := restOf c s } := by
  rw [endHold_of_holding c h, withdrawRekick_chans, State.callPass_chans, enterRecovery_chans, finalCharge_chans,
    restOf_finalCharge]

/-- The end of a channel's drive leaves the channel without one (R5, R6). -/
theorem endDrive_not_driven : (endDrive c s).chans[c].driven = false := by
  cases hk : s.chans[c].isKicking
  · have he : endDrive c s = endHold c s := by simp only [endDrive, hk, Bool.false_eq_true, if_false]
    cases ha : s.chans[c].act with
    | holding d e =>
      rw [he, endHold_chans c ha, getElem_set_same]
      exact restOf_not_driven c _
    | _ =>
      have hh : s.chans[c].isHolding = false := by simp only [Channel.isHolding, ha]
      rw [he, endHold_of_not_holding c hh, Channel.driven, hk, hh, Bool.or_self]
  · have he : endDrive c s = endKick c false s := by simp only [endDrive, hk, if_true]
    rw [he]
    exact endKick_cut_not_driven c hk

end

/-! ### The two parts of an edge at a channel -/

/-- What an Open edge does to a channel's waiting Flip (R12). -/
def edgeOnWaiting (i : InputNo) (close : Bool) (c : Chan) (s : State) : State :=
  if !close ∧ s.chans[c].waiting.any (·.trigger == i) then withdrawFlip c s else s

/-- What an edge does to a channel's drive (R14 to R17). -/
def edgeOnDrive (i : InputNo) (close : Bool) (c : Chan) (s : State) : State :=
  match s.chans[c].act with
  | .kicking { kind := .flip ctx _ _, .. } _ _ =>
    if !close ∧ ctx.trigger = i then endKick c false s
    else if close ∧ ctx.eos = some i ∧ ctx.mode ≠ .off then endKick c true s
    else s
  | .holding { kind := .flip ctx left _, .. } _ =>
    if !close ∧ ctx.trigger = i then endHold c s
    else if ctx.eos = some i ∧ ctx.mode = .rekick then
      if close then withdrawRekick c s
      else if 0 < left then submitRekick c ctx s
      else s
    else s
  | _ => s

theorem edgeOn_eq (i : InputNo) (close : Bool) (c : Chan) (s : State) :
    edgeOn i close c s = edgeOnDrive i close c (edgeOnWaiting i close c s) := rfl

/-! ### Nothing is newly driven -/

/-- No channel is driven that was not driven before. -/
def NoNewDrive (s t : State) : Prop := ∀ c : Chan, t.chans[c].driven = true → s.chans[c].driven = true

section
variable {s₀ s : State}

theorem NoNewDrive.refl (s : State) : NoNewDrive s s := fun _ h => h

theorem NoNewDrive.trans {t : State} (h : NoNewDrive s₀ s) (k : NoNewDrive s t) : NoNewDrive s₀ t := fun c hc => h c (k c hc)

theorem NoNewDrive.of_chans {t : State} (h : NoNewDrive s₀ s) (e : t.chans = s.chans) : NoNewDrive s₀ t := by
  intro c hc; rw [e] at hc; exact h c hc

theorem NoNewDrive.of_beyondTrains {t : State} (h : NoNewDrive s₀ s) (e : t.beyondTrains = s.beyondTrains) : NoNewDrive s₀ t :=
  h.of_chans (chans_of_beyondTrains e)

/-- Work on one channel that leaves it undriven, or finds it driven, drives nothing new. -/
theorem NoNewDrive.of_onlyOn {t : State} {c : Chan} (h : NoNewDrive s₀ s) (o : OnlyOn c s t)
    (hc : t.chans[c].driven = true → s.chans[c].driven = true) : NoNewDrive s₀ t := by
  refine h.trans fun c' hd => ?_
  by_cases e : c' = c
  · subst e; exact hc hd
  · rw [(o c' e).1] at hd; exact hd

theorem NoNewDrive.setWaiting (h : NoNewDrive s₀ s) (c : Chan) (x : Option FlipContext) : NoNewDrive s₀ (setWaiting c x s) := by
  refine h.of_onlyOn ((OnlyOn.refl c s).setWaiting x) fun hd => ?_
  rw [setWaiting_chans, getElem_set_same] at hd
  exact hd

theorem NoNewDrive.withdraw (h : NoNewDrive s₀ s) (p : Entry → Bool) : NoNewDrive s₀ (withdraw p s) := h.of_chans (by simp)
theorem NoNewDrive.withdrawFlip (h : NoNewDrive s₀ s) (c : Chan) : NoNewDrive s₀ (withdrawFlip c s) := (h.withdraw _).setWaiting c _

theorem NoNewDrive.submitFlip (h : NoNewDrive s₀ s) (c : Chan) (x : FlipContext) : NoNewDrive s₀ (submitFlip c x s) := by
  have hs := beyondTrains_submit s (newEntry s c .flip .flip (.rule x.rule) x.persistent s.coils[c].k)
  simp only [Machine.submitFlip]
  split <;> rename_i heq <;> rw [heq] at hs
  · exact h.of_beyondTrains hs
  · exact (h.of_beyondTrains hs).setWaiting _ _
  · exact h.of_beyondTrains hs

theorem NoNewDrive.becomeIdle (h : NoNewDrive s₀ s) (c : Chan) : NoNewDrive s₀ (becomeIdle c s) := by
  refine h.of_onlyOn (OnlyOn.refl c s).becomeIdle fun hd => ?_
  rw [becomeIdle_chans, getElem_set_same] at hd
  exact absurd hd (by simp [not_driven_of_idle])

theorem NoNewDrive.lockChannel (h : NoNewDrive s₀ s) (c : Chan) (k : LockCause) : NoNewDrive s₀ (lockChannel c k s) := by
  refine h.of_onlyOn ((OnlyOn.refl c s).lockChannel k) fun hd => ?_
  rw [not_driven_of_locked (lockChannel_act c s k)] at hd
  cases hd

/-- A kick's end may turn the kick into a hold, and drives nothing else. -/
theorem NoNewDrive.endKick (h : NoNewDrive s₀ s) (c : Chan) (done : Bool) : NoNewDrive s₀ (endKick c done s) := by
  cases hk : s.chans[c].isKicking
  · rwa [endKick_of_not_kicking done hk]
  · exact h.of_onlyOn ((OnlyOn.refl c s).endKick done) fun _ => by simp only [Channel.driven, hk, Bool.true_or]

theorem NoNewDrive.endHold (h : NoNewDrive s₀ s) (c : Chan) : NoNewDrive s₀ (endHold c s) := by
  cases ha : s.chans[c].act with
  | holding d e => exact h.of_onlyOn (OnlyOn.refl c s).endHold fun _ => driven_of_holding ha
  | _ => simpa only [Machine.endHold, ha] using h

theorem NoNewDrive.endDrive (h : NoNewDrive s₀ s) (c : Chan) : NoNewDrive s₀ (endDrive c s) := by
  simp only [Machine.endDrive]; split
  · exact h.endKick c _
  · exact h.endHold c

theorem NoNewDrive.forChans {f : Chan → State → State} (h : NoNewDrive s₀ s)
    (hf : ∀ c t, NoNewDrive s₀ t → NoNewDrive s₀ (f c t)) : NoNewDrive s₀ (forChans f s) :=
  forChans_invariant hf h

theorem NoNewDrive.endFlipWork (h : NoNewDrive s₀ s) (p : FlipContext → Bool) : NoNewDrive s₀ (endFlipWork p s) := by
  refine h.forChans fun c t ht => ?_
  have hd : NoNewDrive s₀ (if t.chans[c].running?.any p then Machine.endDrive c t else t) := by
    split
    · exact ht.endDrive c
    · exact ht
  have hw : ∀ u, NoNewDrive s₀ u → NoNewDrive s₀ (if u.chans[c].waiting.any p then Machine.withdrawFlip c u else u) := by
    intro u hu
    split
    · exact hu.withdrawFlip c
    · exact hu
  exact hw _ hd

theorem NoNewDrive.emptyQueue (h : NoNewDrive s₀ s) : NoNewDrive s₀ (emptyQueue s) :=
  NoNewDrive.forChans (h.of_chans (t := (s.setQueue []).setHeld []) rfl) fun c _ ht => ht.setWaiting c none

theorem NoNewDrive.reduceQueue (h : NoNewDrive s₀ s) : NoNewDrive s₀ (reduceQueue s) := by
  refine NoNewDrive.forChans (h.of_chans (t := (s.setQueue (s.queue.filter (·.persistent))).setHeld []) rfl) fun c t ht => ?_
  split
  · exact ht
  · exact ht.setWaiting c none

theorem NoNewDrive.edgeOnDrive (h : NoNewDrive s₀ s) (i : InputNo) (close : Bool) (c : Chan) :
    NoNewDrive s₀ (edgeOnDrive i close c s) := by
  simp only [Machine.edgeOnDrive]
  split
  · split
    · exact h.endKick c _
    · split
      · exact h.endKick c _
      · exact h
  · split
    · exact h.endHold c
    · split
      · split
        · exact h.withdraw _
        · split
          · exact h.of_beyondTrains (by simp)
          · exact h
      · exact h
  · exact h

theorem NoNewDrive.edgeOn (h : NoNewDrive s₀ s) (i : InputNo) (close : Bool) (c : Chan) : NoNewDrive s₀ (edgeOn i close c s) := by
  rw [edgeOn_eq]
  refine NoNewDrive.edgeOnDrive ?_ i close c
  simp only [edgeOnWaiting]
  split
  · exact h.withdrawFlip c
  · exact h

theorem NoNewDrive.channelsEdge (h : NoNewDrive s₀ s) (i : InputNo) (close : Bool) : NoNewDrive s₀ (channelsEdge i close s) :=
  h.forChans fun c _ ht => ht.edgeOn i close c

theorem NoNewDrive.kickMs (h : NoNewDrive s₀ s) (c : Chan) : NoNewDrive s₀ (kickMs c s) := by
  simp only [Machine.kickMs]
  split
  · rename_i ha
    exact h.of_onlyOn ((OnlyOn.refl c s).accrueKick.setChan _) fun _ => driven_of_kicking ha
  · exact h

theorem NoNewDrive.holdMs (h : NoNewDrive s₀ s) (c : Chan) : NoNewDrive s₀ (holdMs c s) := by
  simp only [Machine.holdMs]
  split
  · rename_i d e ha
    have hm : NoNewDrive s₀ ((accrueHold c e s).setChan c { (accrueHold c e s).chans[c] with
        act := .holding { d with charged := d.charged + 1 } e }) :=
      h.of_onlyOn (((OnlyOn.refl c s).accrueHold e).setChan _) fun _ => driven_of_holding ha
    split
    · exact (hm.of_beyondTrains (t := setLatch .heatCutoff _) rfl).endHold c
    · exact hm
  · exact h

theorem NoNewDrive.lowerHold (h : NoNewDrive s₀ s) (c : Chan) : NoNewDrive s₀ (lowerHold c s) := by
  simp only [Machine.lowerHold]
  split
  · rename_i ha
    repeat' split
    · exact (h.of_beyondTrains (t := setLatch .heatCutoff _) rfl).endHold c
    · exact h.of_onlyOn ((OnlyOn.refl c s).setAct _).callPass fun _ => driven_of_holding ha
    · exact h
  · exact h

theorem NoNewDrive.raiseHold (h : NoNewDrive s₀ s) (c : Chan) : NoNewDrive s₀ (raiseHold c s) := by
  simp only [Machine.raiseHold]
  split
  · rename_i ha
    split
    · exact h.of_onlyOn ((OnlyOn.refl c s).setAct _) fun _ => driven_of_holding ha
    · exact h
  · exact h

end

/-! ### After a standing down nothing is driven -/

/-- What work on each channel brings about there, and work on the others keeps, holds everywhere after work on all of them. -/
theorem forChans_each {P : Chan → State → Prop} {f : Chan → State → State} (h : ∀ c s, P c (f c s))
    (k : ∀ c c' s, c' ≠ c → P c s → P c (f c' s)) (s : State) (c : Chan) : P c (forChans f s) := by
  have keep : ∀ (l : List Chan) (t : State), P c t → P c (l.foldl (fun s c => f c s) t) := fun l t ht =>
    foldl_invariant (P := P c) (fun s c' hs => by
      by_cases e : c' = c
      · exact e ▸ h c' s
      · exact k c c' s e hs) l ht
  obtain ⟨l, l', hl⟩ := List.append_of_mem (List.mem_finRange c)
  simp only [forChans, hl, List.foldl_append, List.foldl_cons]
  exact keep l' _ (h c _)

theorem endDrives_not_driven (s : State) (c : Chan) : (endDrives false s).chans[c].driven = false := by
  refine forChans_each (P := fun c t => t.chans[c].driven = false) (fun c s => ?_) (fun c c' s hc hs => ?_) s c
  · simpa using endDrive_not_driven c s
  · simp only [Bool.false_and, Bool.false_eq_true, if_false]
    rw [((OnlyOn.refl c' s).endDrive c hc.symm).1]
    exact hs

end Sys2Proof.Machine
end

section
/-! SUPPORT. No command drives a channel under an open relay (R3, R162): the invariant `ColdWhileOpen`, kept by every part of every command. -/

namespace Sys2Proof.Machine

set_option Elab.async false

/-! ### The invariant and the shared operations -/

section
variable {s t : State}

/-- Under a closed relay the invariant asks for nothing. -/
theorem cold_of_closed (h : s.node.relay = true) : ColdWhileOpen s := fun ho => by rw [h] at ho; cases ho

theorem cold_of_not_driven (h : ∀ c : Chan, s.chans[c].driven = false) : ColdWhileOpen s := fun _ => h

/-- Work that keeps the node's state and drives nothing new keeps the invariant. -/
theorem ColdWhileOpen.of_noNewDrive (h : ColdWhileOpen s) (n : t.node = s.node) (d : NoNewDrive s t) : ColdWhileOpen t := by
  intro ho c
  rw [n] at ho
  by_contra hd
  rw [Bool.not_eq_false] at hd
  exact absurd (d c hd) (by rw [h ho c]; exact Bool.false_ne_true)

theorem ColdWhileOpen.of_drives (h : ColdWhileOpen s) (e : t.beyondDrives = s.beyondDrives) (d : NoNewDrive s t) :
    ColdWhileOpen t := h.of_noNewDrive (node_of_beyondDrives e) d

theorem ColdWhileOpen.of_trains (h : ColdWhileOpen s) (e : t.beyondTrains = s.beyondTrains) : ColdWhileOpen t :=
  h.of_drives (beyondDrives_of_beyondTrains e) ((NoNewDrive.refl s).of_beyondTrains e)

theorem ColdWhileOpen.of_same (h : ColdWhileOpen s) (n : t.node = s.node) (c : t.chans = s.chans) : ColdWhileOpen t :=
  h.of_noNewDrive n ((NoNewDrive.refl s).of_chans c)

theorem cold_foldl {α : Type} {f : State → α → State} (h : ∀ s x, ColdWhileOpen s → ColdWhileOpen (f s x)) (l : List α)
    (hs : ColdWhileOpen s) : ColdWhileOpen (l.foldl f s) := foldl_invariant h l hs

theorem cold_forChans {f : Chan → State → State} (h : ∀ c s, ColdWhileOpen s → ColdWhileOpen (f c s)) (hs : ColdWhileOpen s) :
    ColdWhileOpen (forChans f s) := forChans_invariant h hs

theorem ColdWhileOpen.ite (p : Prop) [Decidable p] {x y : State} (hx : ColdWhileOpen x) (hy : ColdWhileOpen y) :
    ColdWhileOpen (if p then x else y) := by
  split
  · exact hx
  · exact hy

/-- Under an open relay the passes of an event change no channel (R60). -/
theorem passes_open_chans (n : Nat) {s : State} (h : s.node.relay = false) : (passes n s).chans = s.chans := by
  induction n generalizing s with
  | zero => rfl
  | succ n ih =>
    have hh : (handOver s).chans = s.chans := chans_of_beyondTrains (by simp)
    have hr : (handOver s).node.relay = false := by rw [(kept_handOver s).node]; exact h
    simp only [passes]; split
    · rw [pass_open (s := { handOver s with passDue := false }) hr]
      exact (ih (s := { handOver s with passDue := false }) hr).trans hh
    · exact hh

theorem arbitrate_open_chans (h : s.node.relay = false) : (arbitrate s).chans = s.chans := by
  simp only [arbitrate]; split
  · exact passes_open_chans _ h
  · rfl

/-- Grants are made under a closed relay alone (R60). -/
theorem ColdWhileOpen.arbitrate (h : ColdWhileOpen s) : ColdWhileOpen (arbitrate s) := by
  intro ho c
  rw [(kept_arbitrate s).node] at ho
  rw [arbitrate_open_chans ho]
  exact h ho c

/-! ### Updates of what is no channel and no node state -/

theorem ColdWhileOpen.reach (h : ColdWhileOpen s) (n : Nat) : ColdWhileOpen (s.reach n) := h.of_same rfl rfl
theorem ColdWhileOpen.setClocks (h : ColdWhileOpen s) (x : Clocks) : ColdWhileOpen (s.setClocks x) := h.of_same rfl rfl
theorem ColdWhileOpen.setMon (h : ColdWhileOpen s) (x : Monitor) : ColdWhileOpen (s.setMon x) := h.of_same rfl rfl
theorem ColdWhileOpen.setGuard (h : ColdWhileOpen s) (c : Chan) (x : Guard) : ColdWhileOpen (s.setGuard c x) := h.of_same rfl rfl
theorem ColdWhileOpen.setHeat (h : ColdWhileOpen s) (c : Chan) (x : Heat) : ColdWhileOpen (s.setHeat c x) := h.of_same rfl rfl
theorem ColdWhileOpen.setCoil (h : ColdWhileOpen s) (c : Chan) (x : Coil) : ColdWhileOpen (s.setCoil c x) := h.of_same rfl rfl
theorem ColdWhileOpen.setInput (h : ColdWhileOpen s) (i : InputNo) (x : Input) : ColdWhileOpen (s.setInput i x) := h.of_same rfl rfl
theorem ColdWhileOpen.setRule (h : ColdWhileOpen s) (r : RuleNo) (x : Rule) : ColdWhileOpen (s.setRule r x) := h.of_same rfl rfl
theorem ColdWhileOpen.setHoldoff (h : ColdWhileOpen s) (r : RuleNo) (x : Option Nat) : ColdWhileOpen (s.setHoldoff r x) :=
  h.of_same rfl rfl
theorem ColdWhileOpen.setBank (h : ColdWhileOpen s) (b : BankNo) (x : Bank) : ColdWhileOpen (s.setBank b x) := h.of_same rfl rfl
theorem ColdWhileOpen.setUnit (h : ColdWhileOpen s) (u : UnitNo) (x : CounterUnit) : ColdWhileOpen (s.setUnit u x) :=
  h.of_same rfl rfl
theorem ColdWhileOpen.setLamp (h : ColdWhileOpen s) (l : LampNo) (x : Lamp) : ColdWhileOpen (s.setLamp l x) := h.of_same rfl rfl
theorem ColdWhileOpen.setRing (h : ColdWhileOpen s) (r : RingNo) (x : Ring) : ColdWhileOpen (s.setRing r x) := h.of_same rfl rfl
theorem ColdWhileOpen.setTrain (h : ColdWhileOpen s) (k : TrainNo) (x : Option Train) : ColdWhileOpen (s.setTrain k x) :=
  h.of_same rfl rfl
theorem ColdWhileOpen.setQueue (h : ColdWhileOpen s) (q : List Entry) : ColdWhileOpen (s.setQueue q) := h.of_same rfl rfl
theorem ColdWhileOpen.setPort (h : ColdWhileOpen s) (x : Port) : ColdWhileOpen (s.setPort x) := h.of_same rfl rfl
theorem ColdWhileOpen.setDownstream (h : ColdWhileOpen s) (b : List Byte) : ColdWhileOpen (s.setDownstream b) := h.of_same rfl rfl
theorem ColdWhileOpen.setLatch (h : ColdWhileOpen s) (x : Latch) : ColdWhileOpen (setLatch x s) := h.of_same rfl rfl
theorem ColdWhileOpen.setLatchIf (h : ColdWhileOpen s) (b : Bool) (x : Latch) : ColdWhileOpen (setLatchIf b x s) :=
  h.of_trains (by simp)
theorem ColdWhileOpen.callPass (h : ColdWhileOpen s) : ColdWhileOpen s.callPass := h.of_same rfl rfl
theorem ColdWhileOpen.countDropped (h : ColdWhileOpen s) : ColdWhileOpen (countDropped s) := h.of_same rfl rfl
theorem ColdWhileOpen.damageSeen (h : ColdWhileOpen s) : ColdWhileOpen (damageSeen s) := h.of_same rfl rfl
theorem ColdWhileOpen.refuse (h : ColdWhileOpen s) (who : Asker) (why : Reason) : ColdWhileOpen (refuse who why s) := h.of_same rfl rfl
theorem ColdWhileOpen.refuseOrder (h : ColdWhileOpen s) (tag : Byte) (why : Reason) : ColdWhileOpen (refuseOrder tag why s) :=
  h.refuse _ _

/-! ### Work on channels -/

theorem ColdWhileOpen.endKick (h : ColdWhileOpen s) (c : Chan) (done : Bool) : ColdWhileOpen (endKick c done s) :=
  h.of_drives (by simp) ((NoNewDrive.refl s).endKick c done)
theorem ColdWhileOpen.endDrive (h : ColdWhileOpen s) (c : Chan) : ColdWhileOpen (endDrive c s) :=
  h.of_drives (by simp) ((NoNewDrive.refl s).endDrive c)
theorem ColdWhileOpen.becomeIdle (h : ColdWhileOpen s) (c : Chan) : ColdWhileOpen (becomeIdle c s) :=
  h.of_drives (by simp) ((NoNewDrive.refl s).becomeIdle c)
theorem ColdWhileOpen.endFlipWork (h : ColdWhileOpen s) (p : FlipContext → Bool) : ColdWhileOpen (endFlipWork p s) :=
  h.of_drives (by simp) ((NoNewDrive.refl s).endFlipWork p)
theorem ColdWhileOpen.lockChannel (h : ColdWhileOpen s) (c : Chan) (k : LockCause) : ColdWhileOpen (lockChannel c k s) :=
  h.of_drives (by simp) ((NoNewDrive.refl s).lockChannel c k)
theorem ColdWhileOpen.setWaiting (h : ColdWhileOpen s) (c : Chan) (x : Option FlipContext) : ColdWhileOpen (setWaiting c x s) :=
  h.of_drives (by simp) ((NoNewDrive.refl s).setWaiting c x)
theorem ColdWhileOpen.withdraw (h : ColdWhileOpen s) (p : Entry → Bool) : ColdWhileOpen (withdraw p s) := h.of_trains (by simp)
theorem ColdWhileOpen.withdrawAll (h : ColdWhileOpen s) (c : Chan) : ColdWhileOpen (withdrawAll c s) :=
  (h.withdraw _).setWaiting c none
theorem ColdWhileOpen.clearClaimed (h : ColdWhileOpen s) (c : Chan) : ColdWhileOpen (clearClaimed c s) :=
  (h.withdraw _).setWaiting c none
theorem ColdWhileOpen.submitFlip (h : ColdWhileOpen s) (c : Chan) (x : FlipContext) : ColdWhileOpen (submitFlip c x s) :=
  h.of_drives (by simp) ((NoNewDrive.refl s).submitFlip c x)
theorem ColdWhileOpen.channelsEdge (h : ColdWhileOpen s) (i : InputNo) (close : Bool) : ColdWhileOpen (channelsEdge i close s) :=
  h.of_drives (by simp) ((NoNewDrive.refl s).channelsEdge i close)
theorem ColdWhileOpen.kickMs (h : ColdWhileOpen s) (c : Chan) : ColdWhileOpen (kickMs c s) :=
  h.of_drives (by simp) ((NoNewDrive.refl s).kickMs c)
theorem ColdWhileOpen.holdMs (h : ColdWhileOpen s) (c : Chan) : ColdWhileOpen (holdMs c s) :=
  h.of_drives (by simp) ((NoNewDrive.refl s).holdMs c)

/-! ### The node states -/

theorem noNewDrive_keeps_undriven (d : NoNewDrive s t) (h : ∀ c : Chan, s.chans[c].driven = false) (c : Chan) :
    t.chans[c].driven = false := by
  by_contra hd
  rw [Bool.not_eq_false] at hd
  exact absurd (d c hd) (by rw [h c]; exact Bool.false_ne_true)

/-- An entry to a node state that opens the relay leaves nothing driven (R8). -/
theorem standDown_not_driven (st : NodeState) (s : State) (c : Chan) : (standDown st s).chans[c].driven = false :=
  noNewDrive_keeps_undriven (NoNewDrive.refl _).emptyQueue (endDrives_not_driven _) c

theorem cold_standDown (st : NodeState) (s : State) : ColdWhileOpen (standDown st s) :=
  cold_of_not_driven (standDown_not_driven st s)

theorem cold_enterArming (s : State) : ColdWhileOpen (enterArming s) := cold_of_closed rfl

theorem enterChainLost_node (s : State) :
    (enterChainLost s).node = { s.node with st := .chainLost, relay := persistentArmed s, settle := none } :=
  node_of_beyondDrives (t := enterChainLost s) (s := stopSilence (s.setNode { s.node with
    st := .chainLost, relay := persistentArmed s, settle := none })) (by simp [enterChainLost])

/-- In CHAIN-LOST drives go on only under a relay that stays closed (R8, R167). -/
theorem cold_enterChainLost (s : State) : ColdWhileOpen (enterChainLost s) := by
  cases hp : persistentArmed s
  · refine cold_of_not_driven fun c => ?_
    simp only [enterChainLost, hp]
    exact noNewDrive_keeps_undriven (NoNewDrive.refl _).reduceQueue (endDrives_not_driven _) c
  · exact cold_of_closed (by rw [enterChainLost_node]; exact hp)

theorem ColdWhileOpen.trip (h : ColdWhileOpen s) (cause : TripCause) (c : Option Chan) : ColdWhileOpen (trip cause c s) := by
  simp only [Machine.trip]; split
  · exact h
  · exact ((cold_standDown .tripped s).setMon _).setLatch _

theorem ColdWhileOpen.goodFrameEnd (h : ColdWhileOpen s) : ColdWhileOpen (goodFrameEnd s) := by
  simp only [Machine.goodFrameEnd]; split
  · exact h.setPort _
  · exact h.setPort _
  · exact cold_standDown _ s
  · exact h

theorem cold_enterQuiet (mask : BitVec 32) (s : State) : ColdWhileOpen (enterQuiet mask s) := by
  simp only [enterQuiet]; split
  · exact cold_enterArming _
  · refine cold_of_not_driven fun c => ?_
    rw [State.setNode_chans]
    exact standDown_not_driven .quiet s c

/-! ### The orders -/

theorem ColdWhileOpen.obeyGo (h : ColdWhileOpen s) (tag : Byte) : ColdWhileOpen (obeyGo tag s) := by
  simp only [Machine.obeyGo]; split
  · exact cold_enterArming _
  · exact h
  · exact h
  · exact cold_enterArming _
  · exact h
  · exact h.refuseOrder _ _

theorem ColdWhileOpen.obeyQuiet (h : ColdWhileOpen s) (tag : Byte) (mask : BitVec 32) : ColdWhileOpen (obeyQuiet tag mask s) := by
  simp only [Machine.obeyQuiet]; split
  · exact cold_enterQuiet _ s
  · exact cold_enterQuiet _ s
  · exact cold_enterQuiet _ s
  · exact h
  · exact h
  · exact h.refuseOrder _ _

theorem softReset_chans (s : State) : (softReset s).chans = (standDown .safe s).chans := by
  simp only [softReset, State.setPort_chans, State.setNode_chans]

theorem cold_softReset (s : State) : ColdWhileOpen (softReset s) := cold_of_not_driven fun c => by
  rw [softReset_chans]
  exact standDown_not_driven .safe s c

theorem ColdWhileOpen.inLive (h : ColdWhileOpen s) {a : State → State} (ha : ∀ s, ColdWhileOpen s → ColdWhileOpen (a s))
    (tag : Byte) : ColdWhileOpen (inLive tag a s) := by
  simp only [Machine.inLive]; split
  · exact ha s h
  · exact h.refuseOrder _ _

theorem ColdWhileOpen.withRef (h : ColdWhileOpen s) {n : Nat} {a : Fin n → State → State}
    (ha : ∀ i s, ColdWhileOpen s → ColdWhileOpen (a i s)) (tag b : Byte) : ColdWhileOpen (withRef tag n b a s) := by
  simp only [Machine.withRef]; split
  · exact ha _ s h
  · exact h.refuseOrder _ _

theorem ColdWhileOpen.obeyPulse (h : ColdWhileOpen s) (tag c k : Byte) : ColdWhileOpen (obeyPulse tag c k s) := by
  refine h.inLive (fun s h => h.withRef (fun c s h => ?_) _ _) _
  split
  · exact h.refuseOrder _ _
  · exact h.of_trains (by simp)

theorem ColdWhileOpen.obeyRelease (h : ColdWhileOpen s) (tag c : Byte) : ColdWhileOpen (obeyRelease tag c s) := by
  refine h.withRef (fun c s h => ?_) _ _
  split
  · exact h.refuseOrder _ _
  · exact (h.endDrive c).withdraw _

theorem ColdWhileOpen.obeyArm (h : ColdWhileOpen s) (mask : Byte) : ColdWhileOpen (obeyArm mask s) := h.of_same rfl rfl

theorem ColdWhileOpen.obeyDisarm (h : ColdWhileOpen s) (mask : Byte) : ColdWhileOpen (obeyDisarm mask s) := by
  have ha : ColdWhileOpen { s with armed := s.armed &&& ~~~mask } := h.of_same rfl rfl
  exact (ha.endFlipWork _).withdraw _

theorem ColdWhileOpen.runOn (h : ColdWhileOpen s) (tag : Byte) (c : Chan) (n : Nat) (p : Profile) :
    ColdWhileOpen (runOn tag c n p s) := by
  simp only [Machine.runOn]
  split
  · split
    · rename_i he; exact h.of_trains (beyondTrains_extend he)
    · exact h.refuseOrder _ _
  · split
    · exact h.of_trains (by simp)
    · exact h.refuseOrder _ _

theorem ColdWhileOpen.obeyRun (h : ColdWhileOpen s) (tag c n : Byte) (a b : Half) (r i : Byte) :
    ColdWhileOpen (obeyRun tag c n a b r i s) := by
  refine h.inLive (fun s h => h.withRef (fun c s h => ?_) _ _) _
  split
  · exact h.refuseOrder _ _
  · exact h.runOn _ _ _ _

theorem ColdWhileOpen.obeyCancel (h : ColdWhileOpen s) (tag target n : Byte) : ColdWhileOpen (obeyCancel tag target n s) := by
  simp only [Machine.obeyCancel]
  split
  · refine h.withRef (fun c s h => ?_) _ _
    split
    · exact h.refuseOrder _ _
    · exact h.of_trains (by simp)
  · exact h.withRef (fun u s h => h.of_trains (by simp)) _ _
  · exact h.withRef (fun b s h => h.of_trains (by simp)) _ _
  · exact h.refuseOrder _ _

theorem ColdWhileOpen.requestAdd (h : ColdWhileOpen s) (who : Asker) (b : BankNo) (v : Nat) :
    ColdWhileOpen (requestAdd who b v s) := by
  simp only [Machine.requestAdd]; split
  · exact h.refuse _ _
  · exact h.of_trains (by simp)

theorem ColdWhileOpen.requestStep (h : ColdWhileOpen s) (who : Asker) (u : UnitNo) (n : Int) :
    ColdWhileOpen (requestStep who u n s) := by
  refine .ite _ (h.refuse _ _) (.ite _ (((h.setUnit _ _).setLatch _).refuse _ _) ?_)
  split
  · exact h.refuse _ _
  · exact h.of_trains (beyondTrains_takeStep _ _ _ _)

theorem ColdWhileOpen.obeyAdd (h : ColdWhileOpen s) (tag b : Byte) (v : BitVec 24) : ColdWhileOpen (obeyAdd tag b v s) := by
  refine h.inLive (fun s h => h.withRef (fun b s h => ?_) _ _) _
  simp only []
  split
  · exact h
  · exact h.requestAdd _ _ _

theorem ColdWhileOpen.obeyZero (h : ColdWhileOpen s) (tag b : Byte) : ColdWhileOpen (obeyZero tag b s) := by
  refine h.inLive (fun s h => h.withRef (fun b s h => ?_) _ _) _
  split
  · exact h.refuseOrder _ _
  · exact h.of_trains (by simp)

theorem ColdWhileOpen.obeyStep (h : ColdWhileOpen s) (tag u n : Byte) : ColdWhileOpen (obeyStep tag u n s) := by
  refine h.inLive (fun s h => h.withRef (fun u s h => ?_) _ _) _
  simp only []
  split
  · exact h
  · exact h.requestStep _ _ _

theorem ColdWhileOpen.obeyLock (h : ColdWhileOpen s) (tag c : Byte) : ColdWhileOpen (obeyLock tag c s) :=
  h.withRef (fun c _ h => h.lockChannel c _) _ _

theorem ColdWhileOpen.obeyUnlock (h : ColdWhileOpen s) (tag c : Byte) : ColdWhileOpen (obeyUnlock tag c s) := by
  refine h.withRef (fun c s h => ?_) _ _
  split
  · exact h.refuseOrder _ _
  · simp only [unlockChannel]; split
    · exact (h.setGuard _ _).becomeIdle c
    · exact h

theorem ColdWhileOpen.changeRun (h : ColdWhileOpen s) (first n : Nat) (f : Nat → Lamp → Lamp) :
    ColdWhileOpen (changeRun first n f s) := by
  refine cold_foldl (fun s l h => ?_) _ h
  split
  · exact h.setLamp _ _
  · exact h

theorem ColdWhileOpen.obeySetLamps (h : ColdWhileOpen s) (tag first n : Byte) (levels : List Byte) :
    ColdWhileOpen (obeySetLamps tag first n levels s) := by
  simp only [Machine.obeySetLamps]; split
  · exact h.refuseOrder _ _
  · exact h.changeRun _ _ _

theorem ColdWhileOpen.obeySetModes (h : ColdWhileOpen s) (tag first n : Byte) (modes : List Byte) :
    ColdWhileOpen (obeySetModes tag first n modes s) := by
  simp only [Machine.obeySetModes]
  split
  · exact h.refuseOrder _ _
  · split
    · exact h.changeRun _ _ _
    · exact h.refuseOrder _ _

theorem ColdWhileOpen.moveRing (h : ColdWhileOpen s) (r : RingNo) (n : Int) : ColdWhileOpen (moveRing r n s) := by
  simp only [Machine.moveRing]; split
  · exact h
  · exact cold_foldl (fun s x h => h.setLamp _ _) _ h

theorem ColdWhileOpen.obeyMove (h : ColdWhileOpen s) (tag r n : Byte) : ColdWhileOpen (obeyMove tag r n s) := by
  refine h.withRef (fun r s h => ?_) _ _
  split
  · exact h.refuseOrder _ _
  · exact h.moveRing _ _

theorem ColdWhileOpen.clearCountsOf (h : ColdWhileOpen s) (mask : BitVec 32) : ColdWhileOpen (clearCountsOf mask s) := by
  refine cold_foldl (fun s i h => ?_) _ h
  split
  · exact h.setInput _ _
  · exact h

/-! ### The loads -/

theorem ColdWhileOpen.storeCoil (h : ColdWhileOpen s) (tag : Byte) (r : CoilRec) : ColdWhileOpen (storeCoil tag r s) := by
  refine h.withRef (fun c s h => ?_) _ _
  split
  · exact h.refuseOrder _ _
  · have hr : ColdWhileOpen (reheat c s.coils[c] (coilOf r) ((Machine.withdrawAll c s).setCoil c (coilOf r))) :=
      (((h.withdrawAll c).setCoil _ _).setHeat _ _).setLatchIf _ _
    simp only [reguard]
    split
    · exact hr.setGuard _ _
    · exact hr

theorem ColdWhileOpen.storeInput (h : ColdWhileOpen s) (tag : Byte) (r : InputRec) : ColdWhileOpen (storeInput tag r s) := by
  refine h.withRef (fun i s h => ?_) _ _
  repeat' split
  · exact h.refuseOrder _ _
  · exact h.setInput _ _
  · exact h.refuseOrder _ _

theorem ColdWhileOpen.storeRule (h : ColdWhileOpen s) (tag : Byte) (r : RuleRec) : ColdWhileOpen (storeRule tag r s) := by
  refine h.withRef (fun n s h => ?_) _ _
  split
  · exact h.refuseOrder _ _
  · split
    · exact h.refuseOrder _ _
    · exact (((h.endFlipWork _).withdraw _).setHoldoff _ _).setRule _ _

theorem ColdWhileOpen.storeBank (h : ColdWhileOpen s) (tag : Byte) (r : BankRec) : ColdWhileOpen (storeBank tag r s) := by
  refine h.withRef (fun b s h => ?_) _ _
  split
  · exact h.refuseOrder _ _
  · split
    · exact h.refuseOrder _ _
    · exact .ite _ (h.refuseOrder _ _) (.ite _ (h.refuseOrder _ _)
        ((cold_foldl (fun _ c h => h.clearClaimed c) _ h).setBank _ _))

theorem ColdWhileOpen.storeUnit (h : ColdWhileOpen s) (tag : Byte) (r : UnitRec) : ColdWhileOpen (storeUnit tag r s) := by
  refine h.withRef (fun u s h => ?_) _ _
  refine .ite _ ?_ (.ite _ (h.refuseOrder _ _) (h.setUnit _ _))
  split
  · refine .ite _ (h.refuseOrder _ _) ?_
    split
    · exact h.refuseOrder _ _
    · exact ((h.clearClaimed _).clearClaimed _).setUnit _ _
  · exact h.refuseOrder _ _

theorem ColdWhileOpen.storeRing (h : ColdWhileOpen s) (tag : Byte) (r : RingRec) : ColdWhileOpen (storeRing tag r s) := by
  refine h.withRef (fun n s h => ?_) _ _
  repeat' split
  · exact h.refuseOrder _ _
  · exact h.refuseOrder _ _
  · exact h.refuseOrder _ _
  · exact h.setRing _ _

/-- Whatever an order or load does when it is executed, it drives nothing under an open relay. -/
theorem ColdWhileOpen.act (h : ColdWhileOpen s) (i : Instr) : ColdWhileOpen (act i s) := by
  cases i with
  | go f => exact h.obeyGo _
  | quiet f m => exact h.obeyQuiet _ _
  | reset f => exact cold_softReset s
  | pulse f c k => exact h.obeyPulse _ _ _
  | release f c => exact h.obeyRelease _ _
  | arm f m => exact h.obeyArm _
  | disarm f m => exact h.obeyDisarm _
  | run f c n si fi d k => exact h.obeyRun _ _ _ _ _ _ _
  | cancel f t n => exact h.obeyCancel _ _ _
  | add f b v => exact h.obeyAdd _ _ _
  | zero f b => exact h.obeyZero _ _
  | step f u n => exact h.obeyStep _ _ _
  | lock f c => exact h.obeyLock _ _
  | unlock f c => exact h.obeyUnlock _ _
  | setLamps f a n ls => exact h.obeySetLamps _ _ _ _
  | setModes f a n ms => exact h.obeySetModes _ _ _ _
  | move f r n => exact h.obeyMove _ _ _
  | acknowledge f m => exact h.of_same rfl rfl
  | clearCounts f m => exact h.clearCountsOf _
  | loadNodeSettings f r => exact h.of_same rfl rfl
  | loadCoil f r => exact h.storeCoil _ _
  | loadInput f r => exact h.storeInput _ _
  | loadRule f r => exact h.storeRule _ _
  | loadBank f r => exact h.storeBank _ _
  | loadUnit f r => exact h.storeUnit _ _
  | loadRing f r => exact h.storeRing _ _
  | _ => exact h

/-! ### Frames -/

theorem ColdWhileOpen.plainFrame (h : ColdWhileOpen s) {a : State → State} (ha : ∀ s, ColdWhileOpen s → ColdWhileOpen (a s))
    (bytes : List Byte) (f : Head) : ColdWhileOpen (plainFrame bytes f a s) := by
  simp only [Machine.plainFrame, frameEnd]
  repeat' split
  · exact h.setDownstream _
  · exact (ha _ (h.setDownstream _).goodFrameEnd).arbitrate
  · exact (h.setDownstream _).damageSeen

/-- An order or load, heard or not, keeps the invariant if what it asks for does. -/
theorem ColdWhileOpen.orderFrame (h : ColdWhileOpen s) {a : State → State} (ha : ∀ s, ColdWhileOpen s → ColdWhileOpen (a s))
    (i : Instr) (f : Head) : ColdWhileOpen (orderFrame i f a s) := by
  simp only [Machine.orderFrame]
  split
  · exact h.plainFrame ha _ _
  · exact h.plainFrame (fun _ hs => hs) _ _

theorem ColdWhileOpen.queryFrame (h : ColdWhileOpen s) (f : Head) (p : List Byte) (a : Option Answerer) :
    ColdWhileOpen (queryFrame f p a s) := h.plainFrame (fun _ hs => hs) _ _

theorem ColdWhileOpen.moveToPending (h : ColdWhileOpen s) : ColdWhileOpen (moveToPending s) := h.of_same rfl rfl

theorem ColdWhileOpen.settlePending (h : ColdWhileOpen s) (ok : Bool) : ColdWhileOpen (settlePending ok s) := by
  have hr : ColdWhileOpen { s with reported := none } := h.of_same rfl rfl
  simp only [Machine.settlePending]
  split
  · exact h
  · split
    · exact hr
    · exact cold_foldl (fun s i hs => hs.setInput _ _) _ hr

theorem ColdWhileOpen.abandonedFrame (h : ColdWhileOpen s) (bytes : List Byte) : ColdWhileOpen (abandonedFrame bytes s) := by
  simp only [Machine.abandonedFrame]
  split
  · exact h.setDownstream _
  · split
    · exact ((h.setDownstream _).moveToPending.settlePending _).damageSeen
    · exact (h.setDownstream _).damageSeen

theorem ColdWhileOpen.badHeaderFrame (h : ColdWhileOpen s) (bytes : List Byte) : ColdWhileOpen (badHeaderFrame bytes s) := by
  simp only [Machine.badHeaderFrame]; split
  · exact h.setDownstream _
  · exact (h.setDownstream _).damageSeen

/-! ### Samples and edges -/

theorem ColdWhileOpen.makeRequest (h : ColdWhileOpen s) (n : RuleNo) : ColdWhileOpen (makeRequest n s) := by
  simp only [Machine.makeRequest]
  split
  · exact h
  · split
    · exact h.refuse _ _
    · exact h.of_trains (by simp)
  · split
    · exact h.refuse _ _
    · exact h.submitFlip _ _
  · split
    · exact h
    · exact h.requestStep _ _ _
  · split
    · exact h
    · exact h.requestAdd _ _ _

theorem ColdWhileOpen.fireRule (h : ColdWhileOpen s) (n : RuleNo) : ColdWhileOpen (fireRule n s) := by
  simp only [Machine.fireRule]
  split
  · exact (h.makeRequest n).arbitrate
  · exact ((h.setHoldoff _ _).makeRequest n).arbitrate

theorem ColdWhileOpen.rulesEdge (h : ColdWhileOpen s) (i : InputNo) (close : Bool) : ColdWhileOpen (rulesEdge i close s) := by
  refine cold_foldl (fun s n hs => ?_) _ h
  split
  · exact hs.fireRule n
  · exact hs

theorem ColdWhileOpen.nodeClosed (h : ColdWhileOpen s) (i : InputNo) : ColdWhileOpen (nodeClosed i s) := by
  simp only [Machine.nodeClosed]; split
  · exact cold_enterArming _
  · exact h

theorem ColdWhileOpen.deliver (h : ColdWhileOpen s) (i : InputNo) (close : Bool) (x : Consumer) :
    ColdWhileOpen (deliver i close x s) := by
  cases x with
  | ruleEngine => exact h.rulesEdge i close
  | channelDrivers => exact (h.channelsEdge i close).arbitrate
  | unitLogic =>
    cases close
    · exact h.arbitrate
    · exact (h.of_trains (beyondTrains_unitsClosed s i)).arbitrate
  | nodeState =>
    cases close
    · exact h.arbitrate
    · exact (h.nodeClosed i).arbitrate

theorem ColdWhileOpen.deliverEdge (h : ColdWhileOpen s) (levels : BitVec 32) (d : InputNo × Consumer) :
    ColdWhileOpen (deliverEdge levels d s) := by
  simp only [Machine.deliverEdge]
  refine ColdWhileOpen.deliver ?_ _ _ _
  split
  · exact h
  · exact h.setInput _ _

theorem ColdWhileOpen.sampleInputs (h : ColdWhileOpen s) (x : Sample) : ColdWhileOpen (sampleInputs x s) :=
  cold_foldl (fun _ d hs => hs.deliverEdge _ d) _
    (cold_foldl (fun _ _ hs => hs.setInput _ _) _ ((h.reach _).setClocks _))

theorem ColdWhileOpen.sweepFrame (h : ColdWhileOpen s) (f : Head) (first n : Byte) (slots : List Byte) (xs : List Sample) :
    ColdWhileOpen (sweepFrame f first n slots xs s) := by
  have hx : ∀ t, ColdWhileOpen t → ColdWhileOpen (xs.foldl (fun s x => Machine.sampleInputs x s) t) := fun t ht =>
    cold_foldl (fun _ x hs => hs.sampleInputs x) _ ht
  simp only [Machine.sweepFrame]
  refine ColdWhileOpen.plainFrame ?_ (fun _ hs => hs) _ _
  cases writesSlot s f first n slots
  · exact hx _ h
  · exact (hx _ h.moveToPending).settlePending _

theorem ColdWhileOpen.actOn (h : ColdWhileOpen s) (tag : Byte) (read : Except Misread Instr) (heard : Bool) :
    ColdWhileOpen ((if heard then actOn tag read else id) s) := by
  cases heard
  · exact h
  · cases read with
    | ok i => exact h.act i
    | error e => exact h.refuseOrder _ _

theorem ColdWhileOpen.wholeFrame (h : ColdWhileOpen s) (kind : Byte) (f : Head) (p : List Byte) :
    ColdWhileOpen (wholeFrame kind f p s) := by
  simp only [Machine.wholeFrame]
  split
  · exact h.plainFrame (fun _ hs => hs.actOn _ _ _) _ _
  · exact h.plainFrame (fun _ hs => hs.actOn _ _ _) _ _
  · exact h.queryFrame _ _ _
  · split
    · exact h.sweepFrame _ _ _ _ _
    · exact h.plainFrame (fun _ hs => hs) _ _
  · exact h.plainFrame (fun _ hs => hs) _ _

theorem ColdWhileOpen.portFrame (h : ColdWhileOpen s) (bytes : List Byte) : ColdWhileOpen (portFrame bytes s) := by
  simp only [Machine.portFrame]; split
  · exact h.setDownstream _
  · exact h.abandonedFrame _
  · exact h.badHeaderFrame _
  · exact (h.wholeFrame _ _ _).setDownstream _

/-! ### Timers -/

theorem ColdWhileOpen.kickOver (h : ColdWhileOpen s) (c : Chan) : ColdWhileOpen (kickOver c s) := by
  simp only [Machine.kickOver]; split
  · exact ((h.reach _).endKick c true).arbitrate
  · exact h

theorem ColdWhileOpen.holdLimitOver (h : ColdWhileOpen s) (c : Chan) : ColdWhileOpen (holdLimitOver c s) := by
  simp only [Machine.holdLimitOver]; split
  · exact h
  · exact ((h.reach _).endDrive c).arbitrate

theorem ColdWhileOpen.recoveryOver (h : ColdWhileOpen s) (c : Chan) : ColdWhileOpen (recoveryOver c s) := by
  simp only [Machine.recoveryOver]; split
  · exact ((h.reach _).becomeIdle c).arbitrate
  · exact h

theorem ColdWhileOpen.kickAccrualDue (h : ColdWhileOpen s) (c : Chan) : ColdWhileOpen (kickAccrualDue c s) := by
  simp only [Machine.kickAccrualDue]
  repeat' split
  · exact (h.reach _).kickMs c
  · exact h
  · exact h

theorem ColdWhileOpen.holdAccrualDue (h : ColdWhileOpen s) (c : Chan) : ColdWhileOpen (holdAccrualDue c s) := by
  simp only [Machine.holdAccrualDue]; split
  · exact ((h.reach _).holdMs c).arbitrate
  · exact h

theorem ColdWhileOpen.chargeBefore (h : ColdWhileOpen s) (n : Nat) (c : Chan) : ColdWhileOpen (chargeBefore n c s) := by
  simp only [Machine.chargeBefore]
  repeat' split
  · exact h.kickMs c
  · exact h
  · exact h.holdMs c
  · exact h
  · exact h

theorem ColdWhileOpen.lowerHold (h : ColdWhileOpen s) (c : Chan) : ColdWhileOpen (lowerHold c s) := by
  refine h.of_drives ?_ ((NoNewDrive.refl s).lowerHold c)
  simp only [Machine.lowerHold]
  repeat' split
  all_goals simp

theorem ColdWhileOpen.raiseHold (h : ColdWhileOpen s) (c : Chan) : ColdWhileOpen (raiseHold c s) := by
  refine h.of_drives ?_ ((NoNewDrive.refl s).raiseHold c)
  simp only [Machine.raiseHold]
  repeat' split
  all_goals simp

theorem ColdWhileOpen.cool (h : ColdWhileOpen s) : ColdWhileOpen (cool s) := by
  have hc : ColdWhileOpen (forChans Machine.raiseHold (forChans Machine.lowerHold (forChans coolChannel
      (forChans (Machine.chargeBefore s.clocks.cooling) ((s.reach s.clocks.cooling).setClocks
        { s.clocks with cooling := s.clocks.cooling + 16 * Config.msTime }))))) :=
    cold_forChans (fun c _ h => h.raiseHold c) (cold_forChans (fun c _ h => h.lowerHold c)
      (cold_forChans (fun c _ h => h.setHeat c _) (cold_forChans (fun c _ h => h.chargeBefore _ c) ((h.reach _).setClocks _))))
  simp only [Machine.cool]
  split
  · exact hc.callPass.arbitrate
  · exact hc.arbitrate

theorem ColdWhileOpen.handOver (h : ColdWhileOpen s) : ColdWhileOpen (handOver s) := h.of_trains (by simp)

theorem ColdWhileOpen.removeStale (h : ColdWhileOpen s) (e : Entry) : ColdWhileOpen (removeStale e s) := by
  simp only [Machine.removeStale]
  split
  · exact ((h.setQueue _).countDropped.setWaiting _ _).callPass.handOver.arbitrate
  · exact (h.setQueue _).countDropped.callPass.handOver.arbitrate

theorem ColdWhileOpen.staleOver (h : ColdWhileOpen s) (c : Chan) (k : Cls) : ColdWhileOpen (staleOver c k s) := by
  simp only [Machine.staleOver]
  repeat' split
  · exact h
  · exact h
  · exact (h.reach _).removeStale _

theorem ColdWhileOpen.intervalOver (h : ColdWhileOpen s) (k : TrainNo) : ColdWhileOpen (intervalOver k s) := by
  simp only [Machine.intervalOver]
  split
  · exact h
  · split
    · exact h
    · refine ColdWhileOpen.arbitrate (ColdWhileOpen.of_trains ?_ (beyondTrains_intervalCompared _ k))
      split
      · exact ((h.reach _).setTrain k _).of_trains (beyondTrains_reelCheck _ _ _ _)
      · exact (h.reach _).setTrain k _

theorem ColdWhileOpen.verifyOver (h : ColdWhileOpen s) (k : TrainNo) : ColdWhileOpen (verifyOver k s) := by
  simp only [Machine.verifyOver]
  repeat' split
  · exact h
  · rename_i ends _ _ _ _
    exact ((h.reach ends).of_trains (by simp)).arbitrate
  · exact h

theorem ColdWhileOpen.trainSettleOver (h : ColdWhileOpen s) (k : TrainNo) : ColdWhileOpen (trainSettleOver k s) := by
  simp only [Machine.trainSettleOver]
  repeat' split
  · exact h
  · exact h
  · rename_i ends _
    exact ((h.reach ends).of_trains (by simp)).arbitrate

theorem ColdWhileOpen.silenceOver (h : ColdWhileOpen s) : ColdWhileOpen (silenceOver s) := by
  simp only [Machine.silenceOver]; split
  · exact h
  · exact (cold_enterChainLost _).arbitrate

theorem ColdWhileOpen.settleOver (h : ColdWhileOpen s) : ColdWhileOpen (settleOver s) := by
  simp only [Machine.settleOver]
  split
  · exact h
  · split
    · exact fun ho c => h ho c
    · exact ((h.reach _).trip _ _).arbitrate

theorem ColdWhileOpen.holdoffOver (h : ColdWhileOpen s) (r : RuleNo) : ColdWhileOpen (holdoffOver r s) := by
  simp only [Machine.holdoffOver]; split
  · exact h
  · exact (h.reach _).setHoldoff _ _

/-! ### Samples and readings of the coils and the node -/

theorem ColdWhileOpen.openTest (h : ColdWhileOpen s) (c : Chan) (v : Byte) : ColdWhileOpen (openTest c v s) := by
  simp only [Machine.openTest]
  split
  · split
    · exact h
    · split
      · exact h.setGuard _ _
      · exact h.setGuard _ _
  · exact h

theorem ColdWhileOpen.shortTest (h : ColdWhileOpen s) (c : Chan) (v : Byte) : ColdWhileOpen (shortTest c v s) := by
  simp only [Machine.shortTest]
  split
  · exact (h.setGuard _ _).lockChannel _ _
  · exact h.setGuard _ _

theorem ColdWhileOpen.takeDriveSample (h : ColdWhileOpen s) (v : Byte) : ColdWhileOpen (takeDriveSample v s) := by
  simp only [Machine.takeDriveSample]; split
  · exact h
  · exact (((((h.reach _).setClocks _).setMon _).openTest _ v).shortTest _ v).arbitrate

theorem ColdWhileOpen.takeUndrivenSample (h : ColdWhileOpen s) (c : Chan) (v : Byte) : ColdWhileOpen (takeUndrivenSample c v s) := by
  have hg : ∀ n x y, ColdWhileOpen (((s.reach n).setClocks x).setGuard c y) := fun n x y =>
    ((h.reach n).setClocks x).setGuard c y
  exact .ite _ h (.ite _ ((hg _ _ _).trip _ _).arbitrate (hg _ _ _))

theorem ColdWhileOpen.takeSupply (h : ColdWhileOpen s) (v : Byte) : ColdWhileOpen (takeSupply v s) := by
  have hm : ∀ n x y b, ColdWhileOpen (Machine.setLatchIf b .sag (((s.reach n).setClocks x).setMon y)) := fun n x y b =>
    (((h.reach n).setClocks x).setMon y).setLatchIf b _
  have hp : ∀ n x y b, ColdWhileOpen
      (if sagClears s v then (Machine.setLatchIf b .sag (((s.reach n).setClocks x).setMon y)).callPass
       else Machine.setLatchIf b .sag (((s.reach n).setClocks x).setMon y)) := fun n x y b =>
    .ite _ (hm n x y b).callPass (hm n x y b)
  exact (ColdWhileOpen.ite _ ((hp _ _ _ _).trip _ _) (hp _ _ _ _)).arbitrate

theorem ColdWhileOpen.takeTemperature (h : ColdWhileOpen s) (v : Byte) : ColdWhileOpen (takeTemperature v s) := by
  simp only [Machine.takeTemperature]
  cases heatTrips s v
  · exact (((h.reach _).setClocks _).setMon _).setLatchIf _ _
  · exact (((((h.reach _).setClocks _).setMon _).setLatchIf _ _).trip _ _).arbitrate

/-! ### Power-on and the lamp clocks -/

theorem cold_reset : ColdWhileOpen State.reset := cold_of_not_driven fun c => by
  simp only [State.reset, Fin.getElem_fin, Vector.getElem_replicate]
  rfl

theorem cold_powerOn (straps : BitVec 4) (levels : BitVec 32) (s : State) : ColdWhileOpen (powerOn straps levels s) := by
  have hp : ∀ r : State, ColdWhileOpen r → ColdWhileOpen { r with pending := s.pending } := fun r hr => hr.of_same rfl rfl
  exact hp _ (cold_foldl (fun _ _ hs => hs.setInput _ _) _ (cold_reset.setPort _))

theorem ColdWhileOpen.chase (h : ColdWhileOpen s) (r : RingNo) : ColdWhileOpen (chase r s) := by
  simp only [Machine.chase]; split
  · exact h
  · exact ((h.reach _).moveRing r 1).setRing _ _

theorem ColdWhileOpen.changeHalf (h : ColdWhileOpen s) : ColdWhileOpen (changeHalf s) := by
  exact .ite _ (h.of_same rfl rfl) (h.of_same rfl rfl)

theorem ColdWhileOpen.startSlot (h : ColdWhileOpen s) : ColdWhileOpen (startSlot s) := h.of_same rfl rfl

/-! ### The commands -/

/-- Every command keeps the invariant. -/
theorem ColdWhileOpen.exec (h : ColdWhileOpen s) (i : Instr) : ∃ t, exec i s = .next t ∧ ColdWhileOpen t := by
  have order : ∀ (f : Head), ColdWhileOpen (Machine.orderFrame i f (Machine.act i) s) := fun f =>
    h.orderFrame (fun _ hs => hs.act i) i f
  cases i
  case powerOnReset => exact ⟨_, rfl, cold_powerOn _ _ s⟩
  case frame => exact ⟨_, rfl, h.portFrame _⟩
  case frameAbandoned =>
    refine ⟨_, rfl, ?_⟩
    split
    · exact h.abandonedFrame _
    all_goals exact h
  case sweep => exact ⟨_, rfl, h.sweepFrame _ _ _ _ _⟩
  case silenceExpiry => exact ⟨_, rfl, h.silenceOver⟩
  case settleExpiry => exact ⟨_, rfl, h.settleOver⟩
  case inputSample => exact ⟨_, rfl, h.sampleInputs _⟩
  case kickTimerExpiry => exact ⟨_, rfl, h.kickOver _⟩
  case holdLimitExpiry => exact ⟨_, rfl, h.holdLimitOver _⟩
  case recoveryExpiry => exact ⟨_, rfl, h.recoveryOver _⟩
  case kickAccrual => exact ⟨_, rfl, h.kickAccrualDue _⟩
  case holdAccrual => exact ⟨_, rfl, h.holdAccrualDue _⟩
  case coolingTick => exact ⟨_, rfl, h.cool⟩
  case staleTimerExpiry => exact ⟨_, rfl, h.staleOver _ _⟩
  case intervalExpiry => exact ⟨_, rfl, h.intervalOver _⟩
  case verifyExpiry => exact ⟨_, rfl, h.verifyOver _⟩
  case trainSettleExpiry => exact ⟨_, rfl, h.trainSettleOver _⟩
  case holdoffExpiry => exact ⟨_, rfl, h.holdoffOver _⟩
  case driveSample => exact ⟨_, rfl, h.takeDriveSample _⟩
  case shortLock => exact ⟨_, rfl, .ite _ (h.takeDriveSample _) h⟩
  case openLock => exact ⟨_, rfl, .ite _ (h.kickOver _) h⟩
  case undrivenSample => exact ⟨_, rfl, h.takeUndrivenSample _ _⟩
  case leakTrip => exact ⟨_, rfl, .ite _ (h.takeUndrivenSample _ _) h⟩
  case supplyReading => exact ⟨_, rfl, h.takeSupply _⟩
  case sagSet => exact ⟨_, rfl, .ite _ (h.takeSupply _) h⟩
  case sagClear => exact ⟨_, rfl, .ite _ (h.takeSupply _) h⟩
  case supplyFloorTrip => exact ⟨_, rfl, .ite _ (h.takeSupply _) h⟩
  case temperatureReading => exact ⟨_, rfl, h.takeTemperature _⟩
  case heatTrip => exact ⟨_, rfl, .ite _ (h.takeTemperature _) h⟩
  case strobeSlot => exact ⟨_, rfl, h.startSlot⟩
  case blinkHalfChange => exact ⟨_, rfl, h.changeHalf⟩
  case chaseExpiry => exact ⟨_, rfl, h.chase _⟩
  all_goals first
    | exact ⟨_, rfl, order _⟩
    | exact ⟨_, rfl, h.queryFrame _ _ _⟩

end

/-- Settles O5: every command keeps the channels cold under an open relay, and so does an idle microsecond. -/
theorem stepsDriveNothingUnderAnOpenRelay : Obligations.StepsDriveNothingUnderAnOpenRelay := by
  intro s t h hs
  simp only [step] at hs
  split at hs
  · cases hs
    exact h.of_same rfl rfl
  · rename_i rest _
    have hp : ColdWhileOpen { s with pending := rest } := h.of_same rfl rfl
    obtain ⟨u, hu, hc⟩ := hp.exec _
    rw [hu] at hs
    cases hs
    exact hc

end Sys2Proof.Machine
end

section
/-! SUPPORT. What is loaded into the node, and which command changes what of it (R1, R50, R64, R72 to R78, R140 to R148, R153). -/

namespace Sys2Proof.Machine

set_option Elab.async false

/-! ### The view of what is loaded -/

/-- The tables, the lamps, the arm mask, the lamp clocks, the inputs and the node address. -/
structure Loaded where
  settings : Settings
  coils    : Vector Coil 24
  rules    : Vector Rule 32
  rings    : Vector Ring 4
  lamps    : Vector Lamp 64
  armed    : BitVec 8
  blink    : Blink
  scan     : Scan
  inputs   : Vector Input 32
  address  : BitVec 4

def State.loaded (s : State) : Loaded where
  settings := s.settings
  coils := s.coils
  rules := s.rules
  rings := s.rings
  lamps := s.lamps
  armed := s.armed
  blink := s.blink
  scan := s.scan
  inputs := s.inputs
  address := s.port.address

theorem loaded_of_beyondDrives {s t : State} (h : t.beyondDrives = s.beyondDrives) : t.loaded = s.loaded :=
  (congrArg State.loaded h :)

theorem loaded_of_beyondTrains {s t : State} (h : t.beyondTrains = s.beyondTrains) : t.loaded = s.loaded :=
  loaded_of_beyondDrives (beyondDrives_of_beyondTrains h)

/-- What of the loaded things a command leaves alone; the rest is blanked (R1, R50, R64, R72, R73, R75, R78, R140, R142, R143, R148, R153). -/
def Loaded.keptBy (x : Loaded) (i : Instr) : Loaded :=
  match i with
  | .loadNodeSettings _ _ => { x with settings := {} }
  | .loadCoil _ _ => { x with coils := Vector.replicate 24 {} }
  | .loadRule _ _ => { x with rules := Vector.replicate 32 {} }
  | .loadRing _ _ => { x with rings := Vector.replicate 4 {} }
  | .setLamps _ _ _ _ => { x with lamps := Vector.replicate 64 {} }
  | .setModes _ _ _ _ => { x with lamps := Vector.replicate 64 {} }
  | .move _ _ _ => { x with lamps := Vector.replicate 64 {} }
  | .chaseExpiry _ => { x with lamps := Vector.replicate 64 {}, rings := Vector.replicate 4 {} }
  | .arm _ _ => { x with armed := 0 }
  | .disarm _ _ => { x with armed := 0 }
  | .reset _ => { x with armed := 0 }
  | .blinkHalfChange => { x with blink := {} }
  | .strobeSlot => { x with scan := {} }
  | .inputSample _ => { x with inputs := Vector.replicate 32 {} }
  | .sweep _ _ _ _ _ => { x with inputs := Vector.replicate 32 {} }
  | .loadInput _ _ => { x with inputs := Vector.replicate 32 {} }
  | .clearCounts _ _ => { x with inputs := Vector.replicate 32 {} }
  | .frameAbandoned _ => { x with inputs := Vector.replicate 32 {} }
  | .frame _ => { State.reset.loaded with address := x.address }
  | .powerOnReset _ _ => State.reset.loaded
  | _ => x

/-! ### Shared operations -/

section
variable (s : State)

@[simp] theorem loaded_arbitrate : (arbitrate s).loaded = s.loaded := loaded_of_beyondDrives (by simp)
@[simp] theorem loaded_refuse (who : Asker) (why : Reason) : (refuse who why s).loaded = s.loaded := rfl
@[simp] theorem loaded_refuseOrder (tag : Byte) (why : Reason) : (refuseOrder tag why s).loaded = s.loaded := rfl
@[simp] theorem loaded_setDownstream (b : List Byte) : (s.setDownstream b).loaded = s.loaded := rfl
@[simp] theorem loaded_damageSeen : (damageSeen s).loaded = s.loaded := rfl
@[simp] theorem loaded_reach (t : Nat) : (s.reach t).loaded = s.loaded := rfl
@[simp] theorem loaded_setNode (x : Node) : (s.setNode x).loaded = s.loaded := rfl
@[simp] theorem loaded_setMon (x : Monitor) : (s.setMon x).loaded = s.loaded := rfl
@[simp] theorem loaded_setClocks (x : Clocks) : (s.setClocks x).loaded = s.loaded := rfl
@[simp] theorem loaded_setHoldoff (r : RuleNo) (x : Option Nat) : (s.setHoldoff r x).loaded = s.loaded := rfl
@[simp] theorem loaded_setGuard (c : Chan) (x : Guard) : (s.setGuard c x).loaded = s.loaded := rfl
@[simp] theorem loaded_setTrain (t : TrainNo) (x : Option Train) : (s.setTrain t x).loaded = s.loaded := rfl
@[simp] theorem loaded_setBank (b : BankNo) (x : Bank) : (s.setBank b x).loaded = s.loaded := rfl
@[simp] theorem loaded_setUnit (u : UnitNo) (x : CounterUnit) : (s.setUnit u x).loaded = s.loaded := rfl
@[simp] theorem loaded_setLatch (x : Latch) : (setLatch x s).loaded = s.loaded := rfl
@[simp] theorem loaded_setLatchIf (b : Bool) (x : Latch) : (setLatchIf b x s).loaded = s.loaded :=
  loaded_of_beyondTrains (by simp)
@[simp] theorem loaded_callPass : s.callPass.loaded = s.loaded := rfl
@[simp] theorem loaded_stopSilence : (stopSilence s).loaded = s.loaded := rfl
@[simp] theorem loaded_restartSilence : (restartSilence s).loaded = s.loaded := rfl
@[simp] theorem loaded_enterArming : (enterArming s).loaded = s.loaded := rfl
@[simp] theorem loaded_enterLive : (enterLive s).loaded = s.loaded := rfl

theorem loaded_foldl {α : Type} {f : State → α → State} (h : ∀ s x, (f s x).loaded = s.loaded) (l : List α) :
    (l.foldl f s).loaded = s.loaded := foldl_view (v := State.loaded) h l s

theorem loaded_ite (p : Prop) [Decidable p] {x y s : State} (hx : x.loaded = s.loaded) (hy : y.loaded = s.loaded) :
    (if p then x else y).loaded = s.loaded := by
  split
  · exact hx
  · exact hy

@[simp] theorem loaded_standDown (st : NodeState) : (standDown st s).loaded = s.loaded := by
  simp only [standDown]
  rw [loaded_of_beyondDrives (s := stopSilence (s.setNode { s.node with st := st, relay := false, settle := none })) (by simp)]
  rfl

@[simp] theorem loaded_enterChainLost : (enterChainLost s).loaded = s.loaded := by
  simp only [enterChainLost]
  rw [loaded_of_beyondDrives (s := stopSilence (s.setNode { s.node with
    st := .chainLost, relay := persistentArmed s, settle := none })) (by simp)]
  rfl

@[simp] theorem loaded_trip (cause : TripCause) (c : Option Chan) : (trip cause c s).loaded = s.loaded := by
  simp only [trip]
  split
  · rfl
  · simp

@[simp] theorem loaded_goodFrameEnd : (goodFrameEnd s).loaded = s.loaded := by
  simp only [goodFrameEnd]; split <;> simp

@[simp] theorem loaded_enterQuiet (mask : BitVec 32) : (enterQuiet mask s).loaded = s.loaded := by
  simp only [enterQuiet]
  split
  · simp [wakeBy]
  · simp

theorem loaded_inLive {a : State → State} (ha : ∀ s, (a s).loaded = s.loaded) (tag : Byte) :
    (inLive tag a s).loaded = s.loaded := loaded_ite _ (ha s) rfl

theorem loaded_withRef {n : Nat} {a : Fin n → State → State} (ha : ∀ i s, (a i s).loaded = s.loaded) (tag b : Byte) :
    (withRef tag n b a s).loaded = s.loaded := by
  simp only [withRef]; split
  · exact ha _ s
  · rfl

/-- A reference that is acted on leaves alone what its work leaves alone. -/
theorem view_withRef {β : Type} (g : Loaded → β) {n : Nat} {a : Fin n → State → State}
    (ha : ∀ i s, g (a i s).loaded = g s.loaded) (tag b : Byte) : g (withRef tag n b a s).loaded = g s.loaded := by
  simp only [withRef]; split
  · exact ha _ s
  · rfl

/-! ### The orders -/

theorem loaded_obeyGo (tag : Byte) : (obeyGo tag s).loaded = s.loaded := by
  simp only [obeyGo]; split <;> simp

theorem loaded_obeyQuiet (tag : Byte) (m : BitVec 32) : (obeyQuiet tag m s).loaded = s.loaded := by
  simp only [obeyQuiet]; split <;> simp

theorem loaded_obeyPulse (tag c k : Byte) : (obeyPulse tag c k s).loaded = s.loaded := by
  refine loaded_inLive s (fun s => loaded_withRef s (fun c s => ?_) _ _) _
  split
  · rfl
  · exact loaded_of_beyondTrains (by simp)

theorem loaded_obeyRelease (tag c : Byte) : (obeyRelease tag c s).loaded = s.loaded := by
  refine loaded_withRef s (fun c s => ?_) _ _
  split
  · rfl
  · exact loaded_of_beyondDrives (by simp)

theorem loaded_obeyDisarm (m : Byte) : (obeyDisarm m s).loaded = { s.loaded with armed := s.armed &&& ~~~m } :=
  loaded_of_beyondDrives (s := { s with armed := s.armed &&& ~~~m }) (by simp [obeyDisarm])

theorem loaded_softReset : (softReset s).loaded = { s.loaded with armed := 0 } := by
  have h : ∀ (t : State) (x : Node) (a b : Nat) (k : Vector (Option Nat) 32),
      State.loaded { (t.setNode x).setPort { (t.setNode x).port with
        damage := a, refusals := a, lastAsker := .order 0, lastReason := none } with
        armed := 0, holdoffs := k, latches := 0, dropped := b } = { t.loaded with armed := 0 } := fun _ _ _ _ _ => rfl
  rw [softReset, h, loaded_standDown]

theorem loaded_obeyRun (tag c n : Byte) (a b : Half) (r i : Byte) : (obeyRun tag c n a b r i s).loaded = s.loaded := by
  refine loaded_inLive s (fun s => loaded_withRef s (fun c s => ?_) _ _) _
  split
  · rfl
  · simp only [runOn]
    split
    · split
      · rename_i h; exact loaded_of_beyondTrains (beyondTrains_extend h)
      · rfl
    · split
      · exact loaded_of_beyondTrains (by simp)
      · rfl

theorem loaded_obeyCancel (tag target n : Byte) : (obeyCancel tag target n s).loaded = s.loaded := by
  simp only [obeyCancel]
  split
  · refine loaded_withRef s (fun c s => ?_) _ _
    split
    · rfl
    · exact loaded_of_beyondTrains (by simp)
  · exact loaded_withRef s (fun _ _ => loaded_of_beyondTrains (by simp)) _ _
  · exact loaded_withRef s (fun _ _ => loaded_of_beyondTrains (by simp)) _ _
  · rfl

theorem loaded_requestAdd (who : Asker) (b : BankNo) (v : Nat) : (requestAdd who b v s).loaded = s.loaded := by
  simp only [requestAdd]; split
  · rfl
  · exact loaded_of_beyondTrains (by simp)

theorem loaded_requestStep (who : Asker) (u : UnitNo) (n : Int) : (requestStep who u n s).loaded = s.loaded := by
  refine loaded_ite _ rfl (loaded_ite _ rfl ?_)
  split
  · rfl
  · exact loaded_of_beyondTrains (beyondTrains_takeStep _ _ _ _)

theorem loaded_obeyAdd (tag b : Byte) (v : BitVec 24) : (obeyAdd tag b v s).loaded = s.loaded :=
  loaded_inLive s (fun s => loaded_withRef s (fun _ s => loaded_ite _ rfl (loaded_requestAdd s _ _ _)) _ _) _

theorem loaded_obeyZero (tag b : Byte) : (obeyZero tag b s).loaded = s.loaded := by
  refine loaded_inLive s (fun s => loaded_withRef s (fun b s => ?_) _ _) _
  split
  · rfl
  · exact loaded_of_beyondTrains (by simp)

theorem loaded_obeyStep (tag u n : Byte) : (obeyStep tag u n s).loaded = s.loaded :=
  loaded_inLive s (fun s => loaded_withRef s (fun _ s => loaded_ite _ rfl (loaded_requestStep s _ _ _)) _ _) _

theorem loaded_obeyLock (tag c : Byte) : (obeyLock tag c s).loaded = s.loaded :=
  loaded_withRef s (fun _ _ => loaded_of_beyondDrives (by simp)) _ _

theorem loaded_obeyUnlock (tag c : Byte) : (obeyUnlock tag c s).loaded = s.loaded := by
  refine loaded_withRef s (fun c s => ?_) _ _
  split
  · rfl
  · simp only [unlockChannel]; split
    · exact loaded_of_beyondDrives (by simp)
    · rfl

/-- A fold of lamp updates changes the lamps alone. -/
theorem loaded_lamps_foldl {α : Type} {f : State → α → State}
    (h : ∀ s x, ∃ v, (f s x).loaded = { s.loaded with lamps := v }) (l : List α) :
    ∃ v, (l.foldl f s).loaded = { s.loaded with lamps := v } :=
  foldl_invariant (P := fun t : State => ∃ v, t.loaded = { s.loaded with lamps := v })
    (fun t x ⟨v, hv⟩ => by
      obtain ⟨w, hw⟩ := h t x
      exact ⟨w, by rw [hw, hv]⟩) l ⟨s.lamps, rfl⟩

theorem loaded_changeRun (first n : Nat) (f : Nat → Lamp → Lamp) :
    ∃ v, (changeRun first n f s).loaded = { s.loaded with lamps := v } :=
  loaded_lamps_foldl s (fun s l => by split; exacts [⟨_, rfl⟩, ⟨s.lamps, rfl⟩]) _

theorem loaded_moveRing (r : RingNo) (n : Int) : ∃ v, (moveRing r n s).loaded = { s.loaded with lamps := v } := by
  simp only [moveRing]; split
  · exact ⟨s.lamps, rfl⟩
  · refine loaded_lamps_foldl (f := fun s (x : LampNo × Nat) => s.setLamp x.1 { s.lamps[x.1] with level := x.2 }) s (fun s x => ?_) _
    exact ⟨_, rfl⟩

/-- A fold of input updates changes the inputs alone. -/
theorem loaded_inputs_foldl {α : Type} {f : State → α → State}
    (h : ∀ s x, ∃ v, (f s x).loaded = { s.loaded with inputs := v }) (l : List α) :
    ∃ v, (l.foldl f s).loaded = { s.loaded with inputs := v } :=
  foldl_invariant (P := fun t : State => ∃ v, t.loaded = { s.loaded with inputs := v })
    (fun t x ⟨v, hv⟩ => by
      obtain ⟨w, hw⟩ := h t x
      exact ⟨w, by rw [hw, hv]⟩) l ⟨s.inputs, rfl⟩

theorem loaded_clearCountsOf (m : BitVec 32) : ∃ v, (clearCountsOf m s).loaded = { s.loaded with inputs := v } :=
  loaded_inputs_foldl s (fun s i => by split; exacts [⟨_, rfl⟩, ⟨s.inputs, rfl⟩]) _

/-! ### The loads -/

theorem loaded_reheat (c : Chan) (old new : Coil) : (reheat c old new s).loaded = s.loaded := by
  simp only [reheat]
  exact loaded_setLatchIf _ _ _

theorem loaded_reguard (c : Chan) (new : Coil) : (reguard c new s).loaded = s.loaded := loaded_ite _ rfl rfl

theorem loaded_clearClaimed (c : Chan) : (clearClaimed c s).loaded = s.loaded := loaded_of_beyondDrives (by simp)

theorem loaded_endRuleWork (n : RuleNo) : (endRuleWork n s).loaded = s.loaded := loaded_of_beyondDrives (by simp [endRuleWork])

theorem loaded_storeBank (tag : Byte) (r : BankRec) : (storeBank tag r s).loaded = s.loaded := by
  refine loaded_withRef s (fun b s => ?_) _ _
  split
  · rfl
  · split
    · rfl
    · refine loaded_ite _ ?_ (loaded_ite _ ?_ ?_)
      · rfl
      · rfl
      · exact loaded_foldl s (fun s c => loaded_clearClaimed s c) _

theorem loaded_storeUnit (tag : Byte) (r : UnitRec) : (storeUnit tag r s).loaded = s.loaded := by
  refine loaded_withRef s (fun u s => ?_) _ _
  refine loaded_ite _ ?_ (loaded_ite _ ?_ ?_)
  · split
    · refine loaded_ite _ ?_ ?_
      · rfl
      · split
        · rfl
        · exact (loaded_clearClaimed _ _).trans (loaded_clearClaimed _ _)
    · rfl
  · rfl
  · rfl

/-- What each order and load leaves alone when it is executed. -/
theorem keptBy_act (i : Instr) : (act i s).loaded.keptBy i = s.loaded.keptBy i := by
  have same : ∀ {t : State}, t.loaded = s.loaded → t.loaded.keptBy i = s.loaded.keptBy i := fun h => by rw [h]
  have lamps : ∀ {t : State}, (∃ v, t.loaded = { s.loaded with lamps := v }) →
      ({ t.loaded with lamps := Vector.replicate 64 {} } : Loaded) = { s.loaded with lamps := Vector.replicate 64 {} } :=
    fun ⟨v, h⟩ => by rw [h]
  have inputs : ∀ {t : State}, (∃ v, t.loaded = { s.loaded with inputs := v }) →
      ({ t.loaded with inputs := Vector.replicate 32 {} } : Loaded) = { s.loaded with inputs := Vector.replicate 32 {} } :=
    fun ⟨v, h⟩ => by rw [h]
  cases i with
  | go f => exact same (loaded_obeyGo s _)
  | quiet f m => exact same (loaded_obeyQuiet s _ _)
  | reset f =>
    show ({ (softReset s).loaded with armed := 0 } : Loaded) = { s.loaded with armed := 0 }
    rw [loaded_softReset]
  | pulse f c k => exact same (loaded_obeyPulse s _ _ _)
  | release f c => exact same (loaded_obeyRelease s _ _)
  | arm f m => rfl
  | disarm f m =>
    show ({ (obeyDisarm m s).loaded with armed := 0 } : Loaded) = { s.loaded with armed := 0 }
    rw [loaded_obeyDisarm]
  | run f c n si fi d k => exact same (loaded_obeyRun s _ _ _ _ _ _ _)
  | cancel f t n => exact same (loaded_obeyCancel s _ _ _)
  | add f b v => exact same (loaded_obeyAdd s _ _ _)
  | zero f b => exact same (loaded_obeyZero s _ _)
  | step f u n => exact same (loaded_obeyStep s _ _ _)
  | lock f c => exact same (loaded_obeyLock s _ _)
  | unlock f c => exact same (loaded_obeyUnlock s _ _)
  | setLamps f a n ls =>
    show Loaded.mk .. = Loaded.mk ..
    simp only [act, obeySetLamps]
    split
    · rfl
    · exact lamps (loaded_changeRun s _ _ _)
  | setModes f a n ms =>
    show Loaded.mk .. = Loaded.mk ..
    simp only [act, obeySetModes]
    split
    · rfl
    · split
      · exact lamps (loaded_changeRun s _ _ _)
      · rfl
  | move f r n =>
    exact view_withRef s (fun x => ({ x with lamps := Vector.replicate 64 {} } : Loaded)) (fun r s => by
      split
      · rfl
      · obtain ⟨v, h⟩ := loaded_moveRing s r (signed n)
        simp only [h]) _ _
  | acknowledge f m => rfl
  | clearCounts f m => exact inputs (loaded_clearCountsOf s m)
  | loadNodeSettings f r => rfl
  | loadCoil f r =>
    exact view_withRef s (fun x => ({ x with coils := Vector.replicate 24 {} } : Loaded)) (fun c s => by
      split
      · rfl
      · have h : (withdrawAll c s).loaded = s.loaded := loaded_of_beyondDrives (by simp)
        simp only [loaded_reguard, loaded_reheat]
        rw [← h]
        rfl) _ _
  | loadInput f r =>
    exact view_withRef s (fun x => ({ x with inputs := Vector.replicate 32 {} } : Loaded)) (fun i s => by
      repeat' split
      all_goals rfl) _ _
  | loadRule f r =>
    have set : ∀ (u : State) (n : RuleNo) (x : Rule), ({ ((u.setHoldoff n none).setRule n x).loaded with
        rules := Vector.replicate 32 {} } : Loaded) = { u.loaded with rules := Vector.replicate 32 {} } := fun _ _ _ => rfl
    exact view_withRef s (fun x => ({ x with rules := Vector.replicate 32 {} } : Loaded)) (fun n s => by
      split
      · rfl
      · split
        · rfl
        · rw [set, loaded_endRuleWork]) _ _
  | loadBank f r => exact same (loaded_storeBank s _ _)
  | loadUnit f r => exact same (loaded_storeUnit s _ _)
  | loadRing f r =>
    exact view_withRef s (fun x => ({ x with rings := Vector.replicate 4 {} } : Loaded)) (fun n s => by
      repeat' split
      all_goals rfl) _ _
  | _ => rfl

end

end Sys2Proof.Machine
end

section
/-! SUPPORT. What each command leaves alone of what is loaded, and the statement O3 put together from it. -/

namespace Sys2Proof.Machine

set_option Elab.async false

section
variable (s : State)

/-! ### Frames -/

theorem view_plainFrame {β : Type} (g : Loaded → β) {a : State → State} (ha : ∀ s, g (a s).loaded = g s.loaded)
    (bytes : List Byte) (f : Head) : g (plainFrame bytes f a s).loaded = g s.loaded := by
  simp only [plainFrame, frameEnd]
  split
  · rw [loaded_setDownstream]
  · split
    · rw [loaded_arbitrate, ha, loaded_goodFrameEnd, loaded_setDownstream]
    · rw [loaded_damageSeen, loaded_setDownstream]

theorem view_orderFrame {β : Type} (g : Loaded → β) {a : State → State} (ha : ∀ s, g (a s).loaded = g s.loaded)
    (i : Instr) (f : Head) : g (orderFrame i f a s).loaded = g s.loaded := by
  simp only [orderFrame]
  split
  · exact view_plainFrame s g ha _ _
  · exact view_plainFrame s g (fun _ => rfl) _ _

theorem loaded_queryFrame (f : Head) (p : List Byte) (a : Option Answerer) : (queryFrame f p a s).loaded = s.loaded :=
  view_plainFrame s id (fun _ => rfl) _ _

/-! ### Timers -/

theorem loaded_kickOver (c : Chan) : (kickOver c s).loaded = s.loaded := by
  simp only [kickOver]; split
  · rw [loaded_arbitrate, loaded_of_beyondDrives (beyondDrives_endKick _ _ _), loaded_reach]
  · rfl

theorem loaded_holdLimitOver (c : Chan) : (holdLimitOver c s).loaded = s.loaded := by
  simp only [holdLimitOver]; split
  · rfl
  · rw [loaded_arbitrate, loaded_of_beyondDrives (beyondDrives_endDrive _ _), loaded_reach]

theorem loaded_recoveryOver (c : Chan) : (recoveryOver c s).loaded = s.loaded := by
  simp only [recoveryOver]; split
  · rw [loaded_arbitrate, loaded_of_beyondDrives (beyondDrives_becomeIdle _ _), loaded_reach]
  · rfl

theorem loaded_kickAccrualDue (c : Chan) : (kickAccrualDue c s).loaded = s.loaded := by
  simp only [kickAccrualDue]
  split
  · split
    · rw [loaded_of_beyondDrives (beyondDrives_kickMs _ _), loaded_reach]
    · rfl
  · rfl

theorem loaded_holdAccrualDue (c : Chan) : (holdAccrualDue c s).loaded = s.loaded := by
  simp only [holdAccrualDue]; split
  · rw [loaded_arbitrate, loaded_of_beyondDrives (beyondDrives_holdMs _ _), loaded_reach]
  · rfl

@[simp] theorem beyondDrives_chargeBefore (t : Nat) (c : Chan) : (chargeBefore t c s).beyondDrives = s.beyondDrives := by
  simp only [chargeBefore]
  split
  · split <;> simp
  · split <;> simp
  · rfl

@[simp] theorem beyondDrives_lowerHold (c : Chan) : (lowerHold c s).beyondDrives = s.beyondDrives := by
  simp only [lowerHold]
  repeat' split
  all_goals simp

@[simp] theorem beyondDrives_raiseHold (c : Chan) : (raiseHold c s).beyondDrives = s.beyondDrives := by
  simp only [raiseHold]
  repeat' split
  all_goals simp

theorem loaded_forChans {f : Chan → State → State} (h : ∀ c s, (f c s).beyondDrives = s.beyondDrives) :
    (forChans f s).loaded = s.loaded := loaded_of_beyondDrives (forChans_view h s)

theorem loaded_cool : (cool s).loaded = s.loaded := by
  simp only [cool]
  rw [loaded_arbitrate]
  refine loaded_ite _ (loaded_callPass _ |>.trans ?_) ?_
  all_goals
    rw [loaded_forChans _ fun c s => beyondDrives_raiseHold s c, loaded_forChans _ fun c s => beyondDrives_lowerHold s c,
      loaded_forChans (f := coolChannel) _ fun _ _ => rfl, loaded_forChans _ fun c s => beyondDrives_chargeBefore s _ c]
    rfl

theorem loaded_removeStale (e : Entry) : (removeStale e s).loaded = s.loaded := by
  simp only [removeStale]
  rw [loaded_arbitrate, loaded_of_beyondDrives (beyondDrives_handOver _), loaded_callPass]
  split <;> rfl

theorem loaded_staleOver (c : Chan) (k : Cls) : (staleOver c k s).loaded = s.loaded := by
  simp only [staleOver]
  split
  · rfl
  · split
    · rfl
    · rw [loaded_removeStale, loaded_reach]

theorem loaded_intervalOver (k : TrainNo) : (intervalOver k s).loaded = s.loaded := by
  simp only [intervalOver]
  split
  · rfl
  · split
    · rfl
    · rw [loaded_arbitrate, loaded_of_beyondTrains (beyondTrains_intervalCompared _ _)]
      split
      · rw [loaded_of_beyondTrains (beyondTrains_reelCheck _ _ _ _), loaded_setTrain, loaded_reach]
      · rw [loaded_setTrain, loaded_reach]

theorem loaded_verifyOver (k : TrainNo) : (verifyOver k s).loaded = s.loaded := by
  simp only [verifyOver]
  split
  · rfl
  · split
    · rename_i ends _ _ _ _
      rw [loaded_arbitrate, loaded_of_beyondTrains (s := s.reach ends) (by simp), loaded_reach]
    · rfl

theorem loaded_trainSettleOver (k : TrainNo) : (trainSettleOver k s).loaded = s.loaded := by
  simp only [trainSettleOver]
  split
  · rfl
  · split
    · rfl
    · rw [loaded_arbitrate, loaded_of_beyondTrains (beyondTrains_enterWait _ _ _), loaded_reach]

theorem loaded_silenceOver : (silenceOver s).loaded = s.loaded := by
  simp only [silenceOver]; split <;> simp

theorem loaded_settleOver : (settleOver s).loaded = s.loaded := by
  simp only [settleOver]
  split
  · rfl
  · split <;> simp

theorem loaded_holdoffOver (r : RuleNo) : (holdoffOver r s).loaded = s.loaded := by
  simp only [holdoffOver]; split <;> simp

/-! ### Samples and readings -/

theorem loaded_openTest (c : Chan) (v : Byte) : (openTest c v s).loaded = s.loaded := by
  simp only [openTest]
  split
  · split
    · rfl
    · split <;> rfl
  · rfl

theorem loaded_shortTest (c : Chan) (v : Byte) : (shortTest c v s).loaded = s.loaded := by
  simp only [shortTest]
  split
  · rw [loaded_of_beyondDrives (beyondDrives_lockChannel _ _ _), loaded_setGuard]
  · rfl

theorem loaded_takeDriveSample (v : Byte) : (takeDriveSample v s).loaded = s.loaded := by
  simp only [takeDriveSample]; split
  · rfl
  · rw [loaded_arbitrate, loaded_shortTest, loaded_openTest]
    rfl

theorem loaded_takeUndrivenSample (c : Chan) (v : Byte) : (takeUndrivenSample c v s).loaded = s.loaded := by
  have set : ∀ (n : Nat) (x : Clocks) (y : Guard), (((s.reach n).setClocks x).setGuard c y).loaded = s.loaded :=
    fun _ _ _ => rfl
  refine loaded_ite _ ?_ (loaded_ite _ ?_ ?_)
  · rfl
  · rw [loaded_arbitrate, loaded_trip, set]
  · exact set _ _ _

theorem loaded_takeSupply (v : Byte) : (takeSupply v s).loaded = s.loaded := by
  simp only [takeSupply]
  rw [loaded_arbitrate]
  have set : ∀ (n : Nat) (x : Clocks) (y : Monitor) (b : Bool),
      (setLatchIf b .sag (((s.reach n).setClocks x).setMon y)).loaded = s.loaded := fun _ _ _ _ => loaded_setLatchIf _ _ _
  refine loaded_ite _ ?_ ?_
  · rw [loaded_trip]
    exact loaded_ite _ (set _ _ _ _) (set _ _ _ _)
  · exact loaded_ite _ (set _ _ _ _) (set _ _ _ _)

theorem loaded_takeTemperature (v : Byte) : (takeTemperature v s).loaded = s.loaded := by
  have set : ∀ (n : Nat) (x : Clocks) (y : Monitor) (b : Bool),
      (setLatchIf b .warm (((s.reach n).setClocks x).setMon y)).loaded = s.loaded := fun _ _ _ _ => loaded_setLatchIf _ _ _
  refine loaded_ite _ ?_ ?_
  · rw [loaded_arbitrate, loaded_trip, set]
  · exact set _ _ _ _

/-! ### Edges -/

theorem loaded_makeRequest (n : RuleNo) : (makeRequest n s).loaded = s.loaded := by
  simp only [makeRequest]
  split
  · rfl
  · split
    · rfl
    · exact loaded_of_beyondTrains (by simp)
  · split
    · rfl
    · exact loaded_of_beyondDrives (by simp)
  · split
    · rfl
    · exact loaded_requestStep s _ _ _
  · split
    · rfl
    · exact loaded_requestAdd s _ _ _

theorem loaded_fireRule (n : RuleNo) : (fireRule n s).loaded = s.loaded := by
  simp only [fireRule]
  rw [loaded_arbitrate, loaded_makeRequest]
  split <;> rfl

theorem loaded_deliver (i : InputNo) (close : Bool) (x : Consumer) : (deliver i close x s).loaded = s.loaded := by
  cases x with
  | ruleEngine =>
    refine loaded_foldl s (fun s n => ?_) _
    split
    · exact loaded_fireRule s n
    · rfl
  | channelDrivers =>
    simp only [deliver]
    rw [loaded_arbitrate, loaded_of_beyondDrives (beyondDrives_channelsEdge _ _ _)]
  | unitLogic =>
    simp only [deliver]
    rw [loaded_arbitrate]
    split
    · exact loaded_of_beyondTrains (by simp)
    · rfl
  | nodeState =>
    simp only [deliver]
    rw [loaded_arbitrate]
    split
    · exact loaded_ite _ rfl rfl
    · rfl

theorem loaded_deliverEdge (levels : BitVec 32) (d : InputNo × Consumer) :
    ∃ v, (deliverEdge levels d s).loaded = { s.loaded with inputs := v } := by
  simp only [deliverEdge, loaded_deliver]
  split
  · exact ⟨s.inputs, rfl⟩
  · exact ⟨_, rfl⟩

/-- A sample of the inputs changes nothing of what is loaded but the inputs (R66). -/
theorem loaded_sampleInputs (x : Sample) : ∃ v, (sampleInputs x s).loaded = { s.loaded with inputs := v } := by
  simp only [sampleInputs]
  obtain ⟨w, hw⟩ := loaded_inputs_foldl (debounceAll x.levels s.clocks.sample
      ((s.reach s.clocks.sample).setClocks { s.clocks with sample := s.clocks.sample + 250 }))
    (f := fun s d => deliverEdge x.levels d s) (fun s d => loaded_deliverEdge s _ d)
    (deliveries (edgesAt x.levels s.clocks.sample s) x.order)
  obtain ⟨u, hu⟩ := loaded_inputs_foldl ((s.reach s.clocks.sample).setClocks { s.clocks with sample := s.clocks.sample + 250 })
    (f := fun t i => t.setInput i (t.inputs[i].sample (x.levels.getLsbD i.val) s.clocks.sample).2) (fun s i => ⟨_, rfl⟩)
    (List.finRange 32)
  refine ⟨w, hw.trans ?_⟩
  rw [debounceAll, hu]
  rfl

/-! ### Sweeps and frames that fail -/

theorem loaded_settlePending (ok : Bool) : ∃ v, (settlePending ok s).loaded = { s.loaded with inputs := v } := by
  simp only [settlePending]
  split
  · exact ⟨s.inputs, rfl⟩
  · split
    · exact ⟨s.inputs, rfl⟩
    · obtain ⟨v, hv⟩ := loaded_inputs_foldl { s with reported := none }
        (f := fun t i => t.setInput i (t.inputs[i].returned (‹Vector Report 32›)[i])) (fun s i => ⟨_, rfl⟩) (List.finRange 32)
      exact ⟨v, hv⟩

theorem loaded_sweepFrame (f : Head) (a n : Byte) (slots : List Byte) (xs : List Sample) :
    ∃ v, (sweepFrame f a n slots xs s).loaded = { s.loaded with inputs := v } := by
  have samples : ∀ t : State, ∃ v, (xs.foldl (fun s x => sampleInputs x s) t).loaded = { t.loaded with inputs := v } :=
    fun t => loaded_inputs_foldl t (fun s x => loaded_sampleInputs s x) xs
  simp only [sweepFrame]
  have frame : ∀ t : State, ∀ bytes, (plainFrame bytes f id t).loaded = t.loaded := fun t bytes =>
    view_plainFrame t id (fun _ => rfl) bytes f
  rw [frame]
  split
  · obtain ⟨v, hv⟩ := samples (moveToPending s)
    obtain ⟨w, hw⟩ := loaded_settlePending (xs.foldl (fun s x => sampleInputs x s) (moveToPending s)) (f.damage == 0)
    exact ⟨w, by rw [hw, hv]; rfl⟩
  · exact samples s

theorem loaded_abandonedFrame (bytes : List Byte) : ∃ v, (abandonedFrame bytes s).loaded = { s.loaded with inputs := v } := by
  simp only [abandonedFrame]
  split
  · exact ⟨s.inputs, rfl⟩
  · rw [loaded_damageSeen]
    split
    · obtain ⟨v, hv⟩ := loaded_settlePending (moveToPending (s.setDownstream (abandonedSent s bytes))) false
      exact ⟨v, by rw [hv]; rfl⟩
    · exact ⟨s.inputs, rfl⟩

/-! ### Raw bytes keep the address -/

theorem address_of_keptBy {x y : Loaded} {i : Instr} (hi : ∀ a l, i ≠ .powerOnReset a l) (h : x.keptBy i = y.keptBy i) :
    x.address = y.address := by
  cases i with
  | powerOnReset a l => exact absurd rfl (hi a l)
  | _ => exact (congrArg Loaded.address h :)

theorem address_act (i : Instr) : (act i s).loaded.address = s.loaded.address := by
  by_cases hi : ∃ a l, i = .powerOnReset a l
  · obtain ⟨a, l, rfl⟩ := hi
    rfl
  · exact address_of_keptBy (fun a l e => hi ⟨a, l, e⟩) (keptBy_act s i)

theorem address_actOn (tag : Byte) (read : Except Misread Instr) (heard : Bool) (s : State) :
    ((if heard then actOn tag read else id) s).loaded.address = s.loaded.address := by
  cases heard
  · rfl
  · cases read with
    | ok i => exact address_act s i
    | error e => rfl

/-- Power-on reset alone reads the straps (R153). -/
theorem address_portFrame (bytes : List Byte) : (portFrame bytes s).loaded.address = s.loaded.address := by
  simp only [portFrame]
  split
  · rfl
  · obtain ⟨v, hv⟩ := loaded_abandonedFrame s bytes
    rw [hv]
  · simp only [badHeaderFrame]; split <;> rfl
  · rename_i kind f p _ _
    show (wholeFrame kind f p s).loaded.address = _
    simp only [wholeFrame]
    split
    · exact view_plainFrame s Loaded.address (address_actOn _ _ _) _ _
    · exact view_plainFrame s Loaded.address (address_actOn _ _ _) _ _
    · rw [loaded_queryFrame]
    · split
      · rename_i a n slots _
        obtain ⟨v, hv⟩ := loaded_sweepFrame s f a n slots []
        rw [hv]
      · exact view_plainFrame s Loaded.address (fun _ => rfl) _ _
    · exact view_plainFrame s Loaded.address (fun _ => rfl) _ _

/-! ### The lamp clocks -/

theorem loaded_chase (r : RingNo) : ∃ v w, (chase r s).loaded = { s.loaded with lamps := v, rings := w } := by
  simp only [chase]; split
  · exact ⟨s.lamps, s.rings, rfl⟩
  · rename_i t _
    obtain ⟨v, hv⟩ := loaded_moveRing (s.reach t) r 1
    have set : ∀ (u : State) (x : Ring), (u.setRing r x).loaded = { u.loaded with rings := u.rings.set r x } := fun _ _ => rfl
    exact ⟨v, _, by rw [set, hv]; rfl⟩

/-! ### The commands -/

/-- Every command leaves alone what `keptBy` says. -/
theorem keptBy_exec (i : Instr) : ∃ t, exec i s = .next t ∧ t.loaded.keptBy i = s.loaded.keptBy i := by
  have order : ∀ f, (orderFrame i f (act i) s).loaded.keptBy i = s.loaded.keptBy i := fun f =>
    view_orderFrame s (·.keptBy i) (fun s => keptBy_act s i) i f
  have same : ∀ {t : State}, t.loaded = s.loaded → t.loaded.keptBy i = s.loaded.keptBy i := fun h => by rw [h]
  have either : ∀ {t : State} (p : Prop) [Decidable p], t.loaded = s.loaded →
      (if p then t else s).loaded.keptBy i = s.loaded.keptBy i := fun p _ h => same (loaded_ite p h rfl)
  have inputs : ∀ {t : State}, (∃ v, t.loaded = { s.loaded with inputs := v }) →
      ({ t.loaded with inputs := Vector.replicate 32 {} } : Loaded) = { s.loaded with inputs := Vector.replicate 32 {} } :=
    fun ⟨v, h⟩ => by rw [h]
  cases i
  case powerOnReset => exact ⟨_, rfl, rfl⟩
  case frame bytes =>
    exact ⟨_, rfl, congrArg (fun a => ({ State.reset.loaded with address := a } : Loaded)) (address_portFrame s bytes)⟩
  case frameAbandoned bytes =>
    refine ⟨_, rfl, ?_⟩
    split
    · exact inputs (loaded_abandonedFrame s bytes)
    all_goals rfl
  case sweep => exact ⟨_, rfl, inputs (loaded_sweepFrame s _ _ _ _ _)⟩
  case silenceExpiry => exact ⟨_, rfl, same (loaded_silenceOver s)⟩
  case settleExpiry => exact ⟨_, rfl, same (loaded_settleOver s)⟩
  case inputSample => exact ⟨_, rfl, inputs (loaded_sampleInputs s _)⟩
  case kickTimerExpiry => exact ⟨_, rfl, same (loaded_kickOver s _)⟩
  case holdLimitExpiry => exact ⟨_, rfl, same (loaded_holdLimitOver s _)⟩
  case recoveryExpiry => exact ⟨_, rfl, same (loaded_recoveryOver s _)⟩
  case kickAccrual => exact ⟨_, rfl, same (loaded_kickAccrualDue s _)⟩
  case holdAccrual => exact ⟨_, rfl, same (loaded_holdAccrualDue s _)⟩
  case coolingTick => exact ⟨_, rfl, same (loaded_cool s)⟩
  case staleTimerExpiry => exact ⟨_, rfl, same (loaded_staleOver s _ _)⟩
  case intervalExpiry => exact ⟨_, rfl, same (loaded_intervalOver s _)⟩
  case verifyExpiry => exact ⟨_, rfl, same (loaded_verifyOver s _)⟩
  case trainSettleExpiry => exact ⟨_, rfl, same (loaded_trainSettleOver s _)⟩
  case holdoffExpiry => exact ⟨_, rfl, same (loaded_holdoffOver s _)⟩
  case driveSample => exact ⟨_, rfl, same (loaded_takeDriveSample s _)⟩
  case shortLock => exact ⟨_, rfl, either _ (loaded_takeDriveSample s _)⟩
  case openLock => exact ⟨_, rfl, either _ (loaded_kickOver s _)⟩
  case undrivenSample => exact ⟨_, rfl, same (loaded_takeUndrivenSample s _ _)⟩
  case leakTrip => exact ⟨_, rfl, either _ (loaded_takeUndrivenSample s _ _)⟩
  case supplyReading => exact ⟨_, rfl, same (loaded_takeSupply s _)⟩
  case sagSet => exact ⟨_, rfl, either _ (loaded_takeSupply s _)⟩
  case sagClear => exact ⟨_, rfl, either _ (loaded_takeSupply s _)⟩
  case supplyFloorTrip => exact ⟨_, rfl, either _ (loaded_takeSupply s _)⟩
  case temperatureReading => exact ⟨_, rfl, same (loaded_takeTemperature s _)⟩
  case heatTrip => exact ⟨_, rfl, either _ (loaded_takeTemperature s _)⟩
  case strobeSlot => exact ⟨_, rfl, rfl⟩
  case blinkHalfChange =>
    refine ⟨_, rfl, ?_⟩
    show ({ (changeHalf s).loaded with blink := {} } : Loaded) = { s.loaded with blink := {} }
    simp only [changeHalf]
    split <;> rfl
  case chaseExpiry r =>
    obtain ⟨v, w, h⟩ := loaded_chase s r
    exact ⟨_, rfl, congrArg (fun x => ({ x with lamps := Vector.replicate 64 {}, rings := Vector.replicate 4 {} } : Loaded)) h⟩
  all_goals first
    | exact ⟨_, rfl, order _⟩
    | exact ⟨_, rfl, same (loaded_queryFrame s _ _ _)⟩

end

/-- Settles O3: what a command leaves alone of what is loaded (`keptBy`), read off component by component. -/
theorem onlyTheirCommandsChangeWhatIsLoaded : Obligations.OnlyTheirCommandsChangeWhatIsLoaded := by
  intro i s t ht
  obtain ⟨u, hu, hk⟩ := keptBy_exec s i
  obtain rfl : u = t := by rw [hu] at ht; exact Host.Outcome.next.inj ht
  cases i <;> simp_all [Loaded.keptBy, State.loaded]

end Sys2Proof.Machine
end

section
/-! SUPPORT. Power-on reset and the answers, byte by byte: the statements O42, O40 and O39 (R157, R158, R161, R162). -/

namespace Sys2Proof.Machine

set_option Elab.async false

/-! ### Power-on reset (R162, R68) -/

/-- A vector whose places are all written in turn. -/
theorem foldl_set_finRange {α : Type} {n : Nat} (f : Fin n → α) (v : Vector α n) :
    (List.finRange n).foldl (fun v i => v.set i.val (f i)) v = Vector.ofFn f := by
  have hget : ∀ (l : List (Fin n)) (v : Vector α n) (j : Fin n),
      (l.foldl (fun v i => v.set i.val (f i)) v)[j] = if j ∈ l then f j else v[j] := by
    intro l
    induction l with
    | nil => simp
    | cons i l ih =>
      intro v j
      rw [List.foldl_cons, ih]
      by_cases hj : j = i
      · subst hj; simp
      · rw [getElem_set_other _ _ hj]; simp [hj]
  refine Vector.ext fun j hj => ?_
  simpa using hget (List.finRange n) v ⟨j, hj⟩

/-- Setting every input in turn leaves nothing of the inputs there were, and touches nothing else. -/
theorem foldl_setInput (f : InputNo → Input) (s : State) :
    (List.finRange 32).foldl (fun r i => r.setInput i (f i)) s = { s with inputs := Vector.ofFn f } := by
  have hf : ∀ (l : List InputNo) (t : State), l.foldl (fun r i => r.setInput i (f i)) t =
      { t with inputs := l.foldl (fun v i => v.set i.val (f i)) t.inputs } := by
    intro l
    induction l with
    | nil => exact fun t => rfl
    | cons i l ih => exact fun t => ih (t.setInput i (f i))
  rw [hf, foldl_set_finRange]

theorem powerOn_eq (straps : BitVec 4) (levels : BitVec 32) (s : State) :
    powerOn straps levels s = { State.reset with
      pending := s.pending, port := { State.reset.port with address := straps },
      inputs := Vector.ofFn fun i : InputNo => firstInput levels i.val } := by
  simp only [powerOn]
  rw [foldl_setInput]
  rfl

/-- Settles O42: the state power-on reset leaves, written out field by field. -/
theorem powerOnResetGivesPowerOnValues : Obligations.PowerOnResetGivesPowerOnValues := by
  intro straps levels s
  refine ⟨powerOn straps levels s, rfl, ?_⟩
  rw [powerOn_eq]
  refine ⟨rfl, fun i => ?_, rfl, rfl, rfl, rfl, rfl, rfl, rfl, rfl, rfl, rfl, rfl, rfl, fun r => ?_, fun c => ?_, fun k => ?_,
    fun b => ?_, fun u => ?_, rfl, rfl, fun l => ?_, fun r => ?_, rfl, rfl⟩
  · simp [firstInput]
  all_goals simp [State.reset]

/-! ### Numbers and flags as bytes -/

/-- A two-byte number as sent: its high byte and its low byte (R153). -/
theorem halfBytes_ofNat (n : Nat) : halfBytes (BitVec.ofNat 16 n) = two n := by
  have hi : (BitVec.ofNat 16 n).extractLsb' 8 8 = BitVec.ofNat 8 (n / 256) := by
    apply BitVec.eq_of_toNat_eq
    simp only [BitVec.extractLsb'_toNat, BitVec.toNat_ofNat, Nat.shiftRight_eq_div_pow]
    omega
  have lo : (BitVec.ofNat 16 n).extractLsb' 0 8 = BitVec.ofNat 8 n := by
    apply BitVec.eq_of_toNat_eq
    simp only [BitVec.extractLsb'_toNat, BitVec.toNat_ofNat, Nat.shiftRight_zero]
    omega
  rw [halfBytes, hi, lo]
  rfl

theorem bytes2_eq (n : Nat) : bytes2 n = two n := halfBytes_ofNat n

theorem byteOf_eq (n : Nat) : byteOf n = BitVec.ofNat 8 n := rfl

theorem flagByte_eq (b : Bool) : flagByte b = bit b := rfl

theorem ofNat_of_val {n : Nat} {b : Byte} {i : Fin n} (h : b.toNat = i.val) : BitVec.ofNat 8 i.val = b := by
  rw [← h, BitVec.ofNat_toNat, BitVec.setWidth_eq]

theorem numbered_of_val {n : Nat} {f : State → Fin n → List Byte} {b : Byte} {i : Fin n} (h : b.toNat = i.val) (s : State) :
    numbered f s b = .ok (f s i) := by
  simp only [numbered, refOf_of_val h]

theorem numbered_of_ge {n : Nat} {f : State → Fin n → List Byte} {b : Byte} (h : n ≤ b.toNat) (s : State) :
    numbered f s b = .error .range := by
  simp only [numbered, refOf, dif_neg (Nat.not_lt.mpr h)]

/-- A whole number of milliseconds is reported as it is, any other time rounded down or up. -/
theorem msReported_cases (us : Nat) :
    (us % 1000 = 0 → msReported us = us / 1000) ∧
      (msReported us = us / 1000 ∨ (us % 1000 ≠ 0 ∧ msReported us = us / 1000 + 1)) := by
  by_cases h : us % Config.msTime = 0
  · have hr : msReported us = us / 1000 := by rw [msReported, if_pos h]; rfl
    exact ⟨fun _ => hr, .inl hr⟩
  · refine ⟨fun h' => absurd h' h, ?_⟩
    rw [msReported, if_neg h]
    cases Config.msRoundsUp us
    · exact .inl rfl
    · exact .inr ⟨h, rfl⟩

/-- The first `n` of a list's items as sent, filled up with a value for the places past its end. -/
theorem take_append_replicate {α β : Type} (l : List α) (f : α → β) (d : β) (n : Nat) :
    (l.map f ++ List.replicate n d).take n = (List.range n).map fun i => (l[i]?.map f).getD d := by
  apply List.ext_getElem?
  intro i
  by_cases hi : i < n
  · rw [List.getElem?_take_of_lt hi, List.getElem?_map, List.getElem?_range hi]
    by_cases hl : i < l.length
    · rw [List.getElem?_append_left (by simpa using hl)]
      simp [hl]
    · rw [List.getElem?_append_right (by simpa using hl)]
      have : i - l.length < n := by omega
      simp [this, Nat.not_lt.mp hl]
  · rw [List.getElem?_eq_none (by simp; omega), List.getElem?_eq_none (by simp; omega)]

/-! ### The records and the other answers of kinds 1 to 7, 9 and 15 -/

theorem answerSettings_eq (n : Byte) (s : State) :
    let x := s.settings
    answerSettings s n = .ok ([BitVec.ofNat 8 x.budget, BitVec.ofNat 8 x.reserve] ++ two x.silence ++ two x.settle ++
      [BitVec.ofNat 8 x.sagThreshold, BitVec.ofNat 8 x.supplyFloor, BitVec.ofNat 8 x.leakThreshold, BitVec.ofNat 8 x.warmTemp,
        BitVec.ofNat 8 x.tripTemp, BitVec.ofNat 8 x.warmCap, BitVec.ofNat 8 x.master, BitVec.ofNat 8 x.quietMaster] ++
      two x.blink ++ [BitVec.ofNat 8 x.warmLamp, x.attention.extractLsb' 8 8, x.attention.extractLsb' 0 8]) := by
  simp only [answerSettings, settingsBytes, settingsRec, halfBytes_ofNat, byteOf_eq]
  simp only [halfBytes, List.append_assoc, List.cons_append, List.nil_append]

theorem answerCoil_eq {n : Byte} {c : Chan} (h : n.toNat = c.val) (s : State) :
    let x := s.coils[c]
    answerCoil s n = .ok ([n, bit x.enabled, BitVec.ofNat 8 x.p, BitVec.ofNat 8 x.k, BitVec.ofNat 8 x.kMin, BitVec.ofNat 8 x.h] ++
      two x.holdLimit ++ [BitVec.ofNat 8 x.recovery] ++ two x.l ++ two x.a ++
      [BitVec.ofNat 8 x.s, BitVec.ofNat 8 x.ck, BitVec.ofNat 8 x.openFloor, BitVec.ofNat 8 x.shortCeiling]) := by
  intro x
  simp only [answerCoil, numbered_of_val h, coilBytes, coilRec, halfBytes_ofNat, byteOf_eq, ofNat_of_val h, flagByte_eq]
  rfl

theorem value24Bytes_ofNat (v : Nat) :
    value24Bytes (BitVec.ofNat 24 v) = [BitVec.ofNat 8 (v / 65536), BitVec.ofNat 8 (v / 256), BitVec.ofNat 8 v] := by
  have part : ∀ k, k ≤ 16 → (BitVec.ofNat 24 v).extractLsb' k 8 = BitVec.ofNat 8 (v / 2 ^ k) := by
    intro k hk
    apply BitVec.eq_of_getLsbD_eq
    intro i hi
    simp only [BitVec.getLsbD_extractLsb', BitVec.getLsbD_ofNat, hi, decide_true, Bool.true_and]
    rw [Nat.testBit_div_two_pow]
    simp only [show k + i < 24 by omega, decide_true, Bool.true_and, Nat.add_comm]
  rw [value24Bytes, part 16 (by omega), part 8 (by omega), part 0 (by omega), Nat.pow_zero, Nat.div_one]
  rfl

theorem refByte_eq {n : Nat} (x : Option (Fin n)) :
    refByte x = match x with
      | some i => BitVec.ofNat 8 i.val
      | none => 255 := by
  cases x <;> rfl

theorem answerRule_eq {n : Byte} {r : RuleNo} (h : n.toNat = r.val) (s : State) :
    let x := s.rules[r]
    answerRule s n = .ok ([n, BitVec.ofNat 8 x.trigger.val, if x.onClose then 0 else 1,
        (match x.action with
          | .inert => 0
          | .pulse _ _ => 1
          | .flip _ _ _ _ => 2
          | .step _ _ => 3
          | .add _ _ => 4), BitVec.ofNat 8 x.group.val] ++ two x.holdoff ++ [bit x.persistent] ++
      (match x.action with
        | .inert => [0, 0, 0, 0]
        | .pulse c k => [BitVec.ofNat 8 c.val, BitVec.ofNat 8 k, 0, 0]
        | .flip c eos mode a => [BitVec.ofNat 8 c.val, (match eos with
            | some e => BitVec.ofNat 8 e.val
            | none => 255), eosCode mode, BitVec.ofNat 8 a]
        | .step u m => [BitVec.ofNat 8 u.val, BitVec.ofInt 8 m, 0, 0]
        | .add b v => [BitVec.ofNat 8 b.val, BitVec.ofNat 8 (v / 65536), BitVec.ofNat 8 (v / 256), BitVec.ofNat 8 v]) ++
      two (match s.holdoffs[r] with
        | some ends => msReported (ends - s.now)
        | none => 0) ++ [s.armed]) := by
  intro x
  have hx : s.rules[r] = x := rfl
  have hms : s.msLeft s.holdoffs[r] = match s.holdoffs[r] with
      | some ends => msReported (ends - s.now)
      | none => 0 := rfl
  simp only [answerRule, numbered_of_val h, hms, bytes2_eq, hx]
  cases ha : x.action with
  | add b v =>
    obtain ⟨h16, h8, h0⟩ : (BitVec.ofNat 24 v).extractLsb' 16 8 = BitVec.ofNat 8 (v / 65536) ∧
        (BitVec.ofNat 24 v).extractLsb' 8 8 = BitVec.ofNat 8 (v / 256) ∧
        (BitVec.ofNat 24 v).extractLsb' 0 8 = BitVec.ofNat 8 v := by
      simpa only [value24Bytes, List.cons.injEq, and_true] using value24Bytes_ofNat v
    simp only [ruleBytes, ruleRec, ha, actionBytes, h16, h8, h0, halfBytes_ofNat, byteOf_eq, ofNat_of_val h, flagByte_eq]
    simp only [List.append_assoc, List.cons_append, List.nil_append]
  | flip c eos mode a =>
    simp only [ruleBytes, ruleRec, ha, actionBytes, refByte_eq, halfBytes_ofNat, byteOf_eq, ofNat_of_val h, flagByte_eq]
    cases eos <;> simp only [List.append_assoc, List.cons_append, List.nil_append]
  | _ =>
    simp only [ruleBytes, ruleRec, ha, actionBytes, halfBytes_ofNat, byteOf_eq, ofNat_of_val h, flagByte_eq]
    simp only [List.append_assoc, List.cons_append, List.nil_append]

theorem answerBank_eq {n : Byte} {b : BankNo} (h : n.toNat = b.val) (s : State) :
    let x := s.banks[b]
    answerBank s n = .ok ([n, BitVec.ofNat 8 x.reels.length] ++ two x.profile.start ++ two x.profile.floor ++
      [BitVec.ofNat 8 x.profile.ramp, BitVec.ofNat 8 x.profile.idle] ++
      (List.range 5).flatMap fun i =>
        match x.reels[i]? with
        | some r => [BitVec.ofNat 8 r.channel.val, BitVec.ofNat 8 r.zero.val]
        | none => [0, 0]) := by
  intro x
  simp only [answerBank, numbered_of_val h, bankBytes, bankRec, take_append_replicate, List.flatMap_map, halfBytes_ofNat,
    byteOf_eq, ofNat_of_val h]
  have reel : ∀ i : Nat, ([((x.reels[i]?.map fun r : Reel => (BitVec.ofNat 8 r.channel.val, BitVec.ofNat 8 r.zero.val)).getD
        ((0 : Byte), (0 : Byte))).1, ((x.reels[i]?.map fun r : Reel =>
        (BitVec.ofNat 8 r.channel.val, BitVec.ofNat 8 r.zero.val)).getD ((0 : Byte), (0 : Byte))).2] : List Byte) =
      match x.reels[i]? with
      | some r => [BitVec.ofNat 8 r.channel.val, BitVec.ofNat 8 r.zero.val]
      | none => [0, 0] := by
    intro i; cases x.reels[i]? <;> rfl
  simp only [← reel]
  rfl

theorem answerCounterUnit_eq {n : Byte} {u : UnitNo} (h : n.toNat = u.val) (s : State) :
    let x := s.units[u]
    answerCounterUnit s n = .ok ([n, bit x.inUse, x.up, x.down, x.top, x.zero, BitVec.ofNat 8 x.maximum] ++ two x.settle ++
      two x.profile.start ++ two x.profile.floor ++ [BitVec.ofNat 8 x.profile.ramp, BitVec.ofNat 8 x.profile.idle]) := by
  intro x
  simp only [answerCounterUnit, numbered_of_val h, unitBytes, unitRec, halfBytes_ofNat, byteOf_eq, ofNat_of_val h, flagByte_eq]
  rfl

theorem answerRing_eq {n : Byte} {r : RingNo} (h : n.toNat = r.val) (s : State) :
    let x := s.rings[r]
    answerRing s n = .ok ([n, BitVec.ofNat 8 x.members.length] ++ two x.period ++
      ((List.range 16).map fun i =>
        match x.members[i]? with
        | some l => BitVec.ofNat 8 l.val
        | none => 0) ++
      two (match x.timer with
        | some ends => msReported (ends - s.now)
        | none => 0)) := by
  intro x
  have hms : s.msLeft x.timer = match x.timer with
      | some ends => msReported (ends - s.now)
      | none => 0 := rfl
  have member : ∀ i : Nat, (x.members[i]?.map fun l : LampNo => BitVec.ofNat 8 l.val).getD (0 : Byte) =
      match x.members[i]? with
      | some l => BitVec.ofNat 8 l.val
      | none => 0 := by
    intro i; cases x.members[i]? <;> rfl
  simp only [← hms, ← member]
  simp only [answerRing, numbered_of_val h, ringBytes, ringRec, take_append_replicate, halfBytes_ofNat, bytes2_eq,
    byteOf_eq, ofNat_of_val h]
  rfl

theorem answerLamps_eq (n : Byte) (s : State) :
    answerLamps s n = .ok ((List.finRange 64).map (fun l : LampNo => BitVec.ofNat 8 (s.lamps[l].level + 16 * modeCode s.lamps[l].mode)) ++
      [bit s.blink.second] ++ two (msReported (s.blink.ends - s.now)) ++
      [BitVec.ofNat 8 (if s.node.st = .quiet then s.settings.quietMaster else s.settings.master)]) := by
  have image : s.lamps.toList.map lampByte = (List.finRange 64).map fun l : LampNo => lampByte s.lamps[l] := by
    apply List.ext_getElem
    · simp
    · intro i h₁ h₂; simp
  simp only [answerLamps, image, bytes2_eq, State.msLeft]
  rfl

/-- Settles O40: each answer that holds a record, put side by side with its layout. -/
theorem recordAnswersHoldTheirRecords : Obligations.RecordAnswersHoldTheirRecords := by
  refine ⟨rfl, rfl, rfl, rfl, rfl, fun us => ?_, fun n s => ?_⟩
  · obtain ⟨whole, part⟩ := msReported_cases us
    exact ⟨whole, part.imp_right (·.2)⟩
  · refine ⟨fun h => numbered_of_ge h s, fun h => numbered_of_ge h s,
      fun h => ⟨numbered_of_ge h s, numbered_of_ge h s, numbered_of_ge h s⟩, answerSettings_eq n s,
      fun c h => answerCoil_eq h s, fun r h => answerRule_eq h s, fun b h => answerBank_eq h s,
      fun u h => answerCounterUnit_eq h s, fun r h => answerRing_eq h s, ?_, answerLamps_eq n s⟩
    simp only [answerQueue, ← bytes2_eq]
    rfl

end Sys2Proof.Machine
end
section
/-! SUPPORT. The sweep slot and the status answers, byte by byte (R23, R106, R124, R125, R139, R158, R161). -/

namespace Sys2Proof.Machine
set_option Elab.async false

/-! ### The parts of the sweep slot -/

/-- The mask that a fold over some inputs sets: the bit of an input is its level if it is one of them. -/
theorem getLsbD_foldl_level (s : State) (l : List InputNo) (m : BitVec 32) (j : InputNo) :
    (l.foldl (fun m i => if s.closed i then m ||| (1#32 <<< i.val) else m) m).getLsbD j.val =
      (m.getLsbD j.val || (decide (j ∈ l) && s.closed j)) := by
  induction l generalizing m with
  | nil => simp
  | cons i l ih =>
    rw [List.foldl_cons, ih]
    by_cases hij : j = i
    · subst hij
      cases hc : s.closed j
      · simp
      · simp
    · have hval : ¬ j.val = i.val := fun h => hij (Fin.ext h)
      have bit : (m ||| (1#32 <<< i.val)).getLsbD j.val = m.getLsbD j.val := by
        rw [BitVec.getLsbD_or, BitVec.getLsbD_shiftLeft, BitVec.getLsbD_one]
        have : j.val < i.val ∨ j.val - i.val ≠ 0 := by omega
        rcases this with h | h <;> simp [h]
      cases hc : s.closed i
      · rw [if_neg Bool.false_ne_true]
        simp [hij]
      · rw [if_pos rfl, bit]
        simp [hij]

theorem levelsMask_getLsbD (s : State) (i : InputNo) : (levelsMask s).getLsbD i.val = s.inputs[i].closed := by
  rw [levelsMask, getLsbD_foldl_level]
  simp [State.closed]

theorem attention_eq (s : State) : attention s = !decide (s.latches &&& s.settings.attention = 0) := by
  rw [attention, bne]
  congr 1

theorem stateByte_eq (s : State) :
    nodeCode s.node.st + (if attention s then 128 else 0) =
      BitVec.ofNat 8 ((match s.node.st with
        | .safe => 0
        | .arming => 1
        | .live => 2
        | .quiet => 3
        | .chainLost => 4
        | .tripped => 5) + if s.latches &&& s.settings.attention = 0 then 0 else 128) := by
  rw [attention_eq]
  by_cases h : s.latches &&& s.settings.attention = 0
  · simp only [h, decide_true, Bool.not_true, Bool.false_eq_true, if_false, if_true]
    cases s.node.st <;> rfl
  · simp only [h, decide_false, Bool.not_false, if_false, if_true]
    cases s.node.st <;> rfl

theorem lockedCount_eq (s : State) :
    lockedCount s = ((List.finRange 24).filter fun c : Chan => decide (s.chans[c].act = .locked)).length := by
  have list : s.chans.toList = (List.finRange 24).map fun c : Chan => s.chans[c] := by
    apply List.ext_getElem
    · simp
    · intro i h₁ h₂; simp
  have test : ∀ x : Channel, x.isLocked = decide (x.act = .locked) := by
    intro x; rw [Channel.isLocked]; cases x.act <;> simp
  rw [lockedCount, list, List.filter_map, List.length_map]
  simp only [Function.comp_def, test]

theorem alertCount_eq (s : State) :
    alertCount s = ((List.finRange 24).filter fun c : Chan =>
      decide (0 < s.coils[c].l ∧ 0 < s.heat[c].q ∧ s.coils[c].a ≤ s.heat[c].q)).length := by
  simp only [alertCount, heatAlert, Bool.decide_and, Bool.and_assoc]

theorem banksByte_eq (s : State) :
    banksByte s = BitVec.ofNat 8
      (bankCode s.banks[0] + 4 * bankCode s.banks[1] + 16 * bankCode s.banks[2] + 64 * bankCode s.banks[3]) := by
  have sum : (List.finRange 4).foldl (fun n b => n + bankCode s.banks[b] * 4 ^ b.val) 0 =
      0 + bankCode s.banks[0] * 1 + bankCode s.banks[1] * 4 + bankCode s.banks[2] * 16 + bankCode s.banks[3] * 64 := rfl
  rw [banksByte, sum, byteOf_eq]
  congr 1
  omega

theorem bankCode_eq (b : Bank) :
    bankCode b = if b.reels = [] then 0 else if b.state = .idle then 1 else if b.state = .adding then 2 else 3 := by
  rw [bankCode]
  simp only [List.isEmpty_iff]
  by_cases h : b.reels = []
  · rw [if_pos h, if_pos h]
  · rw [if_neg h, if_neg h]
    cases b.state <;> rfl

theorem sweepSlot_eq (s : State) :
    sweepSlot s =
      [BitVec.ofNat 8 ((match s.node.st with
          | .safe => 0
          | .arming => 1
          | .live => 2
          | .quiet => 3
          | .chainLost => 4
          | .tripped => 5) + if s.latches &&& s.settings.attention = 0 then 0 else 128),
        s.latches.extractLsb' 8 8, s.latches.extractLsb' 0 8,
        (levelsMask s).extractLsb' 24 8, (levelsMask s).extractLsb' 16 8, (levelsMask s).extractLsb' 8 8,
        (levelsMask s).extractLsb' 0 8] ++
      ((List.finRange 16).map fun j => BitVec.ofNat 8 (s.inputs[2 * j.val].count + 16 * s.inputs[2 * j.val + 1].count)) ++
      [BitVec.ofNat 8 s.port.refusals,
        (match s.port.lastAsker with
          | .order tag => tag
          | .rule r => BitVec.ofNat 8 r.val),
        ((match s.port.lastReason with
          | some why => reasonCode why
          | none => 0) + match s.port.lastAsker with
            | .order _ => 0
            | .rule _ => 128),
        BitVec.ofNat 8 s.port.damage, BitVec.ofNat 8 s.dropped,
        (match s.node.wake with
          | .never => 0
          | .goOrder => 1
          | .resetOrder => 2
          | .input i => BitVec.ofNat 8 (64 + i.val)),
        BitVec.ofNat 8 ((List.finRange 24).filter fun c : Chan => decide (s.chans[c].act = .locked)).length,
        BitVec.ofNat 8 ((List.finRange 24).filter fun c : Chan =>
          decide (0 < s.coils[c].l ∧ 0 < s.heat[c].q ∧ s.coils[c].a ≤ s.heat[c].q)).length,
        BitVec.ofNat 8 (bankCode s.banks[0] + 4 * bankCode s.banks[1] + 16 * bankCode s.banks[2] + 64 * bankCode s.banks[3])] := by
  have asker : askerByte s.port.lastAsker = match s.port.lastAsker with
      | .order tag => tag
      | .rule r => BitVec.ofNat 8 r.val := by
    cases s.port.lastAsker <;> rfl
  have wake : wakeCode s.node.wake = match s.node.wake with
      | .never => 0
      | .goOrder => 1
      | .resetOrder => 2
      | .input i => BitVec.ofNat 8 (64 + i.val) := by
    cases s.node.wake <;> rfl
  have reason : reasonByte s.port = (match s.port.lastReason with
      | some why => reasonCode why
      | none => 0) + match s.port.lastAsker with
        | .order _ => 0
        | .rule _ => 128 := by
    rw [reasonByte]
    cases s.port.lastAsker <;> rfl
  rw [sweepSlot, stateByte_eq, asker, wake, reason, lockedCount_eq, alertCount_eq, banksByte_eq]
  rfl

/-! ### The status answers -/

theorem byteOf_of_val {n : Nat} {b : Byte} {i : Fin n} (h : b.toNat = i.val) : byteOf i.val = b := ofNat_of_val h

theorem answerIdentity_eq (n : Byte) (s : State) :
    answerIdentity s n = .ok [0x24, 0x08, 1, s.port.address.setWidth 8, 24, 32, 64, 32, 16, 12, 4, 4, 4] := rfl

theorem answerChannel_eq {n : Byte} {c : Chan} (h : n.toNat = c.val) (s : State) :
    answerChannel s n = .ok ([n, actCode s.chans[c].act,
      (match s.chans[c].act with
        | .holding _ heff => BitVec.ofNat 8 heff
        | _ => 0)] ++ two s.heat[c].q ++ [BitVec.ofNat 8 s.guards[c].strikes, causeCode s.guards[c].cause]) := by
  have shown : byteOf s.chans[c].heffShown = match s.chans[c].act with
      | .holding _ heff => BitVec.ofNat 8 heff
      | _ => 0 := by
    rw [Channel.heffShown]
    cases s.chans[c].act <;> rfl
  simp only [answerChannel, numbered_of_val h, shown, bytes2_eq, byteOf_of_val h, byteOf_eq s.guards[c].strikes]

theorem answerMonitor_eq (n : Byte) (s : State) :
    answerMonitor s n = .ok [s.mon.supply, bit s.mon.sag, BitVec.ofNat 8 s.mon.floorRun, s.mon.temp,
      bit s.mon.warm, BitVec.ofNat 8 s.mon.hotCount, tripCode s.mon.tripCause,
      (match s.mon.tripChan with
        | some c => BitVec.ofNat 8 c.val
        | none => 255),
      BitVec.ofNat 8 s.mon.trips, s.latches.extractLsb' 8 8, s.latches.extractLsb' 0 8,
      s.settings.attention.extractLsb' 8 8, s.settings.attention.extractLsb' 0 8,
      if s.latches &&& s.settings.attention = 0 then 0 else 1] := by
  have flag : flagByte (attention s) = if s.latches &&& s.settings.attention = 0 then 0 else 1 := by
    rw [attention_eq, flagByte]
    by_cases h : s.latches &&& s.settings.attention = 0 <;> simp [h]
  simp only [answerMonitor, flag, halfBytes]
  cases s.mon.tripChan <;> rfl

/-- The timer that a running context reports, as milliseconds. -/
theorem msLeft_timer_cases (s : State) (x : Train) :
    (∀ ends, x.interval = some ends ∨ (x.interval = none ∧ (x.verify = .running ends ∨
        ((∀ e, x.verify ≠ .running e) ∧ x.settle = some ends))) → s.msLeft x.timer = (ends - s.now) / 1000 ∨
      ((ends - s.now) % 1000 ≠ 0 ∧ s.msLeft x.timer = (ends - s.now) / 1000 + 1)) ∧
    (x.interval = none → (∀ ends, x.verify ≠ .running ends) → x.settle = none → s.msLeft x.timer = 0) := by
  have settles : x.interval = none → (∀ e, x.verify ≠ .running e) → x.timer = x.settle := by
    intro hi hv
    rw [Train.timer, hi]
    cases hx : x.verify with
    | running e => exact absurd hx (hv e)
    | _ => rfl
  have ends_timer : ∀ ends, x.interval = some ends ∨ (x.interval = none ∧ (x.verify = .running ends ∨
      ((∀ e, x.verify ≠ .running e) ∧ x.settle = some ends))) → x.timer = some ends := by
    rintro ends (h | ⟨hi, h | ⟨hv, h⟩⟩)
    · rw [Train.timer, h]
    · rw [Train.timer, hi, h]
    · rw [settles hi hv, h]
  constructor
  · intro ends h
    rw [ends_timer ends h]
    exact (msReported_cases (ends - s.now)).2
  · intro hi hv hs
    rw [settles hi hv, hs]
    rfl

theorem answerTrain_of_none {n : Byte} {k : TrainNo} (h : n.toNat = k.val) {s : State} (hk : s.trains[k] = none) :
    answerTrain s n = .ok (n :: List.replicate 21 0) := by
  rw [answerTrain, numbered_of_val h, trainAnswer, hk]
  simp only [byteOf_eq, ofNat_of_val h]

theorem answerTrain_of_some {n : Byte} {k : TrainNo} (h : n.toNat = k.val) {s : State} {x : Train} (hk : s.trains[k] = some x) :
    answerTrain s n = .ok ([n, trainCode x.state] ++
      (match x.owner with
        | .reel b r => [0, BitVec.ofNat 8 b.val, BitVec.ofNat 8 r, BitVec.ofNat 8 x.channel.val, Config.openByte 0]
        | .counter u => [1, BitVec.ofNat 8 u.val, Config.openByte 2, BitVec.ofNat 8 x.channel.val, dirCode x.dir]
        | .bare => [2, Config.openByte 3, Config.openByte 4, BitVec.ofNat 8 x.channel.val, Config.openByte 5]) ++
      two x.planned ++ two x.issued ++ [BitVec.ofNat 8 x.profile.idle] ++ two x.profile.start ++ two x.profile.floor ++
      [BitVec.ofNat 8 x.profile.ramp] ++ two (s.msLeft x.timer) ++ [bit x.inFlight, bit x.held] ++
      (match x.owner with
        | .reel _ _ => [Config.openByte 1]
        | .counter u => [BitVec.ofNat 8 s.units[u].opposite]
        | .bare => [Config.openByte 6])) := by
  rw [answerTrain, numbered_of_val h, trainAnswer, hk]
  simp only [ownerBytes, bytes2_eq, byteOf_eq, ofNat_of_val h, flagByte_eq]
  cases x.owner <;> simp only [List.append_assoc, List.cons_append, List.nil_append]

theorem answerBankStatus_eq {n : Byte} {b : BankNo} (h : n.toNat = b.val) (s : State) :
    answerBankStatus s n = .ok ([n, BitVec.ofNat 8 (bankCode s.banks[b]), BitVec.ofNat 8 s.banks[b].reels.length] ++
      ((List.range 5).flatMap fun r =>
        match s.banks[b].reels[r]? with
        | none => [0, 0, 0, 0]
        | some x =>
          (match x.position with
            | some p => BitVec.ofNat 8 p.val
            | none => 255) ::
          (match trainOf s (.reel b r) with
            | none => [255, Config.openByte 7, Config.openByte 8]
            | some k => BitVec.ofNat 8 k.val :: (match s.trains[k] with
              | some y => two (y.planned - y.issued)
              | none => [Config.openByte 7, Config.openByte 8]))) ++
      [BitVec.ofNat 8 s.banks[b].rollover]) := by
  have reel : ∀ r : Nat, reelAnswer s b r =
      match s.banks[b].reels[r]? with
      | none => [0, 0, 0, 0]
      | some x =>
        (match x.position with
          | some p => BitVec.ofNat 8 p.val
          | none => 255) ::
        (match trainOf s (.reel b r) with
          | none => [255, Config.openByte 7, Config.openByte 8]
          | some k => BitVec.ofNat 8 k.val :: (match s.trains[k] with
            | some y => two (y.planned - y.issued)
            | none => [Config.openByte 7, Config.openByte 8])) := by
    intro r
    rw [reelAnswer]
    cases s.banks[b].reels[r]? with
    | none => rfl
    | some x =>
      dsimp only
      cases trainOf s (.reel b r) with
      | none => cases x.position <;> rfl
      | some k =>
        dsimp only [Option.bind_some]
        simp only [bytes2_eq]
        cases s.trains[k] <;> cases x.position <;> rfl
  simp only [answerBankStatus, numbered_of_val h, byteOf_eq, ofNat_of_val h, funext reel]

theorem answerCounter_of_unused {n : Byte} {u : UnitNo} (h : n.toNat = u.val) {s : State} (hu : s.units[u].inUse = false) :
    answerCounter s n = .ok (n :: List.replicate 11 0) := by
  rw [answerCounter, numbered_of_val h, counterAnswer]
  simp only [hu, Bool.not_false, if_true, byteOf_eq, ofNat_of_val h]

theorem answerCounter_of_used {n : Byte} {u : UnitNo} (h : n.toNat = u.val) {s : State} (hu : s.units[u].inUse = true) :
    let x := s.units[u]
    answerCounter s n = .ok ([n, 1,
      (match x.position with
        | some p => BitVec.ofNat 8 p
        | none => 255),
      bit (s.closedByte x.top), bit (s.closedByte x.zero)] ++
      (match trainOf s (.counter u) with
        | none => 255 :: (List.range 5).map fun j => Config.openByte (9 + j)
        | some k => BitVec.ofNat 8 k.val :: (match s.trains[k] with
          | some y => dirCode y.dir :: (two y.planned ++ two y.issued)
          | none => (List.range 5).map fun j => Config.openByte (9 + j))) ++
      [BitVec.ofNat 8 x.opposite]) := by
  intro x
  have position : positionByte x.position = match x.position with
      | some p => BitVec.ofNat 8 p
      | none => 255 := by
    cases x.position <;> rfl
  rw [answerCounter, numbered_of_val h, counterAnswer]
  simp only [hu, Bool.not_true, Bool.false_eq_true, if_false, byteOf_eq, ofNat_of_val h]
  change Except.ok ([n, 1, positionByte x.position, _, _, _] ++ _ ++ _) = _
  rw [position]
  cases trainOf s (.counter u) with
  | none => rfl
  | some k =>
    simp only [Option.bind_some, bytes2_eq]
    cases s.trains[k] <;> rfl

/-- Settles O39: every answer is written out by the equation of its answerer. -/
theorem slotAndStatusAnswersHoldTheirRecords : Obligations.SlotAndStatusAnswersHoldTheirRecords := by
  unfold Obligations.SlotAndStatusAnswersHoldTheirRecords
  refine ⟨rfl, ⟨rfl, fun _ _ _ => rfl, fun _ _ => rfl, fun _ => rfl, rfl⟩, rfl, rfl, rfl, rfl, fun n s =>
    ⟨⟨levelsMask s, levelsMask_getLsbD s, sweepSlot_eq s⟩, bankCode_eq, answerIdentity_eq n s,
      fun h => numbered_of_ge h s, fun c h => answerChannel_eq h s, answerMonitor_eq n s, fun h => numbered_of_ge h s,
      fun k h => ⟨answerTrain_of_none h, fun x hx => ⟨s.msLeft x.timer, answerTrain_of_some h hx, msLeft_timer_cases s x⟩⟩,
      fun h => ⟨numbered_of_ge h s, numbered_of_ge h s⟩, fun b h => answerBankStatus_eq h s,
      fun u h => ⟨answerCounter_of_unused h, answerCounter_of_used h⟩⟩⟩

end Sys2Proof.Machine
end

section
/-! SUPPORT. What leaves the Admission Queue without a request being made: the operations that only take entries, held trains and contexts
away, and an induction principle for the end of an event. -/

namespace Sys2Proof.Machine

set_option Elab.async false

/-! ### Where the entries of a state come from -/

/-- Two entries are the same request but for its times, its merges and its wait reason. -/
def Entry.alike (x y : Entry) : Prop :=
  x.channel = y.channel ∧ x.cls = y.cls ∧ x.kind = y.kind ∧ x.source = y.source ∧ x.persistent = y.persistent

/-- An entry that a held train of the state makes at its joining (R46). -/
def Entry.ofHeld (s : State) (e : Entry) : Prop :=
  ∃ k ∈ s.held, ∃ x, s.trains[k] = some x ∧ e.channel = x.channel ∧ e.cls = .step ∧ e.kind = .stepPulse ∧
    e.source = .train k ∧ e.persistent = false

/-- An entry of the queue, or one that a held train makes. -/
def Entry.comesFrom (s : State) (e : Entry) : Prop := (∃ e' ∈ s.queue, e.alike e') ∨ e.ofHeld s

/-- No request is made but those of the held trains: every entry comes from the state before, no train is held or allocated anew, nothing
counts as dropped, no channel keeps a flip context it had not, and no latch is cleared. -/
structure Drains (s t : State) : Prop where
  held : ∀ k ∈ t.held, k ∈ s.held
  trains : ∀ (k : TrainNo) (y : Train), t.trains[k] = some y → ∃ x, s.trains[k] = some x ∧ y.channel = x.channel
  queue : ∀ e ∈ t.queue, e.comesFrom s
  dropped : t.dropped = s.dropped
  waiting : ∀ c : Chan, t.chans[c].waiting = s.chans[c].waiting ∨ t.chans[c].waiting = none
  latches : ∀ i : Nat, s.latches.getLsbD i = true → t.latches.getLsbD i = true

theorem Entry.alike_refl (e : Entry) : e.alike e := ⟨rfl, rfl, rfl, rfl, rfl⟩

theorem Entry.alike.trans {x y z : Entry} (a : x.alike y) (b : y.alike z) : x.alike z := by
  obtain ⟨a₁, a₂, a₃, a₄, a₅⟩ := a
  obtain ⟨b₁, b₂, b₃, b₄, b₅⟩ := b
  exact ⟨a₁.trans b₁, a₂.trans b₂, a₃.trans b₃, a₄.trans b₄, a₅.trans b₅⟩

theorem Entry.ofHeld.alike {s : State} {x y : Entry} (h : y.ofHeld s) (a : x.alike y) : x.ofHeld s := by
  obtain ⟨k, hk, z, hz, h₁, h₂, h₃, h₄, h₅⟩ := h
  obtain ⟨a₁, a₂, a₃, a₄, a₅⟩ := a
  exact ⟨k, hk, z, hz, a₁.trans h₁, a₂.trans h₂, a₃.trans h₃, a₄.trans h₄, a₅.trans h₅⟩

theorem Entry.comesFrom.alike {s : State} {x y : Entry} (h : y.comesFrom s) (a : x.alike y) : x.comesFrom s := by
  rcases h with ⟨e, he, b⟩ | h
  · exact .inl ⟨e, he, a.trans b⟩
  · exact .inr (h.alike a)

theorem Drains.refl (s : State) : Drains s s where
  held _ h := h
  trains _ y h := ⟨y, h, rfl⟩
  queue e h := .inl ⟨e, h, e.alike_refl⟩
  dropped := rfl
  waiting _ := .inl rfl
  latches _ h := h

section
variable {s₀ s t : State}

theorem Drains.trans (a : Drains s₀ s) (b : Drains s t) : Drains s₀ t where
  held k h := a.held k (b.held k h)
  trains k y h := by
    obtain ⟨x, hx, e⟩ := b.trains k y h
    obtain ⟨z, hz, e'⟩ := a.trains k x hx
    exact ⟨z, hz, e.trans e'⟩
  queue e h := by
    rcases b.queue e h with ⟨e', he', al⟩ | ⟨k, hk, x, hx, h₁, rest⟩
    · exact (a.queue e' he').alike al
    · obtain ⟨z, hz, e'⟩ := a.trains k x hx
      exact .inr ⟨k, a.held k hk, z, hz, h₁.trans e', rest⟩
  dropped := b.dropped.trans a.dropped
  waiting c := by
    rcases b.waiting c with h | h
    · rw [h]; exact a.waiting c
    · exact .inr h
  latches i h := b.latches i (a.latches i h)

/-- An operation that leaves the queue, the held list, the contexts and the count alone drains. -/
theorem Drains.keep (h : Drains s₀ s) (hq : t.queue = s.queue) (hh : t.held = s.held) (ht : t.trains = s.trains)
    (hd : t.dropped = s.dropped) (hw : ∀ c : Chan, t.chans[c].waiting = s.chans[c].waiting ∨ t.chans[c].waiting = none)
    (hl : ∀ i, s.latches.getLsbD i = true → t.latches.getLsbD i = true) : Drains s₀ t :=
  h.trans
    { held := fun k hk => hh ▸ hk
      trains := fun k y hy => ⟨y, by rwa [ht] at hy, rfl⟩
      queue := fun e he => .inl ⟨e, hq ▸ he, e.alike_refl⟩
      dropped := hd
      waiting := hw
      latches := hl }

theorem Drains.callPass (h : Drains s₀ s) : Drains s₀ s.callPass := h.keep rfl rfl rfl rfl (fun _ => .inl rfl) fun _ h => h
theorem Drains.setHeat (h : Drains s₀ s) (c : Chan) (x : Heat) : Drains s₀ (s.setHeat c x) :=
  h.keep rfl rfl rfl rfl (fun _ => .inl rfl) fun _ h => h
theorem Drains.setGuard (h : Drains s₀ s) (c : Chan) (x : Guard) : Drains s₀ (s.setGuard c x) :=
  h.keep rfl rfl rfl rfl (fun _ => .inl rfl) fun _ h => h
theorem Drains.setBank (h : Drains s₀ s) (b : BankNo) (x : Bank) : Drains s₀ (s.setBank b x) :=
  h.keep rfl rfl rfl rfl (fun _ => .inl rfl) fun _ h => h
theorem Drains.setUnit (h : Drains s₀ s) (u : UnitNo) (x : CounterUnit) : Drains s₀ (s.setUnit u x) :=
  h.keep rfl rfl rfl rfl (fun _ => .inl rfl) fun _ h => h
theorem Drains.setCoil (h : Drains s₀ s) (c : Chan) (x : Coil) : Drains s₀ (s.setCoil c x) :=
  h.keep rfl rfl rfl rfl (fun _ => .inl rfl) fun _ h => h
theorem Drains.setPassDue (h : Drains s₀ s) (b : Bool) : Drains s₀ { s with passDue := b } :=
  h.keep rfl rfl rfl rfl (fun _ => .inl rfl) fun _ h => h

theorem Drains.setLatch (h : Drains s₀ s) (x : Latch) : Drains s₀ (setLatch x s) :=
  h.keep rfl rfl rfl rfl (fun _ => .inl rfl) fun i hi => by simp [hi]

theorem Drains.setLatchIf (h : Drains s₀ s) (b : Bool) (x : Latch) : Drains s₀ (setLatchIf b x s) := by
  cases b
  · exact h
  · exact h.setLatch x

/-- A channel may change in all but a flip context it had not. -/
theorem Drains.setChan (h : Drains s₀ s) (c : Chan) (x : Channel) (hx : x.waiting = s.chans[c].waiting ∨ x.waiting = none) :
    Drains s₀ (s.setChan c x) := by
  refine h.keep rfl rfl rfl rfl (fun c' => ?_) fun _ h => h
  rw [State.setChan_chans]
  by_cases hc : c' = c
  · subst hc; rwa [getElem_set_same]
  · rw [getElem_set_other _ _ hc]; exact .inl rfl

theorem Drains.setWaiting_none (h : Drains s₀ s) (c : Chan) : Drains s₀ (setWaiting c none s) := h.setChan c _ (.inr rfl)

theorem Drains.setAct (h : Drains s₀ s) (c : Chan) (x : Activity) : Drains s₀ (setAct c x s) := by
  have hu : Drains s₀ { s with inUse := s.inUse - actDraw s.coils[c] s.chans[c].act + actDraw s.coils[c] x } :=
    h.keep rfl rfl rfl rfl (fun _ => .inl rfl) fun _ h => h
  simp only [Machine.setAct]; split
  · exact (hu.setGuard _ _).setChan _ _ (.inl rfl)
  · exact hu.setChan _ _ (.inl rfl)

/-! ### Heat -/

theorem Drains.raiseHeat (h : Drains s₀ s) (c : Chan) (x : Heat) : Drains s₀ (raiseHeat c x s) := (h.setHeat c x).setLatchIf _ _

theorem Drains.accrueKick (h : Drains s₀ s) (c : Chan) : Drains s₀ (accrueKick c s) := by
  simp only [Machine.accrueKick]; split
  · exact h
  · exact h.raiseHeat _ _

theorem Drains.accrueHold (h : Drains s₀ s) (c : Chan) (e : Nat) : Drains s₀ (accrueHold c e s) := by
  simp only [Machine.accrueHold]; split
  · exact h
  · exact h.raiseHeat _ _

theorem Drains.finalCharge (h : Drains s₀ s) (c : Chan) : Drains s₀ (finalCharge c s) := by
  simp only [Machine.finalCharge]
  repeat' split
  · exact h.accrueKick c
  · exact h
  · exact h.accrueHold c _
  · exact h
  · exact h

/-! ### The queue and the held list -/

theorem Drains.setQueue (h : Drains s₀ s) {q : List Entry} (hq : ∀ e ∈ q, e.comesFrom s) : Drains s₀ (s.setQueue q) :=
  h.trans
    { held := fun _ h => h
      trains := fun _ y h => ⟨y, h, rfl⟩
      queue := hq
      dropped := rfl
      waiting := fun _ => .inl rfl
      latches := fun _ h => h }

theorem Drains.filterQueue (h : Drains s₀ s) (p : Entry → Bool) : Drains s₀ (s.setQueue (s.queue.filter p)) :=
  h.setQueue fun e he => .inl ⟨e, (List.mem_filter.mp he).1, e.alike_refl⟩

theorem Drains.setHeld (h : Drains s₀ s) {l : List TrainNo} (hl : ∀ k ∈ l, k ∈ s.held) : Drains s₀ (s.setHeld l) :=
  h.trans
    { held := hl
      trains := fun _ y h => ⟨y, h, rfl⟩
      queue := fun e he => .inl ⟨e, he, e.alike_refl⟩
      dropped := rfl
      waiting := fun _ => .inl rfl
      latches := fun _ h => h }

/-- A context may change in all but its channel, and may become FREE. -/
theorem Drains.setTrain (h : Drains s₀ s) (k : TrainNo) (x : Option Train)
    (hx : ∀ y, x = some y → ∃ z, s.trains[k] = some z ∧ y.channel = z.channel) : Drains s₀ (s.setTrain k x) :=
  h.trans
    { held := fun _ h => h
      trains := fun j y hy => by
        rw [State.setTrain_trains] at hy
        by_cases hj : j = k
        · subst hj; exact hx y (by rwa [getElem_set_same] at hy)
        · exact ⟨y, by rwa [getElem_set_other _ _ hj] at hy, rfl⟩
      queue := fun e he => .inl ⟨e, he, e.alike_refl⟩
      dropped := rfl
      waiting := fun _ => .inl rfl
      latches := fun _ h => h }

theorem Drains.setTrain_none (h : Drains s₀ s) (k : TrainNo) : Drains s₀ (s.setTrain k none) := h.setTrain k none fun _ h => nomatch h

/-- A request that finds a place free changes the queue alone, and adds at most its own entry. -/
theorem submit_with_place (e : Entry) {s : State} (h : s.queue.length < Config.queueSize) :
    ∃ q b, (submit e s).2 = { s with queue := q, passDue := b } ∧ ∀ x ∈ q, x = e ∨ ∃ y ∈ s.queue, x.alike y := by
  rcases submit_cases e s with ⟨-, hs⟩ | ⟨-, -, hs⟩ | ⟨k, -, hf, -, -⟩ | ⟨-, hf, -, -⟩
  · refine ⟨_, s.passDue, congrArg Prod.snd hs, fun x hx => ?_⟩
    obtain ⟨y, hy, rfl⟩ := List.mem_map.mp hx
    refine .inr ⟨y, hy, ?_⟩
    split
    · exact ⟨rfl, rfl, rfl, rfl, rfl⟩
    · exact y.alike_refl
  · refine ⟨_, true, congrArg Prod.snd hs, fun x hx => ?_⟩
    rcases (mem_insertEntry e x s.queue).mp hx with h | h
    · exact .inl h
    · exact .inr ⟨x, h, x.alike_refl⟩
  · exact absurd h hf
  · exact absurd h hf

theorem joinHeld_of_none {k : TrainNo} {s : State} (h : s.trains[k] = none) : joinHeld k s = s := by simp only [joinHeld, h]

/-- A held train's joining changes the queue and its own held flag, and adds at most its own entry. -/
theorem joinHeld_of_some {k : TrainNo} {x : Train} {s : State} (hk : s.trains[k] = some x)
    (h : s.queue.length < Config.queueSize) :
    ∃ q b, joinHeld k s = { s with trains := s.trains.set k (some { x with held := false }), queue := q, passDue := b } ∧
      ∀ e ∈ q, e = stepEntry s k x ∨ ∃ y ∈ s.queue, e.alike y := by
  obtain ⟨q, b, e, hq⟩ := submit_with_place (stepEntry s k x) (s := s.setTrain k (some { x with held := false })) h
  refine ⟨q, b, ?_, hq⟩
  simp only [joinHeld, hk]
  exact e

theorem Drains.joinHeld (h : Drains s₀ s) {k : TrainNo} (hk : k ∈ s.held) (hp : s.queue.length < Config.queueSize) :
    Drains s₀ (joinHeld k s) := by
  cases ht : s.trains[k] with
  | none => rwa [joinHeld_of_none ht]
  | some x =>
    obtain ⟨q, b, e, hq⟩ := joinHeld_of_some ht hp
    rw [e]
    have entries : Drains s₀ (s.setQueue q) := h.setQueue fun e he => by
      rcases hq e he with rfl | ⟨y, hy, al⟩
      · exact .inr ⟨k, hk, x, ht, rfl, rfl, rfl, rfl, rfl⟩
      · exact .inl ⟨y, hy, al⟩
    exact (entries.setTrain k (some { x with held := false }) fun y hy => ⟨x, ht, by cases hy; rfl⟩).setPassDue b

/-- Handing free places keeps what each joining and each shortening of the held list keeps (R46). -/
theorem handPlaces_invariant {P : State → Prop}
    (join : ∀ k s, P s → k ∈ s.held → s.queue.length < Config.queueSize → P (Machine.joinHeld k s))
    (shrink : ∀ l s, P s → (∀ k ∈ l, k ∈ s.held) → P (s.setHeld l)) :
    ∀ (ts : List TrainNo) (s : State), (∀ k ∈ ts, k ∈ s.held) → P s → P (handPlaces ts s)
  | [], s, _, hs => shrink [] s hs (fun _ h => nomatch h)
  | k :: ts, s, hts, hs => by
    rw [handPlaces]
    split
    · rename_i hp
      have hk : k ∈ s.held := hts k List.mem_cons_self
      have hheld : (Machine.joinHeld k s).held = s.held := by
        cases ht : s.trains[k] with
        | none => rw [joinHeld_of_none ht]
        | some x =>
          obtain ⟨q, b, e, -⟩ := joinHeld_of_some ht hp
          rw [e]
      exact handPlaces_invariant join shrink ts _ (fun j hj => hheld ▸ hts j (List.mem_cons_of_mem _ hj)) (join k s hs hk hp)
    · exact shrink (k :: ts) s hs hts

theorem handOver_invariant {P : State → Prop}
    (join : ∀ k s, P s → k ∈ s.held → s.queue.length < Config.queueSize → P (Machine.joinHeld k s))
    (shrink : ∀ l s, P s → (∀ k ∈ l, k ∈ s.held) → P (s.setHeld l)) {s : State} (hs : P s) : P (handOver s) :=
  handPlaces_invariant join shrink s.held s (fun _ h => h) hs

theorem Drains.handOver (h : Drains s₀ s) : Drains s₀ (handOver s) :=
  handOver_invariant (P := Drains s₀) (fun _ _ hs hk hp => hs.joinHeld hk hp) (fun _ _ hs hl => hs.setHeld hl) h

theorem Drains.withdraw (h : Drains s₀ s) (p : Entry → Bool) : Drains s₀ (withdraw p s) := by
  simp only [Machine.withdraw]; split
  · exact (h.filterQueue _).callPass.handOver
  · exact h

/-- After a withdrawal every entry that it was to take is one that a held train has just made (R46, R48). -/
theorem mem_withdraw {p : Entry → Bool} {s : State} (hp : ∀ x y : Entry, x.alike y → p x = p y) {e : Entry}
    (h : e ∈ (Machine.withdraw p s).queue) : p e = false ∨ e.ofHeld s := by
  rw [Machine.withdraw] at h
  split at h
  · have drained : Drains (s.setQueue (s.queue.filter fun x => !p x)).callPass
        (Machine.handOver (s.setQueue (s.queue.filter fun x => !p x)).callPass) := (Drains.refl _).handOver
    rcases drained.queue e h with ⟨e', he', al⟩ | held
    · refine .inl ?_
      have := (List.mem_filter.mp he').2
      rw [hp e e' al]
      simpa using this
    · exact .inr held
  · rename_i hn
    refine .inl ?_
    by_contra hc
    exact hn (List.any_eq_true.mpr ⟨e, h, by simpa using hc⟩)

theorem Drains.withdrawRekick (h : Drains s₀ s) (c : Chan) : Drains s₀ (withdrawRekick c s) := h.withdraw _
theorem Drains.withdrawFlip (h : Drains s₀ s) (c : Chan) : Drains s₀ (withdrawFlip c s) := (h.withdraw _).setWaiting_none c
theorem Drains.withdrawAll (h : Drains s₀ s) (c : Chan) : Drains s₀ (withdrawAll c s) := (h.withdraw _).setWaiting_none c
theorem Drains.clearClaimed (h : Drains s₀ s) (c : Chan) : Drains s₀ (clearClaimed c s) := (h.withdraw _).setWaiting_none c

/-! ### The trains -/

theorem Drains.trainKickEnd (h : Drains s₀ s) (c : Chan) : Drains s₀ (trainKickEnd c s) := by
  simp only [Machine.trainKickEnd]
  split
  · exact h
  · split
    · exact h
    · rename_i x hx
      split
      · exact h.setTrain _ _ fun y hy => ⟨x, hx, by cases hy; rfl⟩
      · exact h

theorem Drains.trainGranted (h : Drains s₀ s) (k : TrainNo) : Drains s₀ (trainGranted k s) := by
  simp only [Machine.trainGranted]; split
  · exact h
  · rename_i x hx
    exact h.setTrain _ _ fun y hy => ⟨x, hx, by cases hy; rfl⟩

theorem Drains.takeBack (h : Drains s₀ s) (k : TrainNo) : Drains s₀ (takeBack k s) :=
  (h.setHeld fun _ hj => (List.mem_filter.mp hj).1).withdraw _

theorem Drains.freeTrain (h : Drains s₀ s) (k : TrainNo) : Drains s₀ (freeTrain k s) := (h.setTrain_none k).takeBack k

theorem Drains.freeBank (h : Drains s₀ s) (b : BankNo) : Drains s₀ (freeBank b s) :=
  foldl_invariant (P := Drains s₀) (fun _ _ hs => hs.freeTrain _) _ h

theorem Drains.bankTest (h : Drains s₀ s) (b : BankNo) : Drains s₀ (bankTest b s) := by
  simp only [Machine.bankTest]; split
  · exact (h.freeBank b).setBank _ _
  · exact h

theorem Drains.cancelBank (h : Drains s₀ s) (b : BankNo) : Drains s₀ (cancelBank b s) := by
  simp only [Machine.cancelBank]; split
  · exact h
  · exact (h.freeBank b).setBank _ _

theorem Drains.recordEnd (h : Drains s₀ s) (u : UnitNo) (x : Train) : Drains s₀ (recordEnd u x s) := by
  simp only [Machine.recordEnd]; split
  · exact h.setUnit _ _
  · exact h

theorem Drains.cancelTrain (h : Drains s₀ s) (k : TrainNo) : Drains s₀ (cancelTrain k s) := by
  simp only [Machine.cancelTrain]
  repeat' split
  · exact h
  · exact h.freeTrain k
  · exact h.cancelBank _
  · exact ((h.freeTrain k).recordEnd _ _).setUnit _ _

theorem Drains.cancelOf (h : Drains s₀ s) (k : Option TrainNo) : Drains s₀ (cancelOf k s) := by
  cases k with
  | none => exact h
  | some k => exact h.cancelTrain k

theorem Drains.setReel (h : Drains s₀ s) (b : BankNo) (r : Nat) (p : Option (Fin 10)) : Drains s₀ (setReel b r p s) := by
  simp only [Machine.setReel]; split
  · exact h.setBank _ _
  · exact h

theorem Drains.unitsLocked (h : Drains s₀ s) (c : Chan) : Drains s₀ (unitsLocked c s) := by
  have reels : Drains s₀ (match reelOf s c with
      | some (b, r) => if s.banks[b].state = .idle then Machine.setReel b r none s else s
      | none => s) := by
    repeat' split
    · exact h.setReel _ _ _
    · exact h
    · exact h
  simp only [Machine.unitsLocked]; split
  · exact reels.setUnit _ _
  · exact reels

/-! ### The pass -/

theorem Drains.becomeIdle (h : Drains s₀ s) (c : Chan) : Drains s₀ (becomeIdle c s) := (h.setAct c .idle).callPass

theorem Drains.enterRecovery (h : Drains s₀ s) (c : Chan) : Drains s₀ (enterRecovery c s) := by
  simp only [Machine.enterRecovery]; split
  · exact h.becomeIdle c
  · exact h.setAct _ _

theorem Drains.enterHold (h : Drains s₀ s) (c : Chan) (d : Drive) (x : FlipContext) (n : Nat) (l : Option Nat) (e : Nat) :
    Drains s₀ (enterHold c d x n l e s) := (h.setHeat _ _).setAct _ _

theorem Drains.beginKick (h : Drains s₀ s) (c : Chan) (kind : DriveKind) (e : Entry) (n : Nat) :
    Drains s₀ (beginKick c kind e n s) := (h.setAct _ _).setGuard _ _

theorem Drains.grantKick (h : Drains s₀ s) (e : Entry) (n : Nat) : Drains s₀ (grantKick e n s) := by
  simp only [Machine.grantKick]
  repeat' split
  · exact (h.setWaiting_none _).beginKick _ _ _ _
  · exact h
  · exact (h.finalCharge _).beginKick _ _ _ _
  · exact h
  · exact h.beginKick _ _ _ _
  · exact (h.beginKick _ _ _ _).trainGranted _
  · exact h.beginKick _ _ _ _

theorem Drains.grantHold (h : Drains s₀ s) (e : Entry) (n : Nat) (b : Bool) : Drains s₀ (grantHold e n b s) := by
  simp only [Machine.grantHold]; split
  · exact ((h.setWaiting_none _).enterHold _ _ _ _ _ _).setLatchIf _ _
  · exact h

theorem Drains.removeAtPass (h : Drains s₀ s) (e : Entry) (x y : Bool) : Drains s₀ (removeAtPass e x y s) := by
  simp only [Machine.removeAtPass]; split
  · exact ((h.setLatchIf _ _).setLatchIf _ _).setWaiting_none _
  · exact (h.setLatchIf _ _).setLatchIf _ _

end

/-! ### An induction principle for the end of an event -/

/-- What each piece of a pass keeps: each finding acted on, for an entry of the queue, while the relay is closed. -/
structure KeptByFindings (P : State → Prop) : Prop where
  removed : ∀ e x y s, P s → e ∈ s.queue → find s e = .removed x y → P (removeAtPass e x y s)
  kick : ∀ e n draw limit s, P s → e ∈ s.queue → s.node.relay = true → find s e = .kick n draw limit → draw ≤ limit →
    P (grantKick e n s)
  hold : ∀ e heff draw limit x s, P s → e ∈ s.queue → s.node.relay = true → find s e = .hold heff draw limit x → draw ≤ limit →
    P (grantHold e heff x s)

/-- What each piece of the end of an event keeps. -/
structure KeptByPasses (P : State → Prop) : Prop extends KeptByFindings P where
  join : ∀ k s, P s → k ∈ s.held → s.queue.length < Config.queueSize → P (joinHeld k s)
  shrink : ∀ l s, P s → (∀ k ∈ l, k ∈ s.held) → P (s.setHeld l)
  stay : ∀ q s, P s → (∀ e ∈ q, ∃ e' ∈ s.queue, ∃ w, e = { e' with wait := w }) → P (s.setQueue q)
  mark : ∀ b s, P s → P { s with passDue := b }

section
variable {P : State → Prop}

/-- Acting on a finding leaves the queue alone. -/
theorem removeAtPass_queue (e : Entry) (x y : Bool) (s : State) : (removeAtPass e x y s).queue = s.queue := by
  cases x <;> cases y <;> (simp only [removeAtPass]; split <;> rfl)

theorem beginKick_queue (c : Chan) (kind : DriveKind) (e : Entry) (n : Nat) (s : State) : (beginKick c kind e n s).queue = s.queue :=
  setAct_queue _ _ _

theorem grantKick_queue (e : Entry) (n : Nat) (s : State) : (grantKick e n s).queue = s.queue := by
  simp only [grantKick]
  repeat' split
  · exact beginKick_queue _ _ _ _ _
  · rfl
  · exact (beginKick_queue _ _ _ _ _).trans (finalCharge_queue _ _)
  · rfl
  · exact beginKick_queue _ _ _ _ _
  · simp only [trainGranted]; split <;> exact beginKick_queue _ _ _ _ _
  · exact beginKick_queue _ _ _ _ _

theorem grantHold_queue (e : Entry) (n : Nat) (b : Bool) (s : State) : (grantHold e n b s).queue = s.queue := by
  simp only [grantHold]; split
  · cases b <;> exact setAct_queue _ _ _
  · rfl

theorem walk_invariant (h : KeptByFindings P) :
    ∀ (q : List Entry) (s : State), (∀ e ∈ q, e ∈ s.queue) → s.node.relay = true → P s →
      P (walk q s).2 ∧ (walk q s).2.queue = s.queue
  | [], _, _, _, hs => ⟨hs, rfl⟩
  | e :: es, s, hq, hr, hs => by
    have here : e ∈ s.queue := hq e List.mem_cons_self
    have behind : ∀ x ∈ es, x ∈ s.queue := fun x hx => hq x (List.mem_cons_of_mem _ hx)
    have next : ∀ t : State, t.queue = s.queue → t.node = s.node → P t → P (walk es t).2 ∧ (walk es t).2.queue = s.queue :=
      fun t ht hn hp => by
        obtain ⟨a, b⟩ := walk_invariant h es t (fun x hx => ht ▸ behind x hx) (hn ▸ hr) hp
        exact ⟨a, b.trans ht⟩
    rw [walk]
    split
    · exact next s rfl rfl hs
    · rename_i x y hf
      exact next _ (removeAtPass_queue e x y s) (kept_removeAtPass e x y s).node (h.removed e x y s hs here hf)
    · rename_i n draw limit hf
      split
      · rename_i hd
        exact next _ (grantKick_queue e n s) (kept_grantKick e n s).node (h.kick e n draw limit s hs here hr hf hd)
      · exact ⟨hs, rfl⟩
    · rename_i heff draw limit x hf
      split
      · rename_i hd
        exact next _ (grantHold_queue e heff x s) (kept_grantHold e heff x s).node (h.hold e heff draw limit x s hs here hr hf hd)
      · exact ⟨hs, rfl⟩

theorem pass_invariant (h : KeptByPasses P) {s : State} (hs : P s) : P (pass s) := by
  rw [pass]
  split
  · rename_i hr
    obtain ⟨hw, hq⟩ := walk_invariant h.toKeptByFindings s.queue s (fun _ h => h) hr hs
    exact h.stay _ _ hw fun e he => by rw [hq]; exact walk_mem s.queue s e he
  · exact hs

theorem passes_invariant (h : KeptByPasses P) (n : Nat) {s : State} (hs : P s) : P (passes n s) := by
  induction n generalizing s with
  | zero => exact h.mark false s hs
  | succ n ih =>
    have handed : P (handOver s) := handOver_invariant h.join h.shrink hs
    rw [passes]
    split
    · exact ih (pass_invariant h (h.mark false _ handed))
    · exact handed

/-- What every piece of the end of an event keeps, the end of an event keeps (R46, R55 to R59). -/
theorem arbitrate_invariant (h : KeptByPasses P) {s : State} (hs : P s) : P (arbitrate s) := by
  rw [arbitrate]
  split
  · exact passes_invariant h _ hs
  · exact hs

end

theorem keptByPasses_drains (s₀ : State) : KeptByPasses (Drains s₀) where
  removed e x y s h _ _ := h.removeAtPass e x y
  kick e n _ _ s h _ _ _ _ := h.grantKick e n
  hold e n _ _ x s h _ _ _ _ := h.grantHold e n x
  join k s h hk hp := h.joinHeld hk hp
  shrink l s h hl := h.setHeld hl
  stay q s h hq := h.setQueue fun e he => by
    obtain ⟨e', he', w, rfl⟩ := hq e he
    exact .inl ⟨e', he', rfl, rfl, rfl, rfl, rfl⟩
  mark b s h := h.setPassDue b

theorem Drains.arbitrate {s₀ s : State} (h : Drains s₀ s) : Drains s₀ (arbitrate s) := arbitrate_invariant (keptByPasses_drains s₀) h

end Sys2Proof.Machine
end

section
/-! SUPPORT. Recovery, stale and holdoff timers (R7, R47, R49, R82). -/

namespace Sys2Proof.Machine

set_option Elab.async false

theorem Kept.tables {s t : State} (h : Kept s t) : TablesKept s t := ⟨h.coils, h.rules, h.settings, h.lamps, h.rings⟩

/-- A channel that is not driven draws nothing (R51). -/
theorem actDraw_not_driven {k : Coil} {x : Channel} (h : x.driven = false) : actDraw k x.act = 0 := by
  cases ha : x.act with
  | kicking d n ends => rw [driven_of_kicking ha] at h; cases h
  | holding d e => rw [driven_of_holding ha] at h; cases h
  | _ => rfl

/-- A channel that is not driven before or after a change of state changes in nothing else. -/
theorem setAct_not_driven {c : Chan} {x : Activity} {s : State} (h : s.chans[c].driven = false)
    (hx : Channel.driven { s.chans[c] with act := x } = false) : setAct c x s = s.setChan c { s.chans[c] with act := x } := by
  have before : actDraw s.coils[c] s.chans[c].act = 0 := actDraw_not_driven h
  have after : actDraw s.coils[c] x = 0 := actDraw_not_driven hx
  have hx' : Channel.driven { act := x, waiting := s.chans[c].waiting } = false := hx
  simp only [setAct, before, after, hx', Bool.and_false, Bool.false_eq_true, if_false, Nat.sub_zero, Nat.add_zero]

theorem becomeIdle_not_driven {c : Chan} {s : State} (h : s.chans[c].driven = false) :
    becomeIdle c s = (s.setChan c { s.chans[c] with act := .idle }).callPass := by
  rw [becomeIdle, setAct_not_driven h (not_driven_of_idle rfl)]

theorem recoveryOver_of_recovering {c : Chan} {s : State} {ends : Nat} (h : s.chans[c].act = .recovering ends) :
    recoveryOver c s = arbitrate ((s.reach ends).setChan c { s.chans[c] with act := .idle }).callPass := by
  have hd : (s.reach ends).chans[c].driven = false := not_driven_of_recovering h
  simp only [recoveryOver, h]
  rw [becomeIdle_not_driven hd]
  rfl

theorem recoveryExpiry_idle {c : Chan} {ends : Nat} {s : State} (ha : s.chans[c].act = .recovering ends) (hc : Calm s)
    (hp : s.passDue = false) :
    exec (.recoveryExpiry c) s =
      .next { s with now := max s.now ends, chans := s.chans.set c { s.chans[c] with act := .idle } } := by
  have calm : Calm ((s.reach ends).setChan c { s.chans[c] with act := .idle }).callPass := hc
  change Host.Outcome.next (recoveryOver c s) = _
  rw [recoveryOver_of_recovering ha, arbitrate_calm calm]
  obtain ⟨_, _, due⟩ := s
  subst hp
  rfl

/-- What a stale entry's removal leaves to the end of the event. -/
theorem staleOver_of_found {c : Chan} {k : Cls} {s : State} {e : Entry} {ends : Nat}
    (hf : s.queue.find? (fun x => x.channel == c && x.cls == k) = some e) (hs : e.stale = some ends) :
    staleOver c k s = removeStale e (s.reach ends) := by
  simp only [staleOver, hf, hs]

/-- The state a stale entry leaves before its context goes and the places are handed on. -/
def withoutStale (e : Entry) (s : State) : State := countDropped (s.setQueue (s.queue.filter fun x => !x.matches e))

theorem removeStale_drains (e : Entry) (s : State) : Drains (withoutStale e s) (removeStale e s) := by
  have start := Drains.refl (withoutStale e s)
  rw [removeStale]
  split
  · exact ((start.setWaiting_none e.channel).callPass.handOver).arbitrate
  · exact (start.callPass.handOver).arbitrate

theorem kept_removeStale (e : Entry) (s : State) : Kept s (removeStale e s) := by
  have start : Kept s (withoutStale e s) := (kept_setQueue _ s).trans (kept_countDropped _)
  rw [removeStale]
  split
  · exact ((start.trans (kept_setWaiting e.channel none _)).trans (kept_callPass _)).trans
      ((kept_handOver _).trans (kept_arbitrate _))
  · exact (start.trans (kept_callPass _)).trans ((kept_handOver _).trans (kept_arbitrate _))

/-- A Flip's context goes with its stale entry (R47, R12). -/
theorem removeStale_waiting {e : Entry} (s : State) (h : e.kind = .flip) : (removeStale e s).chans[e.channel].waiting = none := by
  have drained : Drains (setWaiting e.channel none (withoutStale e s)) (removeStale e s) := by
    rw [removeStale]
    rw [if_pos h]
    exact ((Drains.refl _).callPass.handOver).arbitrate
  rcases drained.waiting e.channel with hw | hw
  · rwa [setWaiting_chans, getElem_set_same] at hw
  · exact hw

theorem staleExpiry_removes {c : Chan} {k : Fin 4} {e : Entry} {ends : Nat} {s : State}
    (hf : s.queue.find? (fun x => x.channel == c && x.cls == clsOf k) = some e) (hs : e.stale = some ends)
    (hk : clsOf k ≠ .step) :
    ∃ t, exec (.staleTimerExpiry c k) s = .next t ∧ (∀ x ∈ t.queue, ¬ (x.channel = c ∧ x.cls = clsOf k)) ∧
      t.dropped = min 255 (s.dropped + 1) ∧ t.latches.getLsbD 2 = true ∧ (e.kind = .flip → t.chans[c].waiting = none) ∧
      t.now = max s.now ends ∧ TablesKept s t ∧ t.node = s.node := by
  have found : e.channel = c ∧ e.cls = clsOf k := by simpa using List.find?_some hf
  obtain ⟨hc, hcls⟩ := found
  have drained := removeStale_drains e (s.reach ends)
  have kept := kept_removeStale e (s.reach ends)
  have run : exec (.staleTimerExpiry c k) s = .next (removeStale e (s.reach ends)) := by
    change Host.Outcome.next (staleOver c (clsOf k) s) = _
    rw [staleOver_of_found hf hs]
  refine ⟨_, run, ?_, drained.dropped, ?_, ?_, kept.now, kept.tables, kept.node⟩
  · rintro x hx ⟨hxc, hxk⟩
    rcases drained.queue x hx with ⟨y, hy, al⟩ | ⟨_, _, _, _, _, hstep, _⟩
    · obtain ⟨ac, ak, -⟩ := al
      have hn : (!y.matches e) = true := (List.mem_filter.mp hy).2
      have hm : y.matches e = true := by simp [Entry.matches, ← ac, ← ak, hxc, hxk, hc, hcls]
      rw [hm] at hn
      cases hn
    · exact hk (hxk.symm.trans hstep)
  · refine drained.latches 2 ?_
    simp [withoutStale, countDropped, latchMask, latchBit]
  · intro hflip
    rw [← hc]
    exact removeStale_waiting _ hflip

theorem holdoffExpiry_frees {r : RuleNo} {ends : Nat} {s : State} (h : s.holdoffs[r] = some ends) :
    exec (.holdoffExpiry r) s = .next { s with now := max s.now ends, holdoffs := s.holdoffs.set r none } := by
  change Host.Outcome.next (holdoffOver r s) = _
  simp only [holdoffOver, h]
  rfl

/-- Settles O51: each expiry is followed to the end of its event. -/
theorem recoveryStaleAndHoldoffTimersExpire : Obligations.RecoveryStaleAndHoldoffTimersExpire := by
  unfold Obligations.RecoveryStaleAndHoldoffTimersExpire
  exact ⟨fun _ _ _ => recoveryExpiry_idle, fun _ _ _ _ _ => staleExpiry_removes, fun _ _ _ => holdoffExpiry_frees⟩

end Sys2Proof.Machine
end

section
/-! SUPPORT. The pass on a state without held trains, the beginning of a drive, and the Pulse order (R4, R9, R19, R30, R53, R56). -/

namespace Sys2Proof.Machine

set_option Elab.async false

/-! ### The end of an event with no train held -/

theorem clear_passDue {s : State} (h : s.passDue = false) : { s with passDue := false } = s := by
  obtain ⟨_, _, due⟩ := s
  subst h
  rfl

theorem handOver_of_unheld {s : State} (h : s.held = []) : handOver s = s := by
  rw [handOver, h, handPlaces]
  obtain ⟨⟩ := s
  subst h
  rfl

theorem beginKick_held (c : Chan) (kind : DriveKind) (e : Entry) (n : Nat) (s : State) : (beginKick c kind e n s).held = s.held :=
  setAct_held _ _ _

theorem beginKick_passDue (c : Chan) (kind : DriveKind) (e : Entry) (n : Nat) (s : State) :
    (beginKick c kind e n s).passDue = s.passDue := setAct_passDue _ _ _

/-- A finding acted on calls for no further pass and holds no train. -/
theorem keptByFindings_unheld : KeptByFindings fun s => s.held = [] ∧ s.passDue = false where
  removed e x y s h _ _ := by
    cases x <;> cases y <;> (simp only [removeAtPass]; split <;> exact h)
  kick e n _ _ s h _ _ _ _ := by
    obtain ⟨hh, hp⟩ := h
    have begun : ∀ c kind t, t.held = [] → t.passDue = false →
        (beginKick c kind e n t).held = [] ∧ (beginKick c kind e n t).passDue = false := fun c kind t ht hd =>
      ⟨(beginKick_held c kind e n t).trans ht, (beginKick_passDue c kind e n t).trans hd⟩
    simp only [grantKick]
    repeat' split
    · exact begun _ _ _ hh hp
    · exact ⟨hh, hp⟩
    · exact begun _ _ _ ((finalCharge_held _ _).trans hh) ((finalCharge_passDue _ _).trans hp)
    · exact ⟨hh, hp⟩
    · exact begun _ _ _ hh hp
    · simp only [trainGranted]; split <;> exact begun _ _ _ hh hp
    · exact begun _ _ _ hh hp
  hold e n _ _ x s h _ _ _ _ := by
    simp only [grantHold]; split
    · cases x <;> exact ⟨(setAct_held _ _ _).trans h.1, (setAct_passDue _ _ _).trans h.2⟩
    · exact h

theorem pass_unheld {s : State} (hh : s.held = []) (hp : s.passDue = false) : (pass s).held = [] ∧ (pass s).passDue = false := by
  rw [pass]; split
  · rename_i hr
    exact (walk_invariant keptByFindings_unheld s.queue s (fun _ h => h) hr ⟨hh, hp⟩).1
  · exact ⟨hh, hp⟩

/-- With no train held an event that calls for a pass ends with one. -/
theorem arbitrate_unheld {s : State} (hh : s.held = []) (hp : s.passDue = true) : arbitrate s = pass { s with passDue := false } := by
  obtain ⟨kh, kp⟩ := pass_unheld (s := { s with passDue := false }) hh rfl
  have last : passes 1 (pass { s with passDue := false }) = pass { s with passDue := false } := by
    simp only [passes, handOver_of_unheld kh, kp, Bool.false_eq_true, if_false]
  have two : s.held.length + 2 = 1 + 1 := by rw [hh]; rfl
  rw [arbitrate, if_pos hp, two, passes, handOver_of_unheld hh, if_pos hp, last]

/-- With the relay closed and no train held, an event that calls for a pass ends with a walk of the queue. -/
theorem arbitrate_walk {s : State} (hh : s.held = []) (hp : s.passDue = true) (hr : s.node.relay = true) :
    arbitrate s = (walk s.queue { s with passDue := false }).2.setQueue (walk s.queue { s with passDue := false }).1 := by
  rw [arbitrate_unheld hh hp, pass, if_pos hr]

/-! ### What the walk does with its first entry -/

theorem walk_of_ineligible {e : Entry} {s : State} {w : Wait} (es : List Entry) (h : find s e = .ineligible w) :
    walk (e :: es) s = ({ e with wait := w } :: (walk es s).1, (walk es s).2) := by
  simp only [walk, h]

theorem walk_of_removed {e : Entry} {s : State} {x y : Bool} (es : List Entry) (h : find s e = .removed x y) :
    walk (e :: es) s = walk es (removeAtPass e x y s) := by
  simp only [walk, h]

theorem walk_of_kick {e : Entry} {s : State} {n draw limit : Nat} (es : List Entry) (h : find s e = .kick n draw limit)
    (hd : draw ≤ limit) : walk (e :: es) s = walk es (grantKick e n s) := by
  simp only [walk, h, if_pos hd]

theorem walk_of_hold {e : Entry} {s : State} {heff draw limit : Nat} {x : Bool} (es : List Entry)
    (h : find s e = .hold heff draw limit x) (hd : draw ≤ limit) : walk (e :: es) s = walk es (grantHold e heff x s) := by
  simp only [walk, h, if_pos hd]

theorem walk_of_kick_over {e : Entry} {s : State} {n draw limit : Nat} (es : List Entry) (h : find s e = .kick n draw limit)
    (hd : limit < draw) :
    walk (e :: es) s = ({ e with wait := .budget } :: es.map ({ · with wait := .notReached }), s) := by
  simp only [walk, h, if_neg (Nat.not_le.mpr hd)]

theorem walk_of_hold_over {e : Entry} {s : State} {heff draw limit : Nat} {x : Bool} (es : List Entry)
    (h : find s e = .hold heff draw limit x) (hd : limit < draw) :
    walk (e :: es) s = ({ e with wait := .budget } :: es.map ({ · with wait := .notReached }), s) := by
  simp only [walk, h, if_neg (Nat.not_le.mpr hd)]

/-! ### What a pass finds for a Pulse or a StepPulse, and for a channel in work (R30, R56) -/

theorem find_pulse {e : Entry} {s : State} (hk : e.kind = .pulse) (ha : s.chans[e.channel].act = .idle) :
    find s e =
      if min s.coils[e.channel].kMin e.kReq ≤ kickFor s.coils[e.channel] s.heat[e.channel].q e.kReq then
        .kick (kickFor s.coils[e.channel] s.heat[e.channel].q e.kReq) (s.inUse + s.coils[e.channel].p)
          (budgetInForce s - s.settings.reserve)
      else .ineligible .heatWait := by
  simp only [find, hk, ha, pulsePasses, decide_eq_true_eq]
  rfl

theorem find_stepPulse {e : Entry} {s : State} (hk : e.kind = .stepPulse) (ha : s.chans[e.channel].act = .idle) :
    find s e =
      if kickFor s.coils[e.channel] s.heat[e.channel].q e.kReq = e.kReq then
        .kick (kickFor s.coils[e.channel] s.heat[e.channel].q e.kReq) (s.inUse + s.coils[e.channel].p)
          (budgetInForce s - s.settings.reserve)
      else .ineligible .heatWait := by
  simp only [find, hk, ha]
  rfl

/-- An entry finds its channel busy in any state but IDLE, a Rekick in any but HOLDING (R56). -/
theorem find_busy {e : Entry} {s : State}
    (h : if e.kind = .rekick then s.chans[e.channel].isHolding = false else s.chans[e.channel].act ≠ .idle) :
    find s e = .ineligible .channelBusy := by
  cases hk : e.kind with
  | rekick =>
    rw [hk, if_pos rfl] at h
    cases ha : s.chans[e.channel].act with
    | holding d heff => rw [Channel.isHolding, ha] at h; cases h
    | _ => simp only [find, hk, ha]
  | _ =>
    rw [hk, if_neg (by decide)] at h
    cases ha : s.chans[e.channel].act with
    | idle => exact absurd ha h
    | _ => simp only [find, hk, ha]

/-! ### A drive begins -/

theorem setAct_starts {c : Chan} {x : Activity} {s : State} (h : s.chans[c].driven = false)
    (hx : Channel.driven { s.chans[c] with act := x } = true) :
    setAct c x s = { s with
      inUse := s.inUse + actDraw s.coils[c] x
      guards := s.guards.set c { s.guards[c] with shortRun := 0, leakRun := 0 }
      chans := s.chans.set c { s.chans[c] with act := x } } := by
  have before : actDraw s.coils[c] s.chans[c].act = 0 := actDraw_not_driven h
  have hx' : Channel.driven { act := x, waiting := s.chans[c].waiting } = true := hx
  simp only [setAct, before, h, hx', Bool.not_false, Bool.and_self, if_true, Nat.sub_zero]
  rfl

/-- A kick of a channel that is not driven: its drive record, its protection record made ready, its draw (R4, R51, R128, R129). -/
theorem beginKick_starts {c : Chan} {kind : DriveKind} {e : Entry} {n : Nat} {s : State} (h : s.chans[c].driven = false) :
    beginKick c kind e n s = { s with
      chans := s.chans.set c { s.chans[c] with
        act := .kicking { kind := kind, source := e.source, persistent := e.persistent, began := s.now, charged := 0 } n (s.after n) }
      guards := s.guards.set c { s.guards[c] with verdict := .noneYet, shortRun := 0, leakRun := 0 }
      inUse := s.inUse + s.coils[c].p } := by
  rw [beginKick, setAct_starts h (driven_of_kicking rfl)]
  simp [State.setGuard, actDraw]

/-! ### The Pulse order -/

theorem budgetInForce_eq (s : State) :
    budgetInForce s = (if s.mon.sag = true then 3 * s.settings.budget / 4 else s.settings.budget) := rfl

theorem bank_names_iff {b : Bank} {c : Chan} : b.names c = true ↔ ∃ r ∈ b.reels, r.channel = c := by
  simp only [Bank.names, List.any_eq_true, beq_iff_eq]

theorem unit_names_iff {u : CounterUnit} {c : Chan} :
    u.names c = true ↔ u.inUse = true ∧ (u.up.toNat = c.val ∨ u.down.toNat = c.val) := by
  simp only [CounterUnit.names, Bool.and_eq_true, Bool.or_eq_true, beq_iff_eq]

theorem claimed_iff (s : State) (c : Chan) :
    claimed s c = true ↔ (∃ b : BankNo, s.banks[b].names c = true) ∨ ∃ u : UnitNo, s.units[u].names c = true := by
  have items : ∀ {α : Type} (v : Vector α 4) (p : α → Bool), v.toList.any p = true ↔ ∃ i : Fin 4, p v[i] = true := by
    intro α v p
    rw [List.any_eq_true]
    constructor
    · rintro ⟨x, hx, hp⟩
      obtain ⟨i, hi, rfl⟩ := Vector.mem_iff_getElem.mp (Vector.mem_toList_iff.mp hx)
      exact ⟨⟨i, hi⟩, hp⟩
    · rintro ⟨i, hp⟩
      exact ⟨_, Vector.mem_toList_iff.mpr (Vector.getElem_mem i.isLt), hp⟩
  rw [claimed, Bool.or_eq_true, items, items]

theorem claimed_iff_named (s : State) (c : Chan) :
    claimed s c = true ↔
      (∃ (b : BankNo) (r : Reel), r ∈ s.banks[b].reels ∧ r.channel = c) ∨
      ∃ u : UnitNo, s.units[u].inUse = true ∧ (s.units[u].up.toNat = c.val ∨ s.units[u].down.toNat = c.val) := by
  simp only [claimed_iff, bank_names_iff, unit_names_iff]

/-- A Pulse order in LIVE for a channel that exists, heard by the node. -/
theorem execPulse_live {f : Head} {ch k : Byte} {c : Chan} {s : State} (hf : Heard f s) (hl : s.node.st = .live)
    (hc : ch.toNat = c.val) :
    exec (.pulse f ch k) s = .next (arbitrate (match driveRefusal s c with
      | some why => turnedAway f.tag why (heard (encodeFrame (.pulse f ch k)) s)
      | none => submitPulse c .order (.order f.tag) false k.toNat (heard (encodeFrame (.pulse f ch k)) s))) := by
  have live : (heard (encodeFrame (.pulse f ch k)) s).node.st = .live := hl
  change Host.Outcome.next (orderFrame (.pulse f ch k) f (obeyPulse f.tag ch k) s) = _
  rw [orderFrame_heard hf, obeyPulse, inLive, if_pos live, withRef_of_val hc]
  rfl

theorem execPulse_range {f : Head} {ch k : Byte} {s : State} (hf : Heard f s) (hl : s.node.st = .live) (hc : 23 < ch.toNat) :
    exec (.pulse f ch k) s = .next (turnedAway f.tag .range (heard (encodeFrame (.pulse f ch k)) s)) := by
  have live : (heard (encodeFrame (.pulse f ch k)) s).node.st = .live := hl
  obtain ⟨-, -, -, -, hp⟩ := id hf
  change Host.Outcome.next (orderFrame (.pulse f ch k) f (obeyPulse f.tag ch k) s) = _
  rw [orderFrame_heard hf, obeyPulse, inLive, if_pos live, withRef_of_ge hc]
  exact congrArg _ (arbitrate_of_not_due hp)

/-- The refusals of R9. -/
theorem execPulse_refused {f : Head} {ch k : Byte} {c : Chan} {why : Reason} {s : State} (hf : Heard f s) (hl : s.node.st = .live)
    (hc : ch.toNat = c.val) (hw : driveRefusal s c = some why) :
    exec (.pulse f ch k) s = .next (turnedAway f.tag why (heard (encodeFrame (.pulse f ch k)) s)) := by
  obtain ⟨-, -, -, -, hp⟩ := id hf
  rw [execPulse_live hf hl hc, hw]
  exact congrArg _ (arbitrate_of_not_due hp)

theorem driveRefusal_claimed {s : State} {c : Chan} (h : claimed s c = true) : driveRefusal s c = some .claimed := by
  simp only [driveRefusal, h, if_true]

theorem driveRefusal_disabled {s : State} {c : Chan} (h : claimed s c = false) (he : s.coils[c].enabled = false) :
    driveRefusal s c = some .disabled := by
  simp only [driveRefusal, h, he, Bool.false_eq_true, if_false, Bool.not_false, if_true]

theorem driveRefusal_locked {s : State} {c : Chan} (h : claimed s c = false) (he : s.coils[c].enabled = true)
    (hl : s.chans[c].act = .locked) : driveRefusal s c = some .locked := by
  simp only [driveRefusal, h, he, isLocked_iff.mpr hl, Bool.false_eq_true, if_false, Bool.not_true, if_true]

theorem driveRefusal_none {s : State} {c : Chan} (h : claimed s c = false) (he : s.coils[c].enabled = true)
    (hl : s.chans[c].act ≠ .locked) : driveRefusal s c = none := by
  simp only [driveRefusal, h, he, isLocked_eq_false_iff.mpr hl, Bool.false_eq_true, if_false, Bool.not_true]

/-- The entry a Pulse order of a channel makes, its wait reason given. -/
def orderEntry (s : State) (tag : Byte) (c : Chan) (asked : Nat) (w : Wait) : Entry :=
  { channel := c, cls := .order, kind := .pulse, source := .order tag, persistent := false, joined := s.now,
    merged := 1, kReq := asked, wait := w, stale := some (s.now + 250000) }

/-- In a calm state a Pulse request is the one entry of the queue that the end of the event walks. -/
theorem arbitrate_submitPulse {c : Chan} {tag : Byte} {override : Nat} {s : State} (hc : Calm s) (hp : s.passDue = false)
    (hr : s.node.relay = true) :
    let e := orderEntry s tag c (pulseKick s.coils[c] override) .notReached
    arbitrate (submitPulse c .order (.order tag) false override s) =
      (walk [e] (s.setQueue [e])).2.setQueue (walk [e] (s.setQueue [e])).1 := by
  intro e
  obtain ⟨hq, hh⟩ := hc
  have joined : submitPulse c .order (.order tag) false override s = (s.setQueue [e]).callPass := by
    simp only [submitPulse, submit, hq]
    rfl
  rw [joined, arbitrate_walk (s := (s.setQueue [e]).callPass) hh rfl hr]
  have unmarked : { (s.setQueue [e]).callPass with passDue := false } = s.setQueue [e] := clear_passDue (s := s.setQueue [e]) hp
  rw [unmarked]
  rfl

section
variable {c : Chan} {tag : Byte} {override : Nat} {s : State}

/-- A Pulse request that stays waiting in a calm state. -/
theorem submitPulse_waits {w : Wait} (hc : Calm s) (hp : s.passDue = false) (hr : s.node.relay = true)
    (hf : ∀ q, find (s.setQueue q) (orderEntry s tag c (pulseKick s.coils[c] override) .notReached) = .ineligible w) :
    arbitrate (submitPulse c .order (.order tag) false override s) =
      { s with queue := [orderEntry s tag c (pulseKick s.coils[c] override) w] } := by
  rw [arbitrate_submitPulse hc hp hr, walk_of_ineligible [] (hf _)]
  rfl

theorem submitPulse_over {n draw limit : Nat} (hc : Calm s) (hp : s.passDue = false) (hr : s.node.relay = true)
    (hf : ∀ q, find (s.setQueue q) (orderEntry s tag c (pulseKick s.coils[c] override) .notReached) = .kick n draw limit)
    (hd : limit < draw) :
    arbitrate (submitPulse c .order (.order tag) false override s) =
      { s with queue := [orderEntry s tag c (pulseKick s.coils[c] override) .budget] } := by
  rw [arbitrate_submitPulse hc hp hr, walk_of_kick_over [] (hf _) hd]
  rfl

theorem submitPulse_granted {n draw limit : Nat} (hc : Calm s) (hp : s.passDue = false) (hr : s.node.relay = true)
    (ha : s.chans[c].act = .idle)
    (hf : ∀ q, find (s.setQueue q) (orderEntry s tag c (pulseKick s.coils[c] override) .notReached) = .kick n draw limit)
    (hd : draw ≤ limit) :
    arbitrate (submitPulse c .order (.order tag) false override s) = { s with
      chans := s.chans.set c { s.chans[c] with
        act := .kicking { kind := .pulse, source := .order tag, persistent := false, began := s.now, charged := 0 } n
          (s.now + n * 1000) }
      guards := s.guards.set c { s.guards[c] with verdict := .noneYet, shortRun := 0, leakRun := 0 }
      inUse := s.inUse + s.coils[c].p } := by
  have idle : ∀ q, (s.setQueue q).chans[c].driven = false := fun _ => not_driven_of_idle ha
  rw [arbitrate_submitPulse hc hp hr, walk_of_kick [] (hf _) hd]
  change (beginKick c .pulse _ n (s.setQueue _)).setQueue [] = _
  rw [beginKick_starts (idle _)]
  obtain ⟨hq, -⟩ := hc
  obtain ⟨⟩ := s
  subst hq
  rfl

end

/-- Settles O19: the checks of R9 in order, and the walk of the one entry that a granted request makes. -/
theorem pulseIsGrantedOrRefused : Obligations.PulseIsGrantedOrRefused := by
  unfold Obligations.PulseIsGrantedOrRefused
  refine ⟨fun s => ⟨budgetInForce_eq s, claimed_iff_named s⟩, ?_⟩
  intro f ch k s hf hl h
  refine ⟨execPulse_range hf hl, fun c hc => ⟨fun hcl => execPulse_refused hf hl hc (driveRefusal_claimed hcl),
      fun hcl he => execPulse_refused hf hl hc (driveRefusal_disabled hcl he),
      fun hcl he ha => execPulse_refused hf hl hc (driveRefusal_locked hcl he ha), ?_⟩⟩
  intro hcl he ha hcalm hr asked given limit waits
  obtain ⟨-, -, -, -, hp⟩ := id hf
  have run : exec (.pulse f ch k) s = .next (arbitrate (submitPulse c .order (.order f.tag) false k.toNat h)) := by
    rw [execPulse_live hf hl hc, driveRefusal_none hcl he ha]
  have calm : Calm h := hcalm
  have due : h.passDue = false := hp
  have relay : h.node.relay = true := hr
  have found : s.chans[c].act = .idle → ∀ q, find (h.setQueue q) (orderEntry h f.tag c asked .notReached) =
      if min s.coils[c].kMin asked ≤ given then .kick given (s.inUse + s.coils[c].p) limit else .ineligible .heatWait :=
    fun hi q => find_pulse rfl hi
  rw [run]
  refine ⟨fun hi hk hd => ?_, fun hi hk => ?_, fun hi hk hd => ?_, fun hi => ?_⟩
  · exact congrArg _ (submitPulse_granted calm due relay hi (fun q => (found hi q).trans (if_pos hk)) hd)
  · exact congrArg _ (submitPulse_waits calm due relay fun q => (found hi q).trans (if_neg (Nat.not_le.mpr hk)))
  · exact congrArg _ (submitPulse_over calm due relay (fun q => (found hi q).trans (if_pos hk)) hd)
  · refine congrArg _ (submitPulse_waits calm due relay fun q => find_busy ?_)
    exact hi

end Sys2Proof.Machine
end

section
/-! SUPPORT. The ends of kicks and holds on a coil without an open check and with a recovery time, and their timers (R5, R6, R14 to R17, R26,
R33, R36, R51). -/

namespace Sys2Proof.Machine

set_option Elab.async false

/-! ### The figures -/

theorem heffAt_eq (s : State) (k : Coil) (q : Nat) : heffAt s k q = dutyFor s k q := by
  have plain : derated k q = if k.l = 0 ∨ q ≤ k.a then k.h else (2 * k.h * (k.l - q) + (k.l - k.a)) / (2 * (k.l - k.a)) := by
    rw [derated]
    by_cases hl : k.l = 0
    · rw [if_pos hl, if_pos (.inl hl)]
    · by_cases hq : q ≤ k.a
      · rw [if_neg hl, if_pos hq, if_pos (.inr hq)]
      · rw [if_neg hl, if_neg hq, if_neg (not_or.mpr ⟨hl, hq⟩)]
  rw [heffAt, plain]
  rfl

/-- A coil without a hold duty has no effective duty (R33). -/
theorem dutyFor_of_no_hold (s : State) {k : Coil} (q : Nat) (h : k.h = 0) : dutyFor s k q = 0 := by
  have none : (2 * 0 * (k.l - q) + (k.l - k.a)) / (2 * (k.l - k.a)) = 0 := by
    rw [Nat.mul_zero, Nat.zero_mul, Nat.zero_add]
    rcases Nat.eq_zero_or_pos (k.l - k.a) with hz | hp
    · rw [hz]
    · exact Nat.div_eq_of_lt (by omega)
  simp only [dutyFor, h, none, ite_self, Nat.zero_min]

theorem hold_of_duty {s : State} {k : Coil} {q : Nat} (h : 0 < dutyFor s k q) : 0 < k.h := by
  rcases Nat.eq_zero_or_pos k.h with hz | hp
  · rw [dutyFor_of_no_hold s q hz] at h; exact absurd h (Nat.lt_irrefl 0)
  · exact hp

theorem drawFor_eq (k : Coil) (heff : Nat) : holdDraw k heff = drawFor k heff := rfl

/-! ### The last charge -/

theorem chargeDue_iff (now : Nat) (d : Drive) :
    chargeDue now d = true ↔ (now - d.began) % 1000 ≠ 0 ∨ now - d.began = (d.charged + 1) * 1000 := by
  simp only [chargeDue, Config.msTime, Bool.or_eq_true, bne_iff_ne, beq_iff_eq]

theorem raiseHeat_eq (c : Chan) (x : Heat) (s : State) :
    raiseHeat c x s = { s with heat := s.heat.set c x, latches := (raiseHeat c x s).latches } := by
  simp only [raiseHeat, setLatchIf]; split <;> rfl

theorem set_self {α : Type} {n : Nat} (v : Vector α n) (i : Fin n) : v.set i v[i] = v := by simp

/-- The account after the last charge of a kick, and nothing but the latches with it (R26). -/
theorem finalCharge_of_kicking {c : Chan} {s : State} {d : Drive} {k ends : Nat} (h : s.chans[c].act = .kicking d k ends) :
    finalCharge c s = { s with
      heat := s.heat.set c { s.heat[c] with q := heatAtKickEnd s.coils[c] s.heat[c].q d s.now }
      latches := (finalCharge c s).latches } := by
  have unchanged : ∀ q, q = s.heat[c].q → s = { s with heat := s.heat.set c { s.heat[c] with q := q } } := by
    rintro q rfl
    have : s.heat.set c { q := s.heat[c].q, f := s.heat[c].f } = s.heat := set_self s.heat c
    rw [this]
  have run : finalCharge c s = if chargeDue s.now d then accrueKick c s else s := by simp only [finalCharge, h]
  rw [run]
  by_cases hl : s.coils[c].l = 0
  · have account : heatAtKickEnd s.coils[c] s.heat[c].q d s.now = s.heat[c].q := by rw [heatAtKickEnd, if_pos hl]
    have idle : accrueKick c s = s := by simp only [accrueKick, if_pos hl]
    rw [idle, ite_self]
    exact unchanged _ account
  · by_cases hd : chargeDue s.now d = true
    · have account : heatAtKickEnd s.coils[c] s.heat[c].q d s.now = min s.coils[c].l (s.heat[c].q + s.coils[c].ck) := by
        rw [heatAtKickEnd, if_neg hl, if_pos ((chargeDue_iff _ _).mp hd)]
      have charged : accrueKick c s =
          raiseHeat c { s.heat[c] with q := min s.coils[c].l (s.heat[c].q + s.coils[c].ck) } s := by
        simp only [accrueKick, if_neg hl]
      rw [if_pos hd, charged, account]
      exact raiseHeat_eq c _ s
    · have account : heatAtKickEnd s.coils[c] s.heat[c].q d s.now = s.heat[c].q := by
        rw [heatAtKickEnd, if_neg hl, if_neg (mt (chargeDue_iff _ _).mpr hd)]
      rw [if_neg hd]
      exact unchanged _ account

/-! ### The next state of the channel -/

/-- A change of state that joins no channel to the driven round changes no protection record (R51). -/
theorem setAct_in_round {c : Chan} {x : Activity} {s : State}
    (h : s.chans[c].driven = true ∨ Channel.driven { s.chans[c] with act := x } = false) :
    setAct c x s = { s with
      inUse := s.inUse - actDraw s.coils[c] s.chans[c].act + actDraw s.coils[c] x
      chans := s.chans.set c { s.chans[c] with act := x } } := by
  have stays : (!s.chans[c].driven && Channel.driven { s.chans[c] with act := x }) = false :=
    Bool.and_eq_false_iff.mpr (h.imp (fun h => by rw [h]; rfl) fun h => h)
  simp only [setAct, stays, Bool.false_eq_true, if_false]
  rfl

theorem enterRecovery_eq {c : Chan} {s : State} (h : s.coils[c].recovery ≠ 0) :
    enterRecovery c s = { s with
      inUse := s.inUse - actDraw s.coils[c] s.chans[c].act
      chans := s.chans.set c { s.chans[c] with act := .recovering (s.now + s.coils[c].recovery * 1000) } } := by
  rw [enterRecovery, if_neg h, setAct_in_round (.inr (not_driven_of_recovering rfl))]
  rfl

/-- A drive that goes on as a hold: the fraction carry is 0, and the draw is the hold's (R6, R51). -/
theorem enterHold_of_driven {c : Chan} {s : State} (d : Drive) (ctx : FlipContext) (left : Nat) (limit : Option Nat) (heff : Nat)
    (h : s.chans[c].driven = true) :
    enterHold c d ctx left limit heff s = { s with
      heat := s.heat.set c { s.heat[c] with f := 0 }
      inUse := s.inUse - actDraw s.coils[c] s.chans[c].act + drawFor s.coils[c] heff
      chans := s.chans.set c { s.chans[c] with
        act := .holding { d with kind := .flip ctx left (holdTimer s c limit), began := s.now, charged := 0 } heff } } := by
  exact setAct_in_round (s := s.setHeat c { s.heat[c] with f := 0 }) (.inl h)

/-- The kick of a Flip goes on as a hold only where it completes, the coil holds and the trigger is closed (R14). -/
def Drive.mayHold (d : Drive) (done : Bool) (k : Coil) (s : State) : Prop :=
  ∃ ctx left limit, d.kind = .flip ctx left limit ∧ done = true ∧ 0 < k.h ∧ s.closed ctx.trigger = true

theorem afterKick_rests {c : Chan} {done : Bool} {d : Drive} {s : State} (h : ¬ d.mayHold done s.coils[c] s) :
    afterKick c done d s = enterRecovery c s := by
  simp only [afterKick]
  split
  · rename_i ctx left limit hk
    exact if_neg fun hd => h ⟨ctx, left, limit, hk, hd⟩
  · rfl

theorem afterKick_flip {c : Chan} {d : Drive} {ctx : FlipContext} {left : Nat} {limit : Option Nat} {s : State}
    (hk : d.kind = .flip ctx left limit) (hh : 0 < s.coils[c].h) (hc : s.closed ctx.trigger = true) :
    afterKick c true d s = holdAfterKick c d ctx left limit s := by
  rw [afterKick, hk]
  exact if_pos ⟨rfl, hh, hc⟩

/-! ### The end of a kick that is no step pulse, on a coil without an open check -/

section
variable {c : Chan} {done : Bool} {d : Drive} {k ends : Nat} {s : State}

theorem endKick_unchecked (ha : s.chans[c].act = .kicking d k ends) (hs : d.isStep = false) (ho : s.coils[c].openFloor = 0)
    {t : State} (ht : afterKick c done d (finalCharge c s).callPass = t) (hc : t.coils = s.coils) :
    endKick c done s = t.setGuard c { t.guards[c] with verdict := .noneYet } := by
  rw [endKick_of_kicking done ha, hs, ht]
  exact settleVerdict_unchecked (s := t) c (by rw [hc]; exact ho)

/-- The state at the end of a kick, its last charge made, before the channel takes its next state. -/
def chargedKick (c : Chan) (d : Drive) (s : State) : State :=
  { s with
    heat := s.heat.set c { s.heat[c] with q := heatAtKickEnd s.coils[c] s.heat[c].q d s.now }
    latches := (finalCharge c s).latches
    passDue := true }

theorem chargedKick_eq (ha : s.chans[c].act = .kicking d k ends) : (finalCharge c s).callPass = chargedKick c d s :=
  congrArg State.callPass (finalCharge_of_kicking ha)

theorem chargedKick_heat : (chargedKick c d s).heat[c] = { s.heat[c] with q := heatAtKickEnd s.coils[c] s.heat[c].q d s.now } :=
  getElem_set_same _ _ _

/-- A kick that ends in RECOVERING (R5, R14). -/
theorem endKick_rests (ha : s.chans[c].act = .kicking d k ends) (hs : d.isStep = false) (ho : s.coils[c].openFloor = 0)
    (hr : s.coils[c].recovery ≠ 0) (hm : ¬ d.mayHold done s.coils[c] s) :
    endKick c done s = { chargedKick c d s with
      inUse := s.inUse - s.coils[c].p
      chans := s.chans.set c { s.chans[c] with act := .recovering (s.now + s.coils[c].recovery * 1000) }
      guards := s.guards.set c { s.guards[c] with verdict := .noneYet } } := by
  have hr' : (chargedKick c d s).coils[c].recovery ≠ 0 := hr
  have after := (congrArg (afterKick c done d) (chargedKick_eq ha)).trans
    ((afterKick_rests (s := chargedKick c d s) hm).trans (enterRecovery_eq hr'))
  rw [endKick_unchecked ha hs ho after rfl]
  have draw : actDraw s.coils[c] s.chans[c].act = s.coils[c].p := by rw [ha]; rfl
  rw [← draw]
  rfl

theorem heffNow_chargedKick :
    heffNow (chargedKick c d s) c = dutyFor s s.coils[c] (heatAtKickEnd s.coils[c] s.heat[c].q d s.now) := by
  rw [heffNow, chargedKick_heat, heffAt_eq]
  rfl

section
variable {ctx : FlipContext} {left : Nat} {limit : Option Nat}

/-- A Flip's kick that would go on as a hold at 0 is a heat cutoff (R36). -/
theorem endKick_cutoff (ha : s.chans[c].act = .kicking d k ends) (hk : d.kind = .flip ctx left limit)
    (ho : s.coils[c].openFloor = 0) (hr : s.coils[c].recovery ≠ 0) (hh : 0 < s.coils[c].h) (hc : s.closed ctx.trigger = true)
    (hd : dutyFor s s.coils[c] (heatAtKickEnd s.coils[c] s.heat[c].q d s.now) = 0) :
    endKick c true s = { chargedKick c d s with
      inUse := s.inUse - s.coils[c].p
      chans := s.chans.set c { s.chans[c] with act := .recovering (s.now + s.coils[c].recovery * 1000) }
      guards := s.guards.set c { s.guards[c] with verdict := .noneYet }
      latches := (chargedKick c d s).latches ||| latchMask .heatCutoff } := by
  have hs : d.isStep = false := by rw [Drive.isStep, hk]; rfl
  have hr' : (setLatch .heatCutoff (chargedKick c d s)).coils[c].recovery ≠ 0 := hr
  have cut : holdAfterKick c d ctx left limit (chargedKick c d s) = enterRecovery c (setLatch .heatCutoff (chargedKick c d s)) :=
    if_pos (heffNow_chargedKick.trans hd)
  have after := (congrArg (afterKick c true d) (chargedKick_eq ha)).trans
    ((afterKick_flip (s := chargedKick c d s) hk hh hc).trans (cut.trans (enterRecovery_eq hr')))
  rw [endKick_unchecked ha hs ho after rfl]
  have draw : actDraw s.coils[c] s.chans[c].act = s.coils[c].p := by rw [ha]; rfl
  rw [← draw]
  rfl

/-- A Flip's kick that goes on as a hold (R6, R14). -/
theorem endKick_holds (ha : s.chans[c].act = .kicking d k ends) (hk : d.kind = .flip ctx left limit)
    (ho : s.coils[c].openFloor = 0) (hc : s.closed ctx.trigger = true)
    (hd : 0 < dutyFor s s.coils[c] (heatAtKickEnd s.coils[c] s.heat[c].q d s.now)) :
    let duty := dutyFor s s.coils[c] (heatAtKickEnd s.coils[c] s.heat[c].q d s.now)
    endKick c true s = { chargedKick c d s with
      heat := s.heat.set c { q := heatAtKickEnd s.coils[c] s.heat[c].q d s.now, f := 0 }
      inUse := s.inUse - s.coils[c].p + drawFor s.coils[c] duty
      chans := s.chans.set c { s.chans[c] with
        act := .holding { d with kind := .flip ctx left (holdTimer s c limit), began := s.now, charged := 0 } duty }
      guards := s.guards.set c { s.guards[c] with verdict := .noneYet } } := by
  intro duty
  have hs : d.isStep = false := by rw [Drive.isStep, hk]; rfl
  have driven : (chargedKick c d s).chans[c].driven = true := driven_of_kicking ha
  have goesOn : holdAfterKick c d ctx left limit (chargedKick c d s) =
      enterHold c d ctx left limit (heffNow (chargedKick c d s) c) (chargedKick c d s) :=
    if_neg (heffNow_chargedKick.symm ▸ Nat.pos_iff_ne_zero.mp hd)
  rw [heffNow_chargedKick] at goesOn
  have after := (congrArg (afterKick c true d) (chargedKick_eq ha)).trans
    ((afterKick_flip (s := chargedKick c d s) hk (hold_of_duty hd) hc).trans
      (goesOn.trans (enterHold_of_driven d ctx left limit duty driven)))
  rw [endKick_unchecked ha hs ho after rfl, chargedKick_heat]
  have draw : actDraw s.coils[c] s.chans[c].act = s.coils[c].p := by rw [ha]; rfl
  have account : (chargedKick c d s).heat.set c { q := heatAtKickEnd s.coils[c] s.heat[c].q d s.now, f := 0 } =
      s.heat.set c { q := heatAtKickEnd s.coils[c] s.heat[c].q d s.now, f := 0 } := by
    simp [chargedKick]
  rw [account, ← draw]
  rfl

end

/-- A hold that ends in RECOVERING, with nothing waiting (R6, R27). -/
theorem endHold_rests {heff : Nat} (ha : s.chans[c].act = .holding d heff) (hr : s.coils[c].recovery ≠ 0) (hq : s.queue = []) :
    endHold c s = { s with
      heat := (finalCharge c s).heat
      latches := (finalCharge c s).latches
      inUse := s.inUse - drawFor s.coils[c] heff
      chans := s.chans.set c { s.chans[c] with act := .recovering (s.now + s.coils[c].recovery * 1000) }
      passDue := true } := by
  have charged : finalCharge c s = { s with heat := (finalCharge c s).heat, latches := (finalCharge c s).latches } := by
    have beyond := beyondHeat_finalCharge c s
    generalize finalCharge c s = t at beyond
    obtain ⟨⟩ := s
    obtain ⟨⟩ := t
    simp only [State.beyondHeat, State.mk.injEq] at beyond ⊢
    tauto
  have hr' : (finalCharge c s).coils[c].recovery ≠ 0 := by rwa [finalCharge_coils]
  have draw : actDraw s.coils[c] s.chans[c].act = drawFor s.coils[c] heff := by rw [ha]; rfl
  simp only [endHold, ha, withdrawRekick]
  rw [withdraw_calm, enterRecovery_eq hr', charged, ← draw]
  · rfl
  · rw [enterRecovery_eq hr']; exact (finalCharge_queue c s).trans hq

end

end Sys2Proof.Machine
end

section
/-! SUPPORT. The kick timer and the hold-limit timer (R5, R15, R17). -/

namespace Sys2Proof.Machine

set_option Elab.async false

/-- With nothing waiting in the state an event comes to, its end only clears the model's own mark. -/
theorem arbitrate_eq_of_calm {s t : State} (e : s = t) (h : Calm t) : arbitrate s = { t with passDue := false } :=
  by rw [e, arbitrate_calm h]

/-- The clock at an event that comes at its time. -/
theorem reach_of_le {s : State} {t : Nat} (h : s.now ≤ t) : s.reach t = { s with now := t } := by
  rw [State.reach, Nat.max_eq_right h]

section
variable {c : Chan} {d : Drive} {k ends : Nat} {s : State}

theorem kickTimerExpiry_eq (ha : s.chans[c].act = .kicking d k ends) (hn : s.now ≤ ends) :
    exec (.kickTimerExpiry c) s = .next (arbitrate (endKick c true { s with now := ends })) := by
  change Host.Outcome.next (kickOver c s) = _
  simp only [kickOver, ha, reach_of_le hn]

theorem mayHold_of_kind {done : Bool} {kc : Coil} {ctx : FlipContext} {left : Nat} {limit : Option Nat}
    (hk : d.kind = .flip ctx left limit) (h : d.mayHold done kc s) : done = true ∧ 0 < kc.h ∧ s.closed ctx.trigger = true := by
  obtain ⟨ctx', left', limit', hk', rest⟩ := h
  rw [hk] at hk'
  cases hk'
  exact rest

theorem not_mayHold_of_pulse {done : Bool} {kc : Coil} (hk : d.kind = .pulse) : ¬ d.mayHold done kc s := by
  rintro ⟨ctx, left, limit, hk', -⟩
  rw [hk] at hk'
  cases hk'

/-- In a calm state a kick that ends in RECOVERING at its timer (R5). -/
theorem kickTimerExpiry_rests (hcalm : Calm s) (ho : s.coils[c].openFloor = 0) (hr : s.coils[c].recovery ≠ 0)
    (ha : s.chans[c].act = .kicking d k ends) (hn : s.now ≤ ends) (hs : d.isStep = false)
    (hm : ¬ d.mayHold true s.coils[c] s) :
    exec (.kickTimerExpiry c) s = .next { chargedKick c d { s with now := ends } with
      inUse := s.inUse - s.coils[c].p
      chans := s.chans.set c { s.chans[c] with act := .recovering (ends + s.coils[c].recovery * 1000) }
      guards := s.guards.set c { s.guards[c] with verdict := .noneYet }
      passDue := false } := by
  rw [kickTimerExpiry_eq ha hn]
  have ended := endKick_rests (done := true) (s := { s with now := ends }) ha hs ho hr hm
  rw [arbitrate_eq_of_calm ended hcalm]

/-- What a kick's end in RECOVERING leaves on its channel and on the others, the latches apart. -/
theorem rested_kick (hcalm : Calm s) (ho : s.coils[c].openFloor = 0) (hr : s.coils[c].recovery ≠ 0)
    (ha : s.chans[c].act = .kicking d k ends) (hn : s.now ≤ ends) (hs : d.isStep = false)
    (hm : ¬ d.mayHold true s.coils[c] s) :
    ∃ t, exec (.kickTimerExpiry c) s = .next t ∧ t.chans[c].act = .recovering (ends + s.coils[c].recovery * 1000) ∧
      t.heat[c].q = heatAtKickEnd s.coils[c] s.heat[c].q d ends ∧ t.inUse = s.inUse - s.coils[c].p ∧
      ∀ c' : Chan, c' ≠ c → t.chans[c'] = s.chans[c'] ∧ t.heat[c'] = s.heat[c'] := by
  refine ⟨_, kickTimerExpiry_rests hcalm ho hr ha hn hs hm, congrArg Channel.act (getElem_set_same _ _ _),
    congrArg Heat.q (getElem_set_same _ _ _), rfl, fun c' hc => ⟨getElem_set_other _ _ hc, getElem_set_other _ _ hc⟩⟩

theorem kickExpiry_pulse (hcalm : Calm s) (ho : s.coils[c].openFloor = 0) (hr : s.coils[c].recovery ≠ 0)
    (ha : s.chans[c].act = .kicking d k ends) (hn : s.now ≤ ends) (hk : d.kind = .pulse) :
    ∃ t, exec (.kickTimerExpiry c) s = .next t ∧ t.chans[c].act = .recovering (ends + s.coils[c].recovery * 1000) ∧
      t.heat[c].q = heatAtKickEnd s.coils[c] s.heat[c].q d ends ∧ t.inUse = s.inUse - s.coils[c].p ∧
      ∀ c' : Chan, c' ≠ c → t.chans[c'] = s.chans[c'] ∧ t.heat[c'] = s.heat[c'] :=
  rested_kick hcalm ho hr ha hn (by rw [Drive.isStep, hk]; rfl) (not_mayHold_of_pulse hk)

section
variable {ctx : FlipContext} {left : Nat} {limit : Option Nat}

theorem isStep_of_flip (hk : d.kind = .flip ctx left limit) : d.isStep = false := by rw [Drive.isStep, hk]; rfl

theorem kickExpiry_flip_rests (hcalm : Calm s) (ho : s.coils[c].openFloor = 0) (hr : s.coils[c].recovery ≠ 0)
    (ha : s.chans[c].act = .kicking d k ends) (hn : s.now ≤ ends) (hk : d.kind = .flip ctx left limit)
    (h : s.coils[c].h = 0 ∨ s.inputs[ctx.trigger].closed = false) :
    ∃ t, exec (.kickTimerExpiry c) s = .next t ∧ t.chans[c].act = .recovering (ends + s.coils[c].recovery * 1000) ∧
      t.heat[c].q = heatAtKickEnd s.coils[c] s.heat[c].q d ends ∧ t.inUse = s.inUse - s.coils[c].p := by
  have noHold : ¬ d.mayHold true s.coils[c] s := fun hm => by
    obtain ⟨-, hh, hc⟩ := mayHold_of_kind hk hm
    rcases h with h | h
    · rw [h] at hh; exact absurd hh (Nat.lt_irrefl 0)
    · exact Bool.false_ne_true (h.symm.trans hc)
  obtain ⟨t, run, hact, hq, hu, -⟩ := rested_kick hcalm ho hr ha hn (isStep_of_flip hk) noHold
  exact ⟨t, run, hact, hq, hu⟩

theorem kickExpiry_flip_cutoff (hcalm : Calm s) (ho : s.coils[c].openFloor = 0) (hr : s.coils[c].recovery ≠ 0)
    (ha : s.chans[c].act = .kicking d k ends) (hn : s.now ≤ ends) (hk : d.kind = .flip ctx left limit)
    (hh : 0 < s.coils[c].h) (hc : s.inputs[ctx.trigger].closed = true)
    (hd : dutyFor s s.coils[c] (heatAtKickEnd s.coils[c] s.heat[c].q d ends) = 0) :
    ∃ t, exec (.kickTimerExpiry c) s = .next t ∧ t.chans[c].act = .recovering (ends + s.coils[c].recovery * 1000) ∧
      t.heat[c].q = heatAtKickEnd s.coils[c] s.heat[c].q d ends ∧ t.inUse = s.inUse - s.coils[c].p ∧
      t.latches.getLsbD 4 = true := by
  have ended := endKick_cutoff (s := { s with now := ends }) ha hk ho hr hh hc hd
  rw [kickTimerExpiry_eq ha hn, arbitrate_eq_of_calm ended hcalm]
  refine ⟨_, rfl, congrArg Channel.act (getElem_set_same _ _ _), congrArg Heat.q (getElem_set_same _ _ _), rfl, ?_⟩
  simp [latchMask, latchBit]

theorem kickExpiry_flip_holds (hcalm : Calm s) (ho : s.coils[c].openFloor = 0)
    (ha : s.chans[c].act = .kicking d k ends) (hn : s.now ≤ ends) (hk : d.kind = .flip ctx left limit)
    (hc : s.inputs[ctx.trigger].closed = true)
    (hd : 0 < dutyFor s s.coils[c] (heatAtKickEnd s.coils[c] s.heat[c].q d ends)) :
    ∃ t d', exec (.kickTimerExpiry c) s = .next t ∧
      t.chans[c].act = .holding d' (dutyFor s s.coils[c] (heatAtKickEnd s.coils[c] s.heat[c].q d ends)) ∧
      d'.began = ends ∧ d'.charged = 0 ∧ d'.source = d.source ∧ d'.persistent = d.persistent ∧
      t.heat[c] = { q := heatAtKickEnd s.coils[c] s.heat[c].q d ends, f := 0 } ∧
      d'.kind = .flip ctx left (if limit.isSome then limit
        else if s.coils[c].holdLimit = 0 then none else some (ends + s.coils[c].holdLimit * 1000)) ∧
      t.inUse = s.inUse - s.coils[c].p +
        drawFor s.coils[c] (dutyFor s s.coils[c] (heatAtKickEnd s.coils[c] s.heat[c].q d ends)) := by
  have ended := endKick_holds (s := { s with now := ends }) ha hk ho hc hd
  rw [kickTimerExpiry_eq ha hn, arbitrate_eq_of_calm ended hcalm]
  exact ⟨_, _, rfl, congrArg Channel.act (getElem_set_same _ _ _), rfl, rfl, rfl, rfl, getElem_set_same _ _ _, rfl, rfl⟩

end

/-! ### The hold-limit timer -/

theorem holdLimitExpiry_eq {n : Nat} (h : s.chans[c].holdLimit? = some n) (hn : s.now ≤ n) :
    exec (.holdLimitExpiry c) s = .next (arbitrate (endDrive c { s with now := n })) := by
  change Host.Outcome.next (holdLimitOver c s) = _
  simp only [holdLimitOver, h, reach_of_le hn]

theorem holdLimit_of_holding {heff n left : Nat} {ctx : FlipContext} (ha : s.chans[c].act = .holding d heff)
    (hk : d.kind = .flip ctx left (some n)) : s.chans[c].holdLimit? = some n := by
  simp only [Channel.holdLimit?, Channel.drive?, ha, hk]

theorem holdLimit_of_kicking {n left : Nat} {ctx : FlipContext} (ha : s.chans[c].act = .kicking d k ends)
    (hk : d.kind = .flip ctx left (some n)) : s.chans[c].holdLimit? = some n := by
  simp only [Channel.holdLimit?, Channel.drive?, ha, hk]

theorem endDrive_of_kicking (ha : s.chans[c].act = .kicking d k ends) : endDrive c s = endKick c false s := by
  have : s.chans[c].isKicking = true := by simp only [Channel.isKicking, ha]
  rw [endDrive, if_pos this]

theorem endDrive_of_holding {heff : Nat} (ha : s.chans[c].act = .holding d heff) : endDrive c s = endHold c s := by
  have : ¬ s.chans[c].isKicking = true := by simp only [Channel.isKicking, ha, Bool.false_eq_true, not_false_eq_true]
  rw [endDrive, if_neg this]

theorem holdLimit_ends_hold {heff n left : Nat} {ctx : FlipContext} (hcalm : Calm s) (hr : s.coils[c].recovery ≠ 0)
    (ha : s.chans[c].act = .holding d heff) (hk : d.kind = .flip ctx left (some n)) (hn : s.now ≤ n) :
    ∃ t, exec (.holdLimitExpiry c) s = .next t ∧ t.chans[c].act = .recovering (n + s.coils[c].recovery * 1000) ∧
      t.inUse = s.inUse - drawFor s.coils[c] heff := by
  obtain ⟨hq, hh⟩ := hcalm
  have ended := endHold_rests (s := { s with now := n }) ha hr hq
  rw [holdLimitExpiry_eq (holdLimit_of_holding ha hk) hn, endDrive_of_holding (s := { s with now := n }) ha, 
    arbitrate_eq_of_calm ended ⟨hq, hh⟩]
  exact ⟨_, rfl, congrArg Channel.act (getElem_set_same _ _ _), rfl⟩

theorem holdLimit_cuts_kick {n left : Nat} {ctx : FlipContext} (hcalm : Calm s) (ho : s.coils[c].openFloor = 0)
    (hr : s.coils[c].recovery ≠ 0) (ha : s.chans[c].act = .kicking d k ends) (hk : d.kind = .flip ctx left (some n))
    (hn : s.now ≤ n) :
    ∃ t, exec (.holdLimitExpiry c) s = .next t ∧ t.chans[c].act = .recovering (n + s.coils[c].recovery * 1000) ∧
      t.inUse = s.inUse - s.coils[c].p := by
  have cut : ¬ d.mayHold false s.coils[c] { s with now := n } := fun hm => Bool.false_ne_true (mayHold_of_kind hk hm).1
  have ended := endKick_rests (done := false) (s := { s with now := n }) ha (isStep_of_flip hk) ho hr cut
  rw [holdLimitExpiry_eq (holdLimit_of_kicking ha hk) hn, endDrive_of_kicking (s := { s with now := n }) ha, 
    arbitrate_eq_of_calm ended hcalm]
  exact ⟨_, rfl, congrArg Channel.act (getElem_set_same _ _ _), rfl⟩

end

/-- Settles O49: the end of the kick or hold written out, and a calm end of the event. -/
theorem kicksAndHoldsEndAtTheirTimers : Obligations.KicksAndHoldsEndAtTheirTimers := by
  unfold Obligations.KicksAndHoldsEndAtTheirTimers
  intro c s hcalm ho hr K
  refine ⟨?_, fun d heff ctx left ends ha hk hn => holdLimit_ends_hold hcalm hr ha hk hn,
    fun d k e ctx left ends ha hk hn => holdLimit_cuts_kick hcalm ho hr ha hk hn⟩
  intro d k ends ha hn q rest
  refine ⟨kickExpiry_pulse hcalm ho hr ha hn, fun ctx left limit hk => ⟨kickExpiry_flip_rests hcalm ho hr ha hn hk,
    kickExpiry_flip_cutoff hcalm ho hr ha hn hk, kickExpiry_flip_holds hcalm ho ha hn hk⟩⟩

end Sys2Proof.Machine
end

section
/-! SUPPORT. The ends of drives on an unclaimed channel, and the Release order (R18). -/

namespace Sys2Proof.Machine

set_option Elab.async false

/-! ### An unclaimed channel is of no unit -/

theorem claimed_congr {s t : State} (c : Chan) (hb : t.banks = s.banks) (hu : t.units = s.units) : claimed t c = claimed s c := by
  simp only [claimed, hb, hu]

section
variable {c : Chan} {s : State}

theorem reelOf_of_unclaimed (h : claimed s c = false) : reelOf s c = none := by
  rw [reelOf, List.findSome?_eq_none_iff]
  intro b _
  rw [Option.map_eq_none_iff, List.findIdx?_eq_none_iff]
  intro r hr
  rw [beq_eq_false_iff_ne]
  rintro rfl
  have : claimed s r.channel = true := (claimed_iff_named s _).mpr (.inl ⟨b, r, hr, rfl⟩)
  rw [h] at this
  cases this

theorem unitOn_of_unclaimed (h : claimed s c = false) : unitOn s c = none := by
  rw [unitOn, List.find?_eq_none]
  intro u _ hu
  have : claimed s c = true := (claimed_iff s c).mpr (.inr ⟨u, hu⟩)
  rw [h] at this
  cases this

theorem unitsKickEnd_of_unclaimed (done : Bool) (h : claimed s c = false) : unitsKickEnd c done s = s := by
  simp only [unitsKickEnd, reelOf_of_unclaimed h, unitOn_of_unclaimed h]

theorem bankTestOn_of_unclaimed (h : claimed s c = false) : bankTestOn c s = s := by
  simp only [bankTestOn, reelOf_of_unclaimed h]

theorem testAfterKick_of_unclaimed (b : Bool) (h : claimed s c = false) : testAfterKick c b s = s := by
  rw [testAfterKick, bankTestOn_of_unclaimed h, ite_self]

theorem trainKickEnd_eq (c : Chan) (s : State) : trainKickEnd c s = { s with trains := (trainKickEnd c s).trains } := by
  simp only [trainKickEnd]
  split
  · rfl
  · split
    · rfl
    · split <;> rfl

/-- A step pulse's outcome reaches nothing but a train where no unit claims the channel. -/
theorem reportKick_of_unclaimed (done b : Bool) (h : claimed s c = false) :
    reportKick c done b s = { s with trains := (reportKick c done b s).trains } := by
  cases b
  · rfl
  · have run : reportKick c done true s = trainKickEnd c s := by rw [reportKick, if_pos rfl, unitsKickEnd_of_unclaimed done h]
    rw [run]
    exact trainKickEnd_eq c s

end

section
variable {s₀ s : State}

/-- The report of a cut step pulse makes no request: the model it moves becomes Unknown (R111, R122). -/
theorem Drains.reportCut (h : Drains s₀ s) (c : Chan) (b : Bool) : Drains s₀ (reportKick c false b s) := by
  have reels : Drains s₀ (match reelOf s c with
      | some (b, r) => reelKickEnd b r false s
      | none => s) := by
    split
    · simp only [reelKickEnd, Bool.not_false, if_true]
      repeat' split
      · exact h
      · exact h.setReel _ _ _
      · exact h
    · exact h
  have told : Drains s₀ (unitsKickEnd c false s) := by
    simp only [unitsKickEnd]; split
    · exact reels.setUnit _ _
    · exact reels
  rw [reportKick]
  split
  · exact told.trainKickEnd c
  · exact h

theorem Drains.cutAndLock (h : Drains s₀ s) (c : Chan) : Drains s₀ (cutAndLock c s) := by
  simp only [Machine.cutAndLock]; split
  · exact ((h.finalCharge c).setAct c _).callPass
  · exact (h.finalCharge c).setAct c _

theorem Drains.markLocked (h : Drains s₀ s) (c : Chan) (cause : LockCause) : Drains s₀ (markLocked c cause s) :=
  (h.setLatch _).setGuard _ _

theorem Drains.lockChannel (h : Drains s₀ s) (c : Chan) (cause : LockCause) : Drains s₀ (lockChannel c cause s) := by
  cases hl : s.chans[c].isLocked
  · rw [lockChannel_of_free cause hl]
    exact (((((h.cutAndLock c).reportCut c _).withdrawAll c).cancelOf _).unitsLocked c).markLocked c cause
  · rwa [lockChannel_of_locked cause hl]

theorem Drains.settleVerdict (h : Drains s₀ s) (c : Chan) : Drains s₀ (settleVerdict c s) := by
  simp only [Machine.settleVerdict]
  repeat' split
  · exact h.setGuard _ _
  · exact h
  · exact h.setGuard _ _
  · exact (h.setGuard _ _).lockChannel c _
  · exact (h.setGuard _ _).setLatch _
  · exact h.setGuard _ _

theorem Drains.holdAfterKick (h : Drains s₀ s) (c : Chan) (d : Drive) (x : FlipContext) (n : Nat) (l : Option Nat) :
    Drains s₀ (holdAfterKick c d x n l s) := by
  simp only [Machine.holdAfterKick]; split
  · exact (h.setLatch _).enterRecovery c
  · exact h.enterHold _ _ _ _ _ _

theorem Drains.afterKick (h : Drains s₀ s) (c : Chan) (done : Bool) (d : Drive) : Drains s₀ (afterKick c done d s) := by
  simp only [Machine.afterKick]
  repeat' split
  · exact h.holdAfterKick _ _ _ _ _
  · exact h.enterRecovery c
  · exact h.enterRecovery c

theorem kept_holdAfterKick (c : Chan) (d : Drive) (x : FlipContext) (n : Nat) (l : Option Nat) (s : State) :
    Kept s (holdAfterKick c d x n l s) := by
  simp only [holdAfterKick]; split
  · exact (kept_setLatch _ s).trans (kept_enterRecovery c _)
  · exact kept_enterHold _ _ _ _ _ _ s

theorem kept_afterKick (c : Chan) (done : Bool) (d : Drive) (s : State) : Kept s (afterKick c done d s) := by
  simp only [afterKick]
  repeat' split
  · exact kept_holdAfterKick _ _ _ _ _ s
  · exact kept_enterRecovery c s
  · exact kept_enterRecovery c s

/-- On an unclaimed channel a kick's end reaches a train at most. -/
theorem endKick_of_unclaimed {c : Chan} {d : Drive} {k ends : Nat} (done : Bool) (hc : claimed s c = false)
    (ha : s.chans[c].act = .kicking d k ends) :
    ∃ tr, endKick c done s =
      testAfterKick c d.isStep (settleVerdict c { afterKick c done d (finalCharge c s).callPass with trains := tr }) ∧
      claimed { afterKick c done d (finalCharge c s).callPass with trains := tr } c = false := by
  have kept := ((kept_finalCharge c s).trans (kept_callPass _)).trans (kept_afterKick c done d _)
  have hc' : claimed (afterKick c done d (finalCharge c s).callPass) c = false :=
    (claimed_congr c kept.banks kept.units).trans hc
  have report := reportKick_of_unclaimed done d.isStep hc'
  exact ⟨(reportKick c done d.isStep (afterKick c done d (finalCharge c s).callPass)).trains,
    by rw [← report]; exact endKick_of_kicking done ha, hc'⟩

theorem Drains.testAfterKick (h : Drains s₀ s) (c : Chan) (b : Bool) : Drains s₀ (testAfterKick c b s) := by
  rw [Machine.testAfterKick, bankTestOn]
  repeat' split
  · exact h.bankTest _
  · exact h
  · exact h

theorem Drains.endHold (h : Drains s₀ s) (c : Chan) : Drains s₀ (endHold c s) := by
  simp only [Machine.endHold]; split
  · exact ((h.finalCharge c).enterRecovery c).callPass.withdrawRekick c
  · exact h

theorem Drains.cutKick (h : Drains s₀ s) (c : Chan) : Drains s₀ (endKick c false s) := by
  cases ha : s.chans[c].act with
  | kicking d k ends =>
    rw [endKick_of_kicking false ha]
    exact (((((h.finalCharge c).callPass).afterKick c false d).reportCut c _).settleVerdict c).testAfterKick c _
  | _ => rwa [endKick_of_not_kicking false (by simp only [Channel.isKicking, ha])]

/-- The end of a drive by anything but its timer makes no request. -/
theorem Drains.endDrive (h : Drains s₀ s) (c : Chan) : Drains s₀ (endDrive c s) := by
  rw [Machine.endDrive]; split
  · exact h.cutKick c
  · exact h.endHold c

end

theorem endDrive_of_not_driven {c : Chan} {s : State} (h : s.chans[c].driven = false) : endDrive c s = s := by
  cases ha : s.chans[c].act with
  | kicking d k ends => rw [driven_of_kicking ha] at h; cases h
  | holding d e => rw [driven_of_holding ha] at h; cases h
  | _ => simp only [endDrive, endHold, Channel.isKicking, ha, Bool.false_eq_true, if_false]

/-! ### The Release order -/

section
variable {f : Head} {ch : Byte} {c : Chan} {s : State}

theorem execRelease_range (hf : Heard f s) (hc : 23 < ch.toNat) :
    exec (.release f ch) s = .next (turnedAway f.tag .range (heard (encodeFrame (.release f ch)) s)) := by
  obtain ⟨-, -, -, -, hp⟩ := id hf
  change Host.Outcome.next (orderFrame (.release f ch) f (obeyRelease f.tag ch) s) = _
  rw [orderFrame_heard hf, obeyRelease, withRef_of_ge hc]
  exact congrArg _ (arbitrate_of_not_due hp)

theorem execRelease_claimed (hf : Heard f s) (hc : ch.toNat = c.val) (h : claimed s c = true) :
    exec (.release f ch) s = .next (turnedAway f.tag .claimed (heard (encodeFrame (.release f ch)) s)) := by
  obtain ⟨-, -, -, -, hp⟩ := id hf
  change Host.Outcome.next (orderFrame (.release f ch) f (obeyRelease f.tag ch) s) = _
  rw [orderFrame_heard hf, obeyRelease, withRef_of_val hc]
  have h' : claimed (heard (encodeFrame (.release f ch)) s) c = true := h
  rw [if_pos h']
  exact congrArg _ (arbitrate_of_not_due hp)

theorem execRelease_unclaimed (hf : Heard f s) (hc : ch.toNat = c.val) (h : claimed s c = false) :
    exec (.release f ch) s =
      .next (arbitrate (withdrawPulses c (endDrive c (heard (encodeFrame (.release f ch)) s)))) := by
  change Host.Outcome.next (orderFrame (.release f ch) f (obeyRelease f.tag ch) s) = _
  rw [orderFrame_heard hf, obeyRelease, withRef_of_val hc]
  have h' : claimed (heard (encodeFrame (.release f ch)) s) c = false := h
  rw [if_neg (by rw [h']; exact Bool.false_ne_true)]

/-- Under an open relay and with no train held, a withdrawal takes its entries and the event ends. -/
theorem arbitrate_withdraw_open (p : Entry → Bool) {s : State} (hr : s.node.relay = false) (hh : s.held = [])
    (hp : s.passDue = false) : arbitrate (withdraw p s) = { s with queue := s.queue.filter fun e => !p e } := by
  rw [withdraw]
  split
  · rw [handOver_of_unheld (s := (s.setQueue (s.queue.filter fun x => !p x)).callPass) hh,
      arbitrate_unheld (s := (s.setQueue (s.queue.filter fun x => !p x)).callPass) hh rfl]
    have open_ : { (s.setQueue (s.queue.filter fun x => !p x)).callPass with passDue := false }.node.relay = false := hr
    rw [pass_open open_]
    exact clear_passDue (s := s.setQueue (s.queue.filter fun x => !p x)) hp
  · rename_i hn
    have all : s.queue.filter (fun e => !p e) = s.queue := by
      rw [List.filter_eq_self]
      intro e he
      cases hpe : p e
      · rfl
      · exact absurd (List.any_eq_true.mpr ⟨e, he, hpe⟩) hn
    rw [all, arbitrate_of_not_due hp]

/-- A Release in any state takes every RULE and ORDER entry of the channel and counts none as dropped (R18, R48). -/
theorem release_withdraws (c : Chan) (s : State) :
    Drains s (arbitrate (withdrawPulses c (endDrive c s))) ∧
      ∀ e ∈ (arbitrate (withdrawPulses c (endDrive c s))).queue, e.channel = c → e.cls ≠ .rule ∧ e.cls ≠ .order := by
  have ended : Drains s (endDrive c s) := (Drains.refl s).endDrive c
  refine ⟨(ended.withdraw _).arbitrate, fun e he hec => ?_⟩
  have taken : ∀ x : Entry, x ∈ (withdrawPulses c (endDrive c s)).queue → x.channel = c → x.cls ≠ .rule ∧ x.cls ≠ .order := by
    intro x hx hxc
    rcases mem_withdraw (fun a b hab => by obtain ⟨h₁, h₂, -⟩ := hab; rw [h₁, h₂]) hx with h | ⟨_, _, _, _, _, h, _⟩
    · rw [hxc] at h
      constructor <;> (intro h'; rw [h'] at h; simp at h)
    · rw [h]; decide
  rcases ((Drains.refl (withdrawPulses c (endDrive c s))).arbitrate).queue e he with ⟨x, hx, al⟩ | ⟨_, _, _, _, _, h, _⟩
  · obtain ⟨h₁, h₂, -⟩ := al
    rw [h₂]
    exact taken x hx (h₁.symm.trans hec)
  · rw [h]; decide

/-- The end of a drive in a calm state on an unclaimed channel, by a cut kick or the end of a hold (R18). -/
theorem endDrive_calm_of_unclaimed (hc : claimed s c = false) (hcalm : Calm s) (hd : s.chans[c].driven = true)
    (hr : s.coils[c].recovery ≠ 0) (ho : s.coils[c].openFloor = 0) :
    ∃ hts gs ls tr, endDrive c s = { s with
      heat := hts, guards := gs, latches := ls, trains := tr, passDue := true
      inUse := s.inUse - actDraw s.coils[c] s.chans[c].act
      chans := s.chans.set c { s.chans[c] with act := .recovering (s.now + s.coils[c].recovery * 1000) } } := by
  obtain ⟨hq, hh⟩ := hcalm
  rcases driven_iff.mp hd with ⟨d, k, ends, ha⟩ | ⟨d, heff, ha⟩
  · obtain ⟨tr, run, hc'⟩ := endKick_of_unclaimed false hc ha
    have cut : ¬ d.mayHold false s.coils[c] (chargedKick c d s) := fun ⟨_, _, _, _, h, _⟩ => Bool.false_ne_true h
    have hr' : (chargedKick c d s).coils[c].recovery ≠ 0 := hr
    have after := (congrArg (afterKick c false d) (chargedKick_eq ha)).trans
      ((afterKick_rests (s := chargedKick c d s) cut).trans (enterRecovery_eq hr'))
    rw [after] at run hc'
    have settle : ∀ u : State, u.coils[c].openFloor = 0 → claimed u c = false →
        testAfterKick c d.isStep (settleVerdict c u) = u.setGuard c { u.guards[c] with verdict := .noneYet } := by
      intro u hu hcu
      rw [settleVerdict_unchecked c hu]
      exact testAfterKick_of_unclaimed _ hcu
    rw [endDrive_of_kicking ha]
    exact ⟨_, _, _, _, run.trans (settle _ ho hc')⟩
  · rw [endDrive_of_holding ha, endHold_rests ha hr hq, ha]
    exact ⟨_, _, _, _, rfl⟩

theorem release_calm (hf : Heard f s) (hc : ch.toNat = c.val) (hcl : claimed s c = false) (hcalm : Calm s)
    (hd : s.chans[c].driven = true) (hr : s.coils[c].recovery ≠ 0) (ho : s.coils[c].openFloor = 0) :
    ∃ t, exec (.release f ch) s = .next t ∧
      t.chans[c].act = .recovering (s.now + s.coils[c].recovery * 1000) ∧
      t.inUse = s.inUse - actDraw s.coils[c] s.chans[c].act ∧
      (∀ c' : Chan, c' ≠ c → t.chans[c'] = s.chans[c'] ∧ t.heat[c'] = s.heat[c'] ∧ t.guards[c'] = s.guards[c']) ∧
      t = { heard (encodeFrame (.release f ch)) s with
        chans := t.chans, heat := t.heat, guards := t.guards, latches := t.latches, inUse := t.inUse, trains := t.trains } := by
  obtain ⟨-, -, -, -, hp⟩ := id hf
  obtain ⟨hts, gs, ls, tr, ended⟩ := endDrive_calm_of_unclaimed (s := heard (encodeFrame (.release f ch)) s) hcl hcalm hd hr ho
  have only : OnlyOn c s (endDrive c (heard (encodeFrame (.release f ch)) s)) :=
    OnlyOn.endDrive (s := heard (encodeFrame (.release f ch)) s) fun _ _ => ⟨rfl, rfl, rfl⟩
  have hcalm' : Calm (endDrive c (heard (encodeFrame (.release f ch)) s)) := by rw [ended]; exact hcalm
  rw [execRelease_unclaimed hf hc hcl, withdrawPulses, withdraw_calm _ hcalm'.1, arbitrate_calm hcalm']
  refine ⟨_, rfl, ?_, ?_, only, ?_⟩
  · rw [ended]; exact congrArg Channel.act (getElem_set_same _ _ _)
  · rw [ended]; rfl
  · rw [ended]
    obtain ⟨_, _, due⟩ := s
    subst hp
    rfl

end

/-- Settles O20: a Release ends the drive by a cut kick or the end of a hold, and withdraws what waits. -/
theorem releaseEndsTheDrive : Obligations.ReleaseEndsTheDrive := by
  unfold Obligations.ReleaseEndsTheDrive
  refine ⟨fun _ _ _ => execRelease_range, ?_⟩
  intro f ch c s hf hc h
  obtain ⟨-, -, -, -, hp⟩ := id hf
  refine ⟨execRelease_claimed hf hc, fun hcl hcalm hd => ?_, release_calm hf hc, fun hcl => ?_, fun hcl hd hr hh => ?_⟩
  · rw [execRelease_unclaimed hf hc hcl, endDrive_of_not_driven (s := heard (encodeFrame (.release f ch)) s) hd, withdrawPulses,
      withdraw_calm (s := heard (encodeFrame (.release f ch)) s) _ hcalm.1]
    exact congrArg _ (arbitrate_of_not_due hp)
  · obtain ⟨drained, taken⟩ := release_withdraws c h
    have beyond : (arbitrate (withdrawPulses c (endDrive c h))).beyondDrives = h.beyondDrives := by simp
    have tables : TablesKept h (arbitrate (withdrawPulses c (endDrive c h))) := tablesKept_of_beyondDrives beyond
    have node : (arbitrate (withdrawPulses c (endDrive c h))).node = h.node := node_of_beyondDrives beyond
    exact ⟨_, execRelease_unclaimed hf hc hcl, taken, drained.dropped, tables, node⟩
  · rw [execRelease_unclaimed hf hc hcl, endDrive_of_not_driven (s := heard (encodeFrame (.release f ch)) s) hd, withdrawPulses]
    exact congrArg _ (arbitrate_withdraw_open _ hr hh hp)

end Sys2Proof.Machine
end

section
/-! SUPPORT. A channel that no pass can grant anything on, and the load of a coil record (R2, R38, R127). -/

namespace Sys2Proof.Machine

set_option Elab.async false

/-! ### What a finding acted on leaves of the other channels -/

section
variable {c : Chan} {s₀ s : State}

theorem OnlyOn.beginKick (h : OnlyOn c s₀ s) (kind : DriveKind) (e : Entry) (n : Nat) : OnlyOn c s₀ (beginKick c kind e n s) :=
  (h.setAct _).setGuard _

theorem OnlyOn.grantKick (e : Entry) (h : OnlyOn e.channel s₀ s) (n : Nat) : OnlyOn e.channel s₀ (grantKick e n s) := by
  simp only [Machine.grantKick]
  repeat' split
  · exact (h.setWaiting _).beginKick _ _ _
  · exact h
  · exact h.finalCharge.beginKick _ _ _
  · exact h
  · exact h.beginKick _ _ _
  · exact (h.beginKick .stepPulse e n).of_beyondTrains (t := trainGranted _ _) (by simp)
  · exact h.beginKick _ _ _

theorem OnlyOn.grantHold (e : Entry) (h : OnlyOn e.channel s₀ s) (n : Nat) (b : Bool) :
    OnlyOn e.channel s₀ (grantHold e n b s) := by
  simp only [Machine.grantHold]; split
  · exact ((h.setWaiting _).enterHold _ _ _ _ _).setLatchIf _ _
  · exact h

theorem OnlyOn.removeAtPass (e : Entry) (h : OnlyOn e.channel s₀ s) (x y : Bool) :
    OnlyOn e.channel s₀ (removeAtPass e x y s) := by
  simp only [Machine.removeAtPass]; split
  · exact ((h.setLatchIf _ _).setLatchIf _ _).setWaiting _
  · exact (h.setLatchIf _ _).setLatchIf _ _

end

/-! ### A channel that no pass grants anything on -/

/-- Every entry of the channel `c`, and every entry that a train on it would make, finds it busy in the state `x` it keeps; so the channel, its
account and its protection record stay as they are. -/
structure Bystander (c : Chan) (x : Channel) (q : Heat) (g : Guard) (t : State) : Prop where
  entries : ∀ e ∈ t.queue, e.channel = c → if e.kind = .rekick then x.isHolding = false else x.act ≠ .idle
  trains : ∀ (k : TrainNo) (y : Train), t.trains[k] = some y → y.channel = c → x.act ≠ .idle
  chan : t.chans[c] = x
  heat : t.heat[c] = q
  guard : t.guards[c] = g

section
variable {c : Chan} {x : Channel} {q : Heat} {g : Guard} {s t : State}

/-- What drains leaves the channel's entries busy, so a bystander stays one if the channel itself is kept. -/
theorem Bystander.of_drains (h : Bystander c x q g s) (d : Drains s t) (hc : t.chans[c] = s.chans[c])
    (hq : t.heat[c] = s.heat[c]) (hg : t.guards[c] = s.guards[c]) : Bystander c x q g t where
  entries e he hec := by
    rcases d.queue e he with ⟨e', he', al⟩ | ⟨k, -, y, hy, hch, -, hk, -⟩
    · obtain ⟨h₁, -, h₃, -⟩ := al
      rw [h₃]
      exact h.entries e' he' (h₁.symm.trans hec)
    · rw [hk, if_neg (by decide)]
      exact h.trains k y hy (hch.symm.trans hec)
  trains k y hy hyc := by
    obtain ⟨z, hz, hch⟩ := d.trains k y hy
    exact h.trains k z hz (hch.symm.trans hyc)
  chan := hc.trans h.chan
  heat := hq.trans h.heat
  guard := hg.trans h.guard

/-- A finding other than a wait is for another channel. -/
theorem Bystander.find_other (h : Bystander c x q g s) {e : Entry} (he : e ∈ s.queue) (hf : ∀ w, find s e ≠ .ineligible w) :
    c ≠ e.channel := by
  rintro rfl
  refine hf .channelBusy (find_busy ?_)
  rw [h.chan]
  exact h.entries e he rfl

theorem Bystander.of_onlyOn (h : Bystander c x q g s) {e : Entry} (hne : c ≠ e.channel) (d : Drains s t)
    (o : OnlyOn e.channel s t) : Bystander c x q g t := by
  obtain ⟨hc, hq, hg⟩ := o c hne
  exact h.of_drains d hc hq hg

theorem keptByPasses_bystander (c : Chan) (x : Channel) (q : Heat) (g : Guard) : KeptByPasses (Bystander c x q g) where
  removed e a b s h he hf :=
    h.of_onlyOn (h.find_other he fun w => by rw [hf]; simp) ((Drains.refl s).removeAtPass e a b)
      ((OnlyOn.refl e.channel s).removeAtPass e a b)
  kick e n _ _ s h he _ hf _ :=
    h.of_onlyOn (h.find_other he fun w => by rw [hf]; simp) ((Drains.refl s).grantKick e n)
      ((OnlyOn.refl e.channel s).grantKick e n)
  hold e n _ _ b s h he _ hf _ :=
    h.of_onlyOn (h.find_other he fun w => by rw [hf]; simp) ((Drains.refl s).grantHold e n b)
      ((OnlyOn.refl e.channel s).grantHold e n b)
  join k s h hk hp :=
    have same : (joinHeld k s).beyondTrains = s.beyondTrains := by simp
    h.of_drains ((Drains.refl s).joinHeld hk hp) (by rw [chans_of_beyondTrains same]) (by rw [heat_of_beyondTrains same])
      (by rw [guards_of_beyondTrains same])
  shrink l s h hl := h.of_drains ((Drains.refl s).setHeld hl) rfl rfl rfl
  stay l s h hl :=
    h.of_drains ((Drains.refl s).setQueue fun e he => by
      obtain ⟨e', he', w, rfl⟩ := hl e he
      exact .inl ⟨e', he', rfl, rfl, rfl, rfl, rfl⟩) rfl rfl rfl
  mark b s h := h.of_drains ((Drains.refl s).setPassDue b) rfl rfl rfl

theorem Bystander.arbitrate (h : Bystander c x q g s) : Bystander c x q g (arbitrate s) :=
  arbitrate_invariant (keptByPasses_bystander c x q g) h

/-- A channel with no entry and no train is a bystander. -/
theorem bystander_of_none (hq : ∀ e ∈ s.queue, e.channel ≠ c)
    (ht : ∀ (k : TrainNo) (y : Train), s.trains[k] = some y → y.channel ≠ c) :
    Bystander c s.chans[c] s.heat[c] s.guards[c] s where
  entries e he hec := absurd hec (hq e he)
  trains k y hy hyc := absurd hyc (ht k y hy)
  chan := rfl
  heat := rfl
  guard := rfl

/-- A channel neither IDLE nor HOLDING is a bystander. -/
theorem bystander_of_busy (hi : s.chans[c].act ≠ .idle) (hh : s.chans[c].isHolding = false) :
    Bystander c s.chans[c] s.heat[c] s.guards[c] s where
  entries e _ _ := by split <;> assumption
  trains _ _ _ _ := hi
  chan := rfl
  heat := rfl
  guard := rfl

theorem trainOn_eq_none_iff : trainOn s c = none ↔ ∀ (k : TrainNo) (y : Train), s.trains[k] = some y → y.channel ≠ c := by
  rw [trainOn, List.find?_eq_none]
  constructor
  · intro h k y hy hyc
    refine h k (List.mem_finRange k) ?_
    rw [hy, Option.any_some, beq_iff_eq]
    exact hyc
  · intro h k _ hk
    rw [Option.any_eq_true] at hk
    obtain ⟨y, hy, hyc⟩ := hk
    exact h k y hy (beq_iff_eq.mp hyc)

/-- Nothing that drains brings an entry to a channel without entries and trains. -/
theorem Drains.none_on (d : Drains s t) (hq : ∀ e ∈ s.queue, e.channel ≠ c)
    (ht : ∀ (k : TrainNo) (y : Train), s.trains[k] = some y → y.channel ≠ c) :
    (∀ e ∈ t.queue, e.channel ≠ c) ∧ ∀ (k : TrainNo) (y : Train), t.trains[k] = some y → y.channel ≠ c := by
  constructor
  · intro e he hec
    rcases d.queue e he with ⟨e', he', al⟩ | ⟨k, -, y, hy, hch, -⟩
    · exact hq e' he' (al.1.symm.trans hec)
    · exact ht k y hy (hch.symm.trans hec)
  · intro k y hy hyc
    obtain ⟨z, hz, hch⟩ := d.trains k y hy
    exact ht k z hz (hch.symm.trans hyc)

/-- A withdrawal of everything on a channel without a train leaves no entry there. -/
theorem withdrawAll_none_on (ht : trainOn s c = none) :
    (∀ e ∈ (withdrawAll c s).queue, e.channel ≠ c) ∧
      ∀ (k : TrainNo) (y : Train), (withdrawAll c s).trains[k] = some y → y.channel ≠ c := by
  rw [trainOn_eq_none_iff] at ht
  constructor
  · intro e he hec
    rcases mem_withdraw (fun a b hab => by obtain ⟨h₁, -⟩ := hab; rw [h₁]) (s := s) (p := fun x => x.channel == c) he with
      h | ⟨k, -, y, hy, hch, -⟩
    · exact beq_eq_false_iff_ne.mp h hec
    · exact ht k y hy (hch.symm.trans hec)
  · intro k y hy hyc
    obtain ⟨z, hz, hch⟩ := ((Drains.refl s).withdrawAll c).trains k y hy
    exact ht k z hz (hch.symm.trans hyc)

end

/-! ### The load of a coil record -/

/-- The record that a load stores, in the manual's own figures (R1). -/
def loadedCoil (r : CoilRec) : Coil :=
  { enabled := r.enabled != 0, p := max 1 (min r.power.toNat 15), k := max 1 (min r.kick.toNat 250),
    kMin := max 1 (min r.kickMin.toNat (max 1 (min r.kick.toNat 250))), h := min r.hold.toNat 16,
    holdLimit := min r.holdLimit.toNat 60000, recovery := min r.recovery.toNat 250, l := r.heatLimit.toNat,
    a := min r.alert.toNat r.heatLimit.toNat, s := max 1 (min r.shift.toNat 12), ck := max 1 r.rate.toNat,
    openFloor := r.openFloor.toNat, shortCeiling := max 1 r.shortCeiling.toNat }

theorem clamp_zero (hi x : Nat) : clamp 0 hi x = min x hi := by rw [clamp, Nat.zero_max]

theorem clamp_byte (lo : Nat) (b : Byte) : clamp lo 255 b.toNat = max lo b.toNat := by
  have := b.isLt
  rw [clamp, Nat.min_eq_left (by omega)]

theorem coilOf_eq (r : CoilRec) : coilOf r = loadedCoil r := by
  simp only [coilOf, clamp_zero, clamp_byte]
  rfl

section
variable {f : Head} {r : CoilRec} {c : Chan} {s : State}

theorem execLoadCoil_range (hf : Heard f s) (hc : 23 < r.channel.toNat) :
    exec (.loadCoil f r) s = .next (turnedAway f.tag .range (heard (encodeFrame (.loadCoil f r)) s)) := by
  obtain ⟨-, -, -, -, hp⟩ := id hf
  change Host.Outcome.next (orderFrame (.loadCoil f r) f (storeCoil f.tag r) s) = _
  rw [orderFrame_heard hf, storeCoil, withRef_of_ge hc]
  exact congrArg _ (arbitrate_of_not_due hp)

theorem atRest_iff {x : Channel} : x.atRest = true ↔ x.act = .idle ∨ x.act = .locked := by
  cases h : x.act <;> simp [Channel.atRest, h]

theorem execLoadCoil_busy (hf : Heard f s) (hc : r.channel.toNat = c.val)
    (hb : (s.chans[c].act ≠ .idle ∧ s.chans[c].act ≠ .locked) ∨ trainOn s c ≠ none) :
    exec (.loadCoil f r) s = .next (turnedAway f.tag .busy (heard (encodeFrame (.loadCoil f r)) s)) := by
  obtain ⟨-, -, -, -, hp⟩ := id hf
  have busy : (!s.chans[c].atRest) = true ∨ (trainOn s c).isSome = true := by
    refine hb.imp (fun h => ?_) Option.isSome_iff_ne_none.mpr
    rw [Bool.not_eq_true', ← Bool.not_eq_true, atRest_iff, not_or]
    exact h
  change Host.Outcome.next (orderFrame (.loadCoil f r) f (storeCoil f.tag r) s) = _
  rw [orderFrame_heard hf, storeCoil, withRef_of_val hc]
  have busy' : (!(heard (encodeFrame (.loadCoil f r)) s).chans[c].atRest) = true ∨
      (trainOn (heard (encodeFrame (.loadCoil f r)) s) c).isSome = true := busy
  rw [if_pos busy']
  exact congrArg _ (arbitrate_of_not_due hp)

/-- What a taken coil load does before the event ends (R2, R38, R127). -/
def takeCoil (c : Chan) (k : Coil) (s : State) : State := reguard c k (reheat c s.coils[c] k ((withdrawAll c s).setCoil c k))

theorem execLoadCoil_taken (hf : Heard f s) (hc : r.channel.toNat = c.val)
    (hr : s.chans[c].act = .idle ∨ s.chans[c].act = .locked) (ht : trainOn s c = none) :
    exec (.loadCoil f r) s = .next (arbitrate (takeCoil c (loadedCoil r) (heard (encodeFrame (.loadCoil f r)) s))) := by
  change Host.Outcome.next (orderFrame (.loadCoil f r) f (storeCoil f.tag r) s) = _
  rw [orderFrame_heard hf, storeCoil, withRef_of_val hc]
  have free : ¬ ((!(heard (encodeFrame (.loadCoil f r)) s).chans[c].atRest) = true ∨
      (trainOn (heard (encodeFrame (.loadCoil f r)) s) c).isSome = true) := by
    rw [not_or]
    constructor
    · rw [Bool.not_eq_true', Bool.not_eq_false]
      exact atRest_iff.mpr hr
    · rw [Bool.not_eq_true, Option.isSome_eq_false_iff, Option.isNone_iff_eq_none]
      exact ht
  rw [if_neg free, coilOf_eq]
  rfl

theorem takeCoil_drains (c : Chan) (k : Coil) (s : State) : Drains (withdrawAll c s) (takeCoil c k s) := by
  have heated : Drains (withdrawAll c s) (reheat c s.coils[c] k ((withdrawAll c s).setCoil c k)) :=
    (((Drains.refl _).setCoil c k).setHeat c _).setLatchIf _ _
  rw [takeCoil, reguard]
  split
  · exact heated.setGuard _ _
  · exact heated

theorem reheat_eq (c : Chan) (old new : Coil) (s : State) :
    reheat c old new s = { s with
      heat := s.heat.set c { s.heat[c] with q := min new.l s.heat[c].q }
      latches := if !heatAlert old s.heat[c].q && heatAlert new (min new.l s.heat[c].q) then s.latches ||| 8 else s.latches } := by
  simp only [reheat, setLatchIf]
  split <;> rfl

/-- What a taken coil load leaves, by its parts (R2, R38, R127). -/
theorem takeCoil_eq (c : Chan) (k : Coil) (s : State) :
    takeCoil c k s = { withdrawAll c s with
      coils := s.coils.set c k
      heat := s.heat.set c { s.heat[c] with q := min k.l s.heat[c].q }
      latches := if !heatAlert s.coils[c] s.heat[c].q && heatAlert k (min k.l s.heat[c].q) then (withdrawAll c s).latches ||| 8
        else (withdrawAll c s).latches
      guards := if k.openFloor = 0 ∧ s.chans[c].act ≠ .locked then s.guards.set c { s.guards[c] with strikes := 0 }
        else s.guards } := by
  have beyond : (withdraw (fun x => x.channel == c) s).beyondTrains = s.beyondTrains := by simp
  have hheat : (withdrawAll c s).heat = s.heat := (heat_of_beyondTrains beyond :)
  have hguards : (withdrawAll c s).guards = s.guards := (guards_of_beyondTrains beyond :)
  have hcoils : (withdrawAll c s).coils = s.coils := (kept_withdrawAll c s).coils
  have hact : (withdrawAll c s).chans[c].act = s.chans[c].act := by rw [withdrawAll_chans, getElem_set_same]
  rw [takeCoil, reheat_eq, reguard]
  simp only [State.setCoil, hheat, hcoils, hact]
  by_cases hk : k.openFloor = 0 ∧ s.chans[c].act ≠ .locked
  · simp only [if_pos hk, State.setGuard, hguards]
  · simp only [if_neg hk, ← hguards]

theorem loadCoil_taken (hf : Heard f s) (hc : r.channel.toNat = c.val)
    (hr : s.chans[c].act = .idle ∨ s.chans[c].act = .locked) (ht : trainOn s c = none) :
    ∃ t, exec (.loadCoil f r) s = .next t ∧ t.coils = s.coils.set c (loadedCoil r) ∧
      t.heat[c].q = min r.heatLimit.toNat s.heat[c].q ∧ (∀ e ∈ t.queue, e.channel ≠ c) ∧ t.chans[c].waiting = none ∧
      t.dropped = s.dropped := by
  let h := heard (encodeFrame (.loadCoil f r)) s
  have taken : Drains (withdrawAll c h) (takeCoil c (loadedCoil r) h) := takeCoil_drains c (loadedCoil r) h
  obtain ⟨hq, htr⟩ := withdrawAll_none_on (s := h) ht
  obtain ⟨hq', htr'⟩ := taken.none_on hq htr
  have still := (bystander_of_none hq' htr').arbitrate
  have waits : (takeCoil c (loadedCoil r) h).chans[c].waiting = none := by
    rw [takeCoil_eq]
    change (withdrawAll c h).chans[c].waiting = none
    rw [withdrawAll_chans, getElem_set_same]
  refine ⟨_, execLoadCoil_taken hf hc hr ht, ?_, ?_, (taken.arbitrate.none_on hq htr).1, ?_, ?_⟩
  · rw [(kept_arbitrate _).coils, takeCoil_eq]
    rfl
  · rw [still.heat, takeCoil_eq]
    exact congrArg Heat.q (getElem_set_same _ _ _)
  · rw [still.chan]
    exact waits
  · exact taken.arbitrate.dropped.trans ((Drains.refl h).withdrawAll c).dropped

/-- The heat alert test in the words of R37. -/
theorem heatAlert_eq (k : Coil) (q : Nat) : heatAlert k q = decide (0 < k.l ∧ 0 < q ∧ k.a ≤ q) := by
  simp only [heatAlert, Bool.decide_and, Bool.and_assoc]

theorem loadCoil_calm (hf : Heard f s) (hc : r.channel.toNat = c.val)
    (hr : s.chans[c].act = .idle ∨ s.chans[c].act = .locked) (ht : trainOn s c = none) (hcalm : Calm s) :
    exec (.loadCoil f r) s = .next { heard (encodeFrame (.loadCoil f r)) s with
      coils := s.coils.set c (loadedCoil r)
      chans := s.chans.set c { s.chans[c] with waiting := none }
      heat := s.heat.set c { s.heat[c] with q := min r.heatLimit.toNat s.heat[c].q }
      latches := if !heatAlert s.coils[c] s.heat[c].q && heatAlert (loadedCoil r) (min r.heatLimit.toNat s.heat[c].q) then
          s.latches ||| 8
        else s.latches
      guards := if r.openFloor = 0 ∧ s.chans[c].act ≠ .locked then s.guards.set c { s.guards[c] with strikes := 0 }
        else s.guards } := by
  obtain ⟨-, -, -, -, hp⟩ := id hf
  have opens : (loadedCoil r).openFloor = 0 ↔ r.openFloor = 0 := by
    change r.openFloor.toNat = 0 ↔ _
    rw [← BitVec.toNat_inj]; rfl
  have withdrawn : withdrawAll c (heard (encodeFrame (.loadCoil f r)) s) =
      setWaiting c none (heard (encodeFrame (.loadCoil f r)) s) :=
    congrArg (setWaiting c none) (withdraw_calm (s := heard (encodeFrame (.loadCoil f r)) s) _ hcalm.1)
  have due : (takeCoil c (loadedCoil r) (heard (encodeFrame (.loadCoil f r)) s)).passDue = false := by
    rw [takeCoil_eq, withdrawn]; exact hp
  rw [execLoadCoil_taken hf hc hr ht, arbitrate_of_not_due due, takeCoil_eq, withdrawn]
  simp only [opens]
  rfl

end

/-- Settles O32: the checks of R2, then what a taken load leaves by its parts; no pass can grant on the channel it has cleared. -/
theorem coilLoadReplacesTheRecord : Obligations.CoilLoadReplacesTheRecord := by
  unfold Obligations.CoilLoadReplacesTheRecord
  refine ⟨fun _ _ _ => execLoadCoil_range, ?_⟩
  intro f r c s hf hc h k l q alert
  refine ⟨execLoadCoil_busy hf hc, ?_⟩
  intro record
  refine ⟨loadCoil_taken hf hc, fun hr ht hcalm => ?_⟩
  have figures := loadCoil_calm hf hc hr ht hcalm
  simp only [heatAlert_eq] at figures
  exact figures

end Sys2Proof.Machine
end

section
/-! SUPPORT. The loads of bank and counter-unit records (R20, R107, R118). -/

namespace Sys2Proof.Machine

set_option Elab.async false

/-! ### Clearing the channels that a unit claims -/

/-- The channels that a bank or unit load names, cleared one after the other (R20). -/
def clearAll (named : List Chan) (s : State) : State := named.foldl (fun s c => clearClaimed c s) s

/-- Nothing but a step pulse waits for the channel, and it keeps no flip context. -/
def ClearedOn (c : Chan) (s : State) : Prop := (∀ e ∈ s.queue, e.channel = c → e.cls = .step) ∧ s.chans[c].waiting = none

theorem Drains.clearedOn {c : Chan} {s t : State} (d : Drains s t) (h : ClearedOn c s) : ClearedOn c t := by
  obtain ⟨hq, hw⟩ := h
  constructor
  · intro e he hec
    rcases d.queue e he with ⟨e', he', al⟩ | ⟨_, _, _, _, _, hstep, _⟩
    · obtain ⟨h₁, h₂, -⟩ := al
      exact h₂.trans (hq e' he' (h₁.symm.trans hec))
    · exact hstep
  · rcases d.waiting c with h | h
    · exact h.trans hw
    · exact h

theorem clearClaimed_clears (c : Chan) (s : State) : ClearedOn c (clearClaimed c s) := by
  constructor
  · intro e he hec
    rcases mem_withdraw (fun a b hab => by obtain ⟨h₁, h₂, -⟩ := hab; rw [h₁, h₂]) (s := s)
      (p := fun e => e.channel == c && e.cls != .step) he with h | ⟨_, _, _, _, _, hstep, _⟩
    · simpa [hec] using h
    · exact hstep
  · exact congrArg Channel.waiting (getElem_set_same _ _ _)

theorem Drains.clearAll {s₀ s : State} (h : Drains s₀ s) (named : List Chan) : Drains s₀ (clearAll named s) :=
  foldl_invariant (P := Drains s₀) (fun _ c hs => hs.clearClaimed c) named h

theorem clearAll_clears {c : Chan} (named : List Chan) (s : State) (h : c ∈ named) : ClearedOn c (clearAll named s) := by
  induction named generalizing s with
  | nil => cases h
  | cons c' named ih =>
    have rest : clearAll (c' :: named) s = clearAll named (clearClaimed c' s) := rfl
    rw [rest]
    rcases List.mem_cons.mp h with rfl | h
    · exact ((Drains.refl (clearClaimed c s)).clearAll named).clearedOn (clearClaimed_clears c s)
    · exact ih _ h

theorem kept_clearAll (named : List Chan) (s : State) : Kept s (clearAll named s) :=
  kept_foldl _ (fun s c => (kept_withdraw _ s).trans (kept_setWaiting c none _)) named s

/-- With nothing waiting, clearing channels discards their flip contexts alone. -/
theorem clearAll_calm : ∀ (named : List Chan) {s : State}, s.queue = [] →
    clearAll named s = { s with chans := (clearAll named s).chans } ∧
      ∀ c : Chan, (clearAll named s).chans[c] = if c ∈ named then { s.chans[c] with waiting := none } else s.chans[c]
  | [], s, _ => ⟨rfl, fun c => rfl⟩
  | c' :: named, s, hq => by
    have first : clearClaimed c' s = setWaiting c' none s := congrArg (setWaiting c' none) (withdraw_calm _ hq)
    have rest : clearAll (c' :: named) s = clearAll named (setWaiting c' none s) := congrArg (clearAll named) first
    obtain ⟨heq, hch⟩ := clearAll_calm named (s := setWaiting c' none s) hq
    rw [rest]
    refine ⟨heq, fun c => ?_⟩
    rw [hch c, setWaiting_chans]
    by_cases hc : c = c'
    · subst hc
      rw [getElem_set_same, if_pos List.mem_cons_self]
      exact ite_self _
    · rw [getElem_set_other _ _ hc]
      simp only [List.mem_cons, hc, false_or]

theorem inWork_iff {s : State} {c : Chan} : inWork s c = true ↔ ¬ (trainOn s c = none ∧ s.chans[c].driven = false) := by
  rw [inWork, Bool.or_eq_true, Option.isSome_iff_ne_none, not_and_or, Bool.not_eq_false]

/-! ### The reels of a bank record -/

theorem mapM_eq_some_of {α β : Type} {f : α → Option β} : ∀ {l : List α} {l' : List β}, l.length = l'.length →
    (∀ (i : Nat) (x : α) (y : β), l[i]? = some x → l'[i]? = some y → f x = some y) → l.mapM f = some l'
  | [], [], _, _ => rfl
  | x :: l, y :: l', hl, h => by
    have head : f x = some y := h 0 x y rfl rfl
    have tail : l.mapM f = some l' := mapM_eq_some_of (Nat.succ.inj hl) fun i a b ha hb => h (i + 1) a b ha hb
    simp [List.mapM_cons, head, tail]

theorem mapM_eq_none_of {α β : Type} {f : α → Option β} {x : α} (hf : f x = none) : ∀ {l : List α}, x ∈ l → l.mapM f = none
  | y :: l, h => by
    rcases List.mem_cons.mp h with rfl | h
    · simp [List.mapM_cons, hf]
    · simp [List.mapM_cons, mapM_eq_none_of hf h]

theorem refOf_of_ge {n : Nat} {b : Byte} (h : n ≤ b.toNat) : refOf n b = none := by simp [refOf, Nat.not_lt.mpr h]

/-- A reel field as loaded, if its channel and its zero switch exist (R107). -/
def reelOfPair (x : Byte × Byte) : Option Reel :=
  match refOf 24 x.1, refOf 32 x.2 with
  | some c, some z => some { channel := c, zero := z }
  | _, _ => none

theorem reelsOf_eq (r : BankRec) : reelsOf r = (r.reels.take (min r.width.toNat 5)).mapM reelOfPair := rfl

theorem reelsOf_eq_some {r : BankRec} {reels : List Reel} (h5 : r.reels.length = 5)
    (hlen : reels.length = min r.width.toNat 5)
    (hr : ∀ (i : Nat) (x : Reel) (p : Byte × Byte), reels[i]? = some x → r.reels[i]? = some p →
      x.position = none ∧ p.1.toNat = x.channel.val ∧ p.2.toNat = x.zero.val) : reelsOf r = some reels := by
  rw [reelsOf_eq]
  refine mapM_eq_some_of (by rw [List.length_take, h5, hlen]; omega) fun i p x hp hx => ?_
  have inside : i < min r.width.toNat 5 := by
    have := (List.getElem?_eq_some_iff.mp hx).1
    rwa [hlen] at this
  rw [List.getElem?_take_of_lt inside] at hp
  obtain ⟨hpos, hc, hz⟩ := hr i x p hx hp
  obtain ⟨c, z, pos⟩ := x
  subst hpos
  simp only [reelOfPair, refOf_of_val hc, refOf_of_val hz]

theorem reelsOf_eq_none {r : BankRec} {i : Nat} {p : Byte × Byte} (h5 : r.reels.length = 5) (hi : i < r.width.toNat)
    (hp : r.reels[i]? = some p) (hbad : 23 < p.1.toNat ∨ 31 < p.2.toNat) : reelsOf r = none := by
  have h5' : i < 5 := by
    have := (List.getElem?_eq_some_iff.mp hp).1
    rwa [h5] at this
  have here : p ∈ r.reels.take (min r.width.toNat 5) := by
    refine List.mem_of_getElem? (i := i) ?_
    rw [List.getElem?_take_of_lt (by omega), hp]
  have none_ : reelOfPair p = none := by
    rcases hbad with h | h
    · simp only [reelOfPair, refOf_of_ge h]
    · simp only [reelOfPair, refOf_of_ge h]
      cases refOf 24 p.1 <;> rfl
  rw [reelsOf_eq]
  exact mapM_eq_none_of none_ here

/-! ### The load of a bank record -/

section
variable {f : Head} {r : BankRec} {b : BankNo} {reels : List Reel} {s : State}

/-- A bank load's checks and its work, once its reels are read (R20, R107). -/
theorem storeBank_of_reels {tag : Byte} (hb : r.bank.toNat = b.val) (h5 : r.reels.length = 5) (hr : reelsOf r = some reels) :
    storeBank tag r s =
      if (reels.map (·.channel)).any (claimedBesideBank s b) ∨ ¬ (reels.map (·.channel)).Nodup then turnedAway tag .claimed s
      else if !(bankTrains s b).isEmpty ∨ (reels.map (·.channel)).any (inWork s) then turnedAway tag .busy s
      else (clearAll (reels.map (·.channel)) s).setBank b
        { reels := reels, profile := profileOf r.startIv r.floorIv r.ramp r.idle } := by
  rw [storeBank, withRef_of_val hb, if_neg (not_not_intro h5), hr]
  rfl

theorem execLoadBank_eq (hf : Heard f s) :
    exec (.loadBank f r) s = .next (arbitrate (storeBank f.tag r (heard (encodeFrame (.loadBank f r)) s))) := by
  change Host.Outcome.next (orderFrame (.loadBank f r) f (storeBank f.tag r) s) = _
  rw [orderFrame_heard hf]

theorem execLoadBank_refused {why : Reason} (hf : Heard f s)
    (h : storeBank f.tag r (heard (encodeFrame (.loadBank f r)) s) =
      turnedAway f.tag why (heard (encodeFrame (.loadBank f r)) s)) :
    exec (.loadBank f r) s = .next (turnedAway f.tag why (heard (encodeFrame (.loadBank f r)) s)) := by
  obtain ⟨-, -, -, -, hp⟩ := id hf
  rw [execLoadBank_eq hf, h]
  exact congrArg _ (arbitrate_of_not_due hp)

theorem execLoadBank_range (hf : Heard f s) (h5 : r.reels.length = 5)
    (h : 3 < r.bank.toNat ∨
      ∃ (i : Nat) (p : Byte × Byte), i < r.width.toNat ∧ r.reels[i]? = some p ∧ (23 < p.1.toNat ∨ 31 < p.2.toNat)) :
    exec (.loadBank f r) s = .next (turnedAway f.tag .range (heard (encodeFrame (.loadBank f r)) s)) := by
  refine execLoadBank_refused hf ?_
  by_cases hb : 3 < r.bank.toNat
  · rw [storeBank, withRef_of_ge hb]
  · obtain ⟨i, p, hi, hp, hbad⟩ := h.resolve_left hb
    have hb' : r.bank.toNat = (⟨r.bank.toNat, by omega⟩ : BankNo).val := rfl
    rw [storeBank, withRef_of_val hb', if_neg (not_not_intro h5), reelsOf_eq_none h5 hi hp hbad, refuseOrder_eq]

theorem not_claimed_iff (s : State) (named : List Chan) :
    ¬ (named.any (claimedBesideBank s b) = true ∨ ¬ named.Nodup) ↔ named.Nodup ∧ ∀ c ∈ named, claimedBesideBank s b c = false := by
  rw [not_or, not_not, List.any_eq_true, and_comm]
  simp only [not_exists, not_and, Bool.not_eq_true]

theorem not_busy_iff (s : State) (named : List Chan) :
    ¬ ((!(bankTrains s b).isEmpty) = true ∨ named.any (inWork s) = true) ↔
      bankTrains s b = [] ∧ ∀ c ∈ named, trainOn s c = none ∧ s.chans[c].driven = false := by
  rw [not_or, Bool.not_eq_true', Bool.not_eq_false, List.isEmpty_iff, List.any_eq_true]
  simp only [not_exists, not_and, inWork_iff, Classical.not_imp, not_not]

end

/-- Settles O34: the checks of R20 in order, and the clearing of the channels that the bank names. -/
theorem bankLoadReplacesTheBank : Obligations.BankLoadReplacesTheBank := by
  unfold Obligations.BankLoadReplacesTheBank
  refine ⟨fun _ _ _ => execLoadBank_range, ?_⟩
  intro f r b reels s hf hb h5 hlen hr h named free still start
  obtain ⟨-, -, -, -, hp⟩ := id hf
  have stored := storeBank_of_reels (tag := f.tag) (s := h) hb h5 (reelsOf_eq_some h5 hlen hr)
  have free_iff : _ ↔ free := not_claimed_iff (b := b) s named
  have still_iff : _ ↔ still := not_busy_iff (b := b) s named
  refine ⟨fun hn => ?_, fun hfree hn => ?_, ?_⟩
  · exact execLoadBank_refused hf (stored.trans (if_pos (not_not.mp (mt free_iff.mp hn))))
  · exact execLoadBank_refused hf
      (stored.trans ((if_neg (free_iff.mpr hfree)).trans (if_pos (not_not.mp (mt still_iff.mp hn)))))
  · intro record
    have taken : free → still → exec (.loadBank f r) s = .next (arbitrate ((clearAll named h).setBank b record)) :=
      fun hfree hstill => by
        rw [execLoadBank_eq hf]
        exact congrArg (fun t => Host.Outcome.next (arbitrate t))
          (stored.trans ((if_neg (free_iff.mpr hfree)).trans (if_neg (still_iff.mpr hstill))))
    refine ⟨fun hfree hstill => ⟨_, taken hfree hstill, ?_, ?_, ?_, ?_⟩, fun hfree hstill hcalm => ?_⟩
    · rw [(kept_arbitrate _).banks, State.setBank_banks, (kept_clearAll named h).banks]
      rfl
    · exact fun e he hec =>
        ((((Drains.refl _).setBank b record).arbitrate).clearedOn (clearAll_clears named h hec)).1 e he rfl
    · exact fun c hc => ((((Drains.refl _).setBank b record).arbitrate).clearedOn (clearAll_clears named h hc)).2
    · exact ((((Drains.refl h).clearAll named).setBank b record).arbitrate).dropped
    · obtain ⟨heq, hch⟩ := clearAll_calm named (s := h) hcalm.1
      have due : ((clearAll named h).setBank b record).passDue = false := by rw [heq]; exact hp
      have quiet := arbitrate_of_not_due due
      refine ⟨_, (taken hfree hstill).trans (congrArg _ quiet), ?_, ?_, hch⟩
      · rw [heq]; rfl
      · rw [State.setBank_banks, (kept_clearAll named h).banks]
        rfl

/-! ### The load of a counter-unit record -/

section
variable {f : Head} {r : UnitRec} {u : UnitNo} {s : State}

/-- The record that a unit load stores, in the manual's own figures (R118). -/
def loadedUnit (r : UnitRec) (position : Option Nat) : CounterUnit :=
  { inUse := r.inUse != 0, up := r.up, down := r.down, top := r.top, zero := r.zero, maximum := max 1 (min r.maximum.toNat 99),
    settle := min r.settle.toNat 500,
    profile := { start := max 10 (min r.startIv.toNat 500), floor := max 10 (min r.floorIv.toNat (max 10 (min r.startIv.toNat 500))),
                 ramp := r.ramp.toNat, idle := min r.idle.toNat 7 },
    position := position, opposite := 0, last := none }

/-- The position that two limit levels give (R118). -/
def positionOf (maximum : Nat) (top zero : Bool) : Option Nat :=
  if top && !zero then some maximum else if zero && !top then some 0 else none

theorem unitOf_eq (r : UnitRec) (position : Option Nat) : { unitOf r with position := position } = loadedUnit r position := by
  simp only [unitOf, profileOf, clamp_zero]
  rfl

theorem positionFrom_eq (s : State) (r : UnitRec) :
    positionFrom s (unitOf r) = positionOf (max 1 (min r.maximum.toNat 99)) (s.closedByte r.top) (s.closedByte r.zero) := by
  change (match s.closedByte r.top, s.closedByte r.zero with
    | true, false => some (max 1 (min r.maximum.toNat 99))
    | false, true => some 0
    | _, _ => none) = _
  cases s.closedByte r.top <;> cases s.closedByte r.zero <;> rfl

/-- What a taken unit load leaves (R118). -/
def takeUnit (u : UnitNo) (r : UnitRec) (s : State) : State :=
  s.setUnit u (loadedUnit r (positionOf (max 1 (min r.maximum.toNat 99)) (s.closedByte r.top) (s.closedByte r.zero)))

theorem takeUnit_eq (u : UnitNo) (r : UnitRec) (s : State) :
    s.setUnit u { unitOf r with position := positionFrom s (unitOf r) } = takeUnit u r s := by
  rw [unitOf_eq, positionFrom_eq]
  rfl

theorem execLoadUnit_eq (hf : Heard f s) :
    exec (.loadUnit f r) s = .next (arbitrate (storeUnit f.tag r (heard (encodeFrame (.loadUnit f r)) s))) := by
  change Host.Outcome.next (orderFrame (.loadUnit f r) f (storeUnit f.tag r) s) = _
  rw [orderFrame_heard hf]

theorem execLoadUnit_refused {why : Reason} (hf : Heard f s)
    (h : storeUnit f.tag r (heard (encodeFrame (.loadUnit f r)) s) =
      turnedAway f.tag why (heard (encodeFrame (.loadUnit f r)) s)) :
    exec (.loadUnit f r) s = .next (turnedAway f.tag why (heard (encodeFrame (.loadUnit f r)) s)) := by
  obtain ⟨-, -, -, -, hp⟩ := id hf
  rw [execLoadUnit_eq hf, h]
  exact congrArg _ (arbitrate_of_not_due hp)

theorem storeUnit_unused {tag : Byte} (hu : r.unit.toNat = u.val) (hi : r.inUse = 0) :
    storeUnit tag r s = if (trainOf s (.counter u)).isSome then turnedAway tag .busy s else takeUnit u r s := by
  have unused : ¬ (unitOf r).inUse = true := by simp [unitOf, yes, hi]
  rw [storeUnit, withRef_of_val hu, if_neg unused]
  exact if_congr Iff.rfl (refuseOrder_eq _ _ _) (takeUnit_eq u r s)

theorem inUse_unitOf (hi : r.inUse ≠ 0) : (unitOf r).inUse = true := bne_iff_ne.mpr hi

theorem storeUnit_range {tag : Byte} (hu : r.unit.toNat = u.val) (hi : r.inUse ≠ 0)
    (hbad : 23 < r.up.toNat ∨ 23 < r.down.toNat ∨ 31 < r.top.toNat ∨ 31 < r.zero.toNat ∨ r.top = r.zero) :
    storeUnit tag r s = turnedAway tag .range s := by
  rw [storeUnit, withRef_of_val hu, if_pos (inUse_unitOf hi)]
  split
  · rename_i up down top zero hup hdown htop hzero
    have missing : ∀ {n : Nat} {b : Byte} {i : Fin n}, refOf n b = some i → ¬ n ≤ b.toNat := fun h hge => by
      rw [refOf_of_ge hge] at h; cases h
    have same : r.top = r.zero := by
      rcases hbad with h | h | h | h | h
      · exact absurd h (missing hup)
      · exact absurd h (missing hdown)
      · exact absurd h (missing htop)
      · exact absurd h (missing hzero)
      · exact h
    rw [same] at htop
    rw [if_pos (Option.some.inj (htop.symm.trans hzero)), refuseOrder_eq]
  · exact refuseOrder_eq _ _ _

/-- A unit in use whose references name things: its further checks and its work (R20, R118). -/
theorem storeUnit_used {tag : Byte} {up down : Chan} {top zero : InputNo} (hu : r.unit.toNat = u.val) (hi : r.inUse ≠ 0)
    (hup : r.up.toNat = up.val) (hdown : r.down.toNat = down.val) (htop : r.top.toNat = top.val)
    (hzero : r.zero.toNat = zero.val) (hne : top ≠ zero) :
    storeUnit tag r s =
      if claimedBesideUnit s u up ∨ claimedBesideUnit s u down ∨ up = down then turnedAway tag .claimed s
      else if (trainOf s (.counter u)).isSome ∨ inWork s up ∨ inWork s down then turnedAway tag .busy s
      else takeUnit u r (clearAll [up, down] s) := by
  rw [storeUnit, withRef_of_val hu, if_pos (inUse_unitOf hi), refOf_of_val hup, refOf_of_val hdown, refOf_of_val htop,
    refOf_of_val hzero]
  simp only [if_neg hne, unitRefusal, takeUnit_eq]
  split
  · rename_i why hw
    split at hw
    · rename_i hc; cases hw; rw [if_pos hc, refuseOrder_eq]
    · rename_i hc
      rw [if_neg hc]
      split at hw
      · rename_i hb; cases hw; rw [if_pos hb, refuseOrder_eq]
      · cases hw
  · rename_i hw
    split at hw
    · cases hw
    · rename_i hc
      split at hw
      · cases hw
      · rename_i hb; rw [if_neg hc, if_neg hb]; rfl

theorem unit_free_iff (s : State) (up down : Chan) :
    ¬ (claimedBesideUnit s u up = true ∨ claimedBesideUnit s u down = true ∨ up = down) ↔
      up ≠ down ∧ claimedBesideUnit s u up = false ∧ claimedBesideUnit s u down = false := by
  simp only [not_or, Bool.not_eq_true, ne_eq]
  tauto

theorem unit_still_iff (s : State) (up down : Chan) :
    ¬ ((trainOf s (.counter u)).isSome = true ∨ inWork s up = true ∨ inWork s down = true) ↔
      trainOf s (.counter u) = none ∧ ∀ c : Chan, c = up ∨ c = down → trainOn s c = none ∧ s.chans[c].driven = false := by
  simp only [not_or, inWork_iff, not_not, Option.isSome_iff_ne_none, ne_eq, or_imp, forall_and, forall_eq]
  tauto

theorem takeUnit_units (s : State) : (takeUnit u r s).units =
    s.units.set u (loadedUnit r (positionOf (max 1 (min r.maximum.toNat 99)) (s.closedByte r.top) (s.closedByte r.zero))) := rfl

theorem Drains.takeUnit {s₀ : State} (h : Drains s₀ s) (u : UnitNo) (r : UnitRec) : Drains s₀ (takeUnit u r s) := h.setUnit _ _

theorem closedByte_congr {s t : State} (b : Byte) (h : t.inputs = s.inputs) : t.closedByte b = s.closedByte b := by
  simp only [State.closedByte, State.closed, h]

theorem closedByte_of_val {b : Byte} {i : InputNo} (h : b.toNat = i.val) : s.closedByte b = s.inputs[i].closed := by
  simp only [State.closedByte, refOf_of_val h, State.closed]

end

/-- Settles O35: the checks of R118 in order, and the clearing of the channels that the unit names. -/
theorem unitLoadReplacesTheUnit : Obligations.UnitLoadReplacesTheUnit := by
  unfold Obligations.UnitLoadReplacesTheUnit
  refine ⟨fun f r s hf hu => execLoadUnit_refused hf (by rw [storeUnit, withRef_of_ge hu]), ?_⟩
  intro f r u s hf hu h start top loaded
  obtain ⟨-, -, -, -, hp⟩ := id hf
  refine ⟨fun hi ht => ?_, fun hi ht => ?_, fun hi hbad => execLoadUnit_refused hf (storeUnit_range hu hi hbad), ?_⟩
  · exact execLoadUnit_refused hf ((storeUnit_unused hu hi).trans (if_pos (Option.isSome_iff_ne_none.mpr ht)))
  · have none_ : ¬ (trainOf h (.counter u)).isSome = true := by rw [Option.isSome_iff_ne_none, not_not]; exact ht
    rw [execLoadUnit_eq hf, (storeUnit_unused hu hi).trans (if_neg none_)]
    exact congrArg _ (arbitrate_of_not_due (s := takeUnit u r h) hp)
  · intro up down t₀ z₀ hi hup hdown htop hzero hne free still
    have stored := storeUnit_used (tag := f.tag) (s := h) hu hi hup hdown htop hzero hne
    have free_iff : _ ↔ free := unit_free_iff (u := u) s up down
    have still_iff : _ ↔ still := unit_still_iff (u := u) s up down
    refine ⟨fun hn => ?_, fun hfree hn => ?_, ?_⟩
    · exact execLoadUnit_refused hf (stored.trans (if_pos (not_not.mp (mt free_iff.mp hn))))
    · exact execLoadUnit_refused hf
        (stored.trans ((if_neg (free_iff.mpr hfree)).trans (if_pos (not_not.mp (mt still_iff.mp hn)))))
    · intro record
      have taken : free → still → exec (.loadUnit f r) s = .next (arbitrate (takeUnit u r (clearAll [up, down] h))) :=
        fun hfree hstill => by
          rw [execLoadUnit_eq hf]
          exact congrArg (fun t => Host.Outcome.next (arbitrate t))
            (stored.trans ((if_neg (free_iff.mpr hfree)).trans (if_neg (still_iff.mpr hstill))))
      have units : (takeUnit u r (clearAll [up, down] h)).units = s.units.set u record := by
        have kept := kept_clearAll [up, down] h
        rw [takeUnit_units, kept.units, closedByte_congr _ kept.inputs, closedByte_congr _ kept.inputs, closedByte_of_val htop,
          closedByte_of_val hzero]
        rfl
      have cleared : ∀ c ∈ [up, down], ClearedOn c (arbitrate (takeUnit u r (clearAll [up, down] h))) := fun c hc =>
        (((Drains.refl _).takeUnit u r).arbitrate).clearedOn (clearAll_clears [up, down] h hc)
      have hup' : up ∈ [up, down] := List.mem_cons_self
      have hdown' : down ∈ [up, down] := List.mem_cons_of_mem _ List.mem_cons_self
      refine ⟨fun hfree hstill => ⟨_, taken hfree hstill, ?_, ?_, (cleared up hup').2, (cleared down hdown').2, ?_⟩,
        fun hfree hstill hcalm => ?_⟩
      · rw [(kept_arbitrate _).units, units]
      · rintro e he (hec | hec)
        · exact (cleared up hup').1 e he hec
        · exact (cleared down hdown').1 e he hec
      · exact ((((Drains.refl h).clearAll [up, down]).takeUnit u r).arbitrate).dropped
      · have quiet : clearAll [up, down] h = setWaiting down none (setWaiting up none h) := by
          have first : clearClaimed up h = setWaiting up none h := congrArg (setWaiting up none) (withdraw_calm _ hcalm.1)
          have second : clearClaimed down (setWaiting up none h) = setWaiting down none (setWaiting up none h) :=
            congrArg (setWaiting down none) (withdraw_calm (s := setWaiting up none h) _ hcalm.1)
          exact (congrArg (clearClaimed down) first).trans second
        have due : (takeUnit u r (clearAll [up, down] h)).passDue = false := by rw [quiet]; exact hp
        have other : (s.chans.set up { s.chans[up] with waiting := none })[down] = s.chans[down] :=
          getElem_set_other _ _ hfree.1.symm
        rw [taken hfree hstill, arbitrate_of_not_due due]
        rw [quiet] at units ⊢
        have chans : (setWaiting down none (setWaiting up none h)).chans =
            (s.chans.set up { s.chans[up] with waiting := none }).set down { s.chans[down] with waiting := none } := by
          rw [← other]; rfl
        rw [← units, ← chans]
        rfl

end Sys2Proof.Machine
end

section
/-! SUPPORT. The courses of the trains, a context that has gone, and the Lock and Unlock orders (R21, R22, R131). -/

namespace Sys2Proof.Machine

set_option Elab.async false

/-! ### What the end of an event leaves of a train -/

/-- What a train keeps from its start, but for extensions and ends: its owner, its channel, its direction and its planned count. -/
def Train.course (x : Train) : Owner × Chan × Dir × Nat := (x.owner, x.channel, x.dir, x.planned)

/-- The same contexts run, on the same courses. -/
def SameCourses (s t : State) : Prop := ∀ k : TrainNo, t.trains[k].map Train.course = s.trains[k].map Train.course

section
variable {s₀ s t : State}

theorem SameCourses.refl (s : State) : SameCourses s s := fun _ => rfl

theorem SameCourses.of_trains (h : SameCourses s₀ s) (e : t.trains = s.trains) : SameCourses s₀ t := by
  intro k; rw [e]; exact h k

theorem SameCourses.setTrain (h : SameCourses s₀ s) {k : TrainNo} {x y : Train} (hx : s.trains[k] = some x)
    (hc : y.course = x.course) : SameCourses s₀ (s.setTrain k (some y)) := by
  intro j
  rw [State.setTrain_trains]
  by_cases hj : j = k
  · subst hj
    rw [getElem_set_same, ← h j, hx, Option.map_some, Option.map_some, hc]
  · rw [getElem_set_other _ _ hj]
    exact h j

theorem SameCourses.joinHeld (h : SameCourses s₀ s) {k : TrainNo} (hp : s.queue.length < Config.queueSize) :
    SameCourses s₀ (joinHeld k s) := by
  cases ht : s.trains[k] with
  | none => rwa [joinHeld_of_none ht]
  | some x =>
    obtain ⟨q, b, e, -⟩ := joinHeld_of_some ht hp
    rw [e]
    exact (h.setTrain ht (y := { x with held := false }) rfl).of_trains rfl

theorem SameCourses.handOver (h : SameCourses s₀ s) : SameCourses s₀ (handOver s) :=
  handOver_invariant (P := SameCourses s₀) (fun _ _ hs _ hp => hs.joinHeld hp) (fun _ _ hs _ => hs.of_trains rfl) h

theorem SameCourses.withdraw (h : SameCourses s₀ s) (p : Entry → Bool) : SameCourses s₀ (withdraw p s) := by
  rw [Machine.withdraw]; split
  · exact (h.of_trains (t := (s.setQueue (s.queue.filter fun x => !p x)).callPass) rfl).handOver
  · exact h

theorem SameCourses.trainGranted (h : SameCourses s₀ s) (k : TrainNo) : SameCourses s₀ (trainGranted k s) := by
  simp only [Machine.trainGranted]; split
  · exact h
  · rename_i x hx
    exact h.setTrain hx rfl

theorem beginKick_trains (c : Chan) (kind : DriveKind) (e : Entry) (n : Nat) (s : State) :
    (beginKick c kind e n s).trains = s.trains := setAct_trains _ _ _

theorem removeAtPass_trains (e : Entry) (x y : Bool) (s : State) : (removeAtPass e x y s).trains = s.trains := by
  cases x <;> cases y <;> (simp only [removeAtPass]; split <;> rfl)

theorem grantHold_trains (e : Entry) (n : Nat) (b : Bool) (s : State) : (grantHold e n b s).trains = s.trains := by
  simp only [grantHold]; split
  · cases b <;> exact setAct_trains _ _ _
  · rfl

/-- A grant with a kick reaches no train but that of a step pulse's entry (R94). -/
theorem grantKick_trains (e : Entry) (n : Nat) (s : State) :
    (grantKick e n s).trains = s.trains ∨
      ∃ k t, e.kind = .stepPulse ∧ e.source = .train k ∧ t.trains = s.trains ∧ grantKick e n s = trainGranted k t := by
  simp only [grantKick]
  repeat' split
  · exact .inl (beginKick_trains _ _ _ _ _)
  · exact .inl rfl
  · exact .inl ((beginKick_trains _ _ _ _ _).trans (finalCharge_trains _ _))
  · exact .inl rfl
  · exact .inl (beginKick_trains _ _ _ _ _)
  · rename_i hk _ k hs
    exact .inr ⟨k, _, hk, hs, beginKick_trains _ _ _ _ _, rfl⟩
  · exact .inl (beginKick_trains _ _ _ _ _)

theorem keptByPasses_courses (s₀ : State) : KeptByPasses (SameCourses s₀) where
  removed e x y s h _ _ := h.of_trains (removeAtPass_trains e x y s)
  kick e n _ _ s h _ _ _ _ := by
    rcases grantKick_trains e n s with ht | ⟨k, t, -, -, ht, hg⟩
    · exact h.of_trains ht
    · rw [hg]; exact (h.of_trains ht).trainGranted k
  hold e n _ _ x s h _ _ _ _ := h.of_trains (grantHold_trains e n x s)
  join _ _ h _ hp := h.joinHeld hp
  shrink _ _ h _ := h.of_trains rfl
  stay _ _ h _ := h.of_trains rfl
  mark _ _ h := h.of_trains rfl

/-- The end of an event starts and ends no train and changes no planned count (R94). -/
theorem SameCourses.arbitrate (h : SameCourses s₀ s) : SameCourses s₀ (arbitrate s) :=
  arbitrate_invariant (keptByPasses_courses s₀) h

theorem SameCourses.of_some (h : SameCourses s t) {k : TrainNo} {x : Train} (hx : s.trains[k] = some x) :
    ∃ y, t.trains[k] = some y ∧ y.course = x.course := by
  have hk := h k
  rw [hx, Option.map_some, Option.map_eq_some_iff] at hk
  exact hk

theorem SameCourses.trainOn (h : SameCourses s t) (c : Chan) : trainOn t c = trainOn s c := by
  have test : ∀ (o : Option Train), o.any (fun x => x.channel == c) = (o.map Train.course).any fun p => p.2.1 == c := by
    intro o; cases o <;> rfl
  simp only [Machine.trainOn, test, h _]

end

/-! ### A context that has gone -/

/-- A context is FREE, and no entry and no held train is of it. -/
def Gone (k : TrainNo) (s : State) : Prop := s.trains[k] = none ∧ (∀ e ∈ s.queue, e.source ≠ .train k) ∧ k ∉ s.held

section
variable {s t : State} {k : TrainNo}

theorem Drains.gone (d : Drains s t) (h : Gone k s) : Gone k t := by
  obtain ⟨ht, hq, hh⟩ := h
  refine ⟨?_, fun e he hs => ?_, fun hk => hh (d.held k hk)⟩
  · cases hx : t.trains[k] with
    | none => rfl
    | some y =>
      obtain ⟨x, hx', -⟩ := d.trains k y hx
      rw [ht] at hx'
      cases hx'
  · rcases d.queue e he with ⟨e', he', al⟩ | ⟨j, hj, -, -, -, -, -, hsrc, -⟩
    · obtain ⟨-, -, -, h₄, -⟩ := al
      exact hq e' he' (h₄.symm.trans hs)
    · rw [hs] at hsrc
      cases hsrc
      exact hh hj

/-- A context whose request is taken back has no entry and is not held (R105). -/
theorem takeBack_no_request (k : TrainNo) (s : State) :
    (∀ e ∈ (takeBack k s).queue, e.source ≠ .train k) ∧ k ∉ (takeBack k s).held := by
  have unheld : k ∉ s.held.filter (· != k) := fun h => by simpa using (List.mem_filter.mp h).2
  constructor
  · intro e he hs
    rcases mem_withdraw (fun a b hab => by obtain ⟨-, -, -, h₄, -⟩ := hab; rw [h₄]) (s := s.setHeld (s.held.filter (· != k)))
      (p := fun e => e.source == .train k) he with h | ⟨j, hj, -, -, -, -, -, hsrc, -⟩
    · exact beq_eq_false_iff_ne.mp h hs
    · rw [hs] at hsrc
      cases hsrc
      exact unheld hj
  · intro hk
    exact unheld (((Drains.refl (s.setHeld (s.held.filter (· != k)))).withdraw fun e => e.source == .train k).held k hk)

theorem freeTrain_gone (k : TrainNo) (s : State) : Gone k (freeTrain k s) := by
  obtain ⟨hq, hh⟩ := takeBack_no_request k (s.setTrain k none)
  refine ⟨?_, hq, hh⟩
  have freed : (s.setTrain k none).trains[k] = none := getElem_set_same _ _ _
  cases hx : (freeTrain k s).trains[k] with
  | none => rfl
  | some y =>
    obtain ⟨x, hx', -⟩ := ((Drains.refl (s.setTrain k none)).takeBack k).trains k y hx
    rw [freed] at hx'
    cases hx'

theorem foldl_freeTrain_gone (l : List TrainNo) (s : State) (h : k ∈ l) : Gone k (l.foldl (fun s t => freeTrain t s) s) := by
  induction l generalizing s with
  | nil => cases h
  | cons j l ih =>
    rw [List.foldl_cons]
    rcases List.mem_cons.mp h with rfl | h
    · have rest : Drains (freeTrain k s) (l.foldl (fun s t => freeTrain t s) (freeTrain k s)) :=
        foldl_invariant (P := Drains (freeTrain k s)) (fun _ _ hs => hs.freeTrain _) l (Drains.refl _)
      exact rest.gone (freeTrain_gone k s)
    · exact ih _ h

theorem mem_bankTrains {b : BankNo} : k ∈ bankTrains s b ↔ ∃ x r, s.trains[k] = some x ∧ x.owner = .reel b r := by
  simp only [bankTrains, List.mem_filter, List.mem_finRange, true_and, Option.any_eq_true]
  constructor
  · rintro ⟨x, hx, ho⟩
    cases how : x.owner with
    | reel b' r => rw [how] at ho; exact ⟨x, r, hx, by rw [how, beq_iff_eq.mp ho]⟩
    | _ => rw [how] at ho; cases ho
  · rintro ⟨x, r, hx, ho⟩
    exact ⟨x, hx, by rw [ho]; exact beq_self_eq_true b⟩

theorem freeBank_gone {b : BankNo} (h : k ∈ bankTrains s b) : Gone k (freeBank b s) := foldl_freeTrain_gone _ s h

/-- A cancelled train is gone (R105). -/
theorem cancelTrain_gone {x : Train} (hx : s.trains[k] = some x) : Gone k (cancelTrain k s) := by
  simp only [cancelTrain, hx]
  cases ho : x.owner with
  | bare => exact freeTrain_gone k s
  | reel b r =>
    have mem : k ∈ bankTrains s b := mem_bankTrains.mpr ⟨x, r, hx, ho⟩
    have nonempty : ¬ (bankTrains s b).isEmpty = true := by
      rw [List.isEmpty_iff]; intro h; rw [h] at mem; cases mem
    change Gone k (cancelBank b s)
    rw [cancelBank, if_neg nonempty]
    exact ((Drains.refl _).setBank b _).gone (freeBank_gone mem)
  | counter u => exact (((Drains.refl _).recordEnd u x).setUnit u _).gone (freeTrain_gone k s)

end

/-! ### The Lock order -/

section
variable {c : Chan} {s : State}

theorem trainOn_eq_some {k : TrainNo} (h : trainOn s c = some k) : ∃ x, s.trains[k] = some x ∧ x.channel = c := by
  have := List.find?_some h
  rw [Option.any_eq_true] at this
  obtain ⟨x, hx, hc⟩ := this
  exact ⟨x, hx, beq_iff_eq.mp hc⟩

/-- Where no channel has more than one train (R91), a withdrawal of everything on a channel and the cancelling of its train leave neither entry
nor train there (R21). -/
theorem clearTrain_none_on {s₀ : State} (hd : Drains s₀ s)
    (hu : ∀ (k : TrainNo) (x : Train), s₀.trains[k] = some x → x.channel = c → trainOn s₀ c = some k) :
    let u := withdrawAll c s
    (∀ e ∈ (cancelOf (trainOn u c) u).queue, e.channel ≠ c) ∧
      ∀ (k : TrainNo) (y : Train), (cancelOf (trainOn u c) u).trains[k] = some y → y.channel ≠ c := by
  intro u
  have courses : SameCourses s u := ((SameCourses.refl s).withdraw _).of_trains rfl
  have drained : Drains s u := (Drains.refl s).withdrawAll c
  cases ht : trainOn u c with
  | none => exact withdrawAll_none_on ((courses.trainOn c).symm.trans ht)
  | some k =>
    obtain ⟨x, hx, hxc⟩ := trainOn_eq_some ht
    have only : ∀ (j : TrainNo) (y : Train), s.trains[j] = some y → y.channel = c → j = k := by
      intro j y hy hyc
      obtain ⟨z, hz, hzc⟩ := hd.trains j y hy
      obtain ⟨z', hz', hzc'⟩ := (hd.trans drained).trains k x hx
      exact Option.some.inj ((hu j z hz (hzc.symm.trans hyc)).symm.trans (hu k z' hz' (hzc'.symm.trans hxc)))
    have gone : Gone k (cancelOf (some k) u) := cancelTrain_gone hx
    have cancelled : Drains u (cancelOf (some k) u) := (Drains.refl u).cancelOf _
    constructor
    · intro e he hec
      rcases cancelled.queue e he with ⟨e', he', al⟩ | ⟨j, hj, y, hy, hch, -, -, hsrc, -⟩
      · obtain ⟨h₁, -, -, h₄, -⟩ := al
        rcases mem_withdraw (fun a b hab => by obtain ⟨h₁, -⟩ := hab; rw [h₁]) (s := s) (p := fun x => x.channel == c) he' with
          h | ⟨j, -, y, hy, hch, -, -, hsrc, -⟩
        · exact beq_eq_false_iff_ne.mp h (h₁.symm.trans hec)
        · have hj := only j y hy (hch.symm.trans (h₁.symm.trans hec))
          subst hj
          exact gone.2.1 e he (h₄.trans hsrc)
      · obtain ⟨z, hz, hzc⟩ := drained.trains j y hy
        have hj := only j z hz (hzc.symm.trans (hch.symm.trans hec))
        subst hj
        exact gone.2.1 e he hsrc
    · intro j y hy hyc
      obtain ⟨z, hz, hzc⟩ := (drained.trans cancelled).trains j y hy
      have hj := only j z hz (hzc.symm.trans hyc)
      subst hj
      rw [gone.1] at hy
      cases hy

theorem setGuard_cause (c : Chan) (g : Guard) (s : State) : (s.setGuard c g).guards[c] = g := getElem_set_same _ _ _

theorem cutAndLock_guards (c : Chan) (s : State) : (cutAndLock c s).guards = s.guards := by
  have locked : (setAct c .locked (finalCharge c s)).guards = s.guards := by
    rw [setAct_guards]
    have undriven : Channel.driven { (finalCharge c s).chans[c] with act := .locked } = false := not_driven_of_locked rfl
    rw [undriven, Bool.and_false, if_neg Bool.false_ne_true, finalCharge_guards]
  rw [cutAndLock]; split <;> exact locked

/-- A lock leaves the protection record but for its verdict and its cause (R21, R127). -/
theorem lockChannel_guard (cause : LockCause) (h : s.chans[c].isLocked = false) :
    (lockChannel c cause s).guards[c] = { s.guards[c] with verdict := .noneYet, cause := some cause } := by
  rw [lockChannel_of_free cause h]
  have trains : ∀ t : State, (unitsLocked c (cancelOf (trainOn (withdrawAll c t) c) (withdrawAll c t))).guards = t.guards := fun t =>
    (guards_of_beyondTrains (s := withdrawAll c t) (by simp)).trans (guards_of_beyondTrains (s := t) (by simp) :
      (withdraw (fun x => x.channel == c) t).guards = t.guards)
  have report : (reportKick c false s.chans[c].isStepping (cutAndLock c s)).guards = s.guards :=
    (guards_of_beyondTrains (by simp)).trans (cutAndLock_guards c s)
  rw [markLocked, setGuard_cause]
  simp only [setLatch_guards, trains, report]

/-- A channel that a lock has taken, to the end of its event: LOCKED, its context gone, its record and the latch as R21 has them. -/
theorem locked_to_the_end (cause : LockCause) (h : s.chans[c].isLocked = false) :
    (arbitrate (lockChannel c cause s)).chans[c] = { act := .locked, waiting := none } ∧
    (arbitrate (lockChannel c cause s)).guards[c] = { s.guards[c] with verdict := .noneYet, cause := some cause } ∧
    (arbitrate (lockChannel c cause s)).latches.getLsbD 6 = true := by
  have chan : (lockChannel c cause s).chans[c] = { act := .locked, waiting := none } := by
    rw [lockChannel_chans c cause h, getElem_set_same]
  have still := (bystander_of_busy (c := c) (s := lockChannel c cause s) (by rw [chan]; simp) (by rw [chan]; rfl)).arbitrate
  refine ⟨still.chan.trans chan, still.guard.trans (lockChannel_guard cause h), ?_⟩
  refine ((Drains.refl (lockChannel c cause s)).arbitrate).latches 6 ?_
  rw [lockChannel_of_free cause h]
  simp [markLocked, latchMask, latchBit]

end

section
variable {f : Head} {ch : Byte} {c : Chan} {s : State}

theorem execLock_range (hf : Heard f s) (hc : 23 < ch.toNat) :
    exec (.lock f ch) s = .next (turnedAway f.tag .range (heard (encodeFrame (.lock f ch)) s)) := by
  obtain ⟨-, -, -, -, hp⟩ := id hf
  change Host.Outcome.next (orderFrame (.lock f ch) f (obeyLock f.tag ch) s) = _
  rw [orderFrame_heard hf, obeyLock, withRef_of_ge hc]
  exact congrArg _ (arbitrate_of_not_due hp)

theorem execLock_eq (hf : Heard f s) (hc : ch.toNat = c.val) :
    exec (.lock f ch) s = .next (arbitrate (lockChannel c .manual (heard (encodeFrame (.lock f ch)) s))) := by
  change Host.Outcome.next (orderFrame (.lock f ch) f (obeyLock f.tag ch) s) = _
  rw [orderFrame_heard hf, obeyLock, withRef_of_val hc]

theorem execLock_locked (hf : Heard f s) (hc : ch.toNat = c.val) (hl : s.chans[c].isLocked = true) :
    exec (.lock f ch) s = .next (heard (encodeFrame (.lock f ch)) s) := by
  obtain ⟨-, -, -, -, hp⟩ := id hf
  rw [execLock_eq hf hc, lockChannel_of_locked (s := heard (encodeFrame (.lock f ch)) s) .manual hl]
  exact congrArg _ (arbitrate_of_not_due hp)

theorem execLock_locks (hf : Heard f s) (hc : ch.toNat = c.val) (hl : s.chans[c].isLocked = false)
    (hu : ∀ (k : TrainNo) (x : Train), s.trains[k] = some x → x.channel = c → trainOn s c = some k) :
    ∃ t, exec (.lock f ch) s = .next t ∧ t.chans[c].act = .locked ∧ t.chans[c].waiting = none ∧
      t.guards[c].cause = some .manual ∧ t.guards[c].strikes = s.guards[c].strikes ∧ t.latches.getLsbD 6 = true ∧
      (∀ e ∈ t.queue, e.channel ≠ c) ∧ (∀ (k : TrainNo) (x : Train), t.trains[k] = some x → x.channel ≠ c) ∧
      TablesKept s t ∧ t.node = s.node ∧ t.inputs = s.inputs := by
  let h := heard (encodeFrame (.lock f ch)) s
  have hl' : h.chans[c].isLocked = false := hl
  obtain ⟨chan, guard, latch⟩ := locked_to_the_end (s := h) .manual hl'
  have cut : Drains h (reportKick c false h.chans[c].isStepping (cutAndLock c h)) :=
    ((Drains.refl h).cutAndLock c).reportCut c _
  obtain ⟨hq, ht⟩ := clearTrain_none_on cut hu
  have after : Drains (cancelOf (trainOn (withdrawAll c (reportKick c false h.chans[c].isStepping (cutAndLock c h))) c)
      (withdrawAll c (reportKick c false h.chans[c].isStepping (cutAndLock c h)))) (arbitrate (lockChannel c .manual h)) := by
    rw [lockChannel_of_free .manual hl']
    exact (((Drains.refl _).unitsLocked c).markLocked c .manual).arbitrate
  obtain ⟨hq', ht'⟩ := after.none_on hq ht
  have beyond : (arbitrate (lockChannel c .manual h)).beyondDrives = h.beyondDrives := by simp
  have tables : TablesKept h (arbitrate (lockChannel c .manual h)) := tablesKept_of_beyondDrives beyond
  have node : (arbitrate (lockChannel c .manual h)).node = h.node := node_of_beyondDrives beyond
  have inputs : (arbitrate (lockChannel c .manual h)).inputs = h.inputs := inputs_of_beyondDrives beyond
  exact ⟨_, execLock_eq hf hc, by rw [chan], by rw [chan], by rw [guard], (congrArg Guard.strikes guard :), latch, hq', ht', tables, node, inputs⟩

/-! ### The Unlock order -/

theorem execUnlock_range (hf : Heard f s) (hc : 23 < ch.toNat) :
    exec (.unlock f ch) s = .next (turnedAway f.tag .range (heard (encodeFrame (.unlock f ch)) s)) := by
  obtain ⟨-, -, -, -, hp⟩ := id hf
  change Host.Outcome.next (orderFrame (.unlock f ch) f (obeyUnlock f.tag ch) s) = _
  rw [orderFrame_heard hf, obeyUnlock, withRef_of_ge hc]
  exact congrArg _ (arbitrate_of_not_due hp)

theorem execUnlock_tripped (hf : Heard f s) (hc : ch.toNat = c.val) (ht : s.node.st = .tripped) :
    exec (.unlock f ch) s = .next (turnedAway f.tag .state (heard (encodeFrame (.unlock f ch)) s)) := by
  obtain ⟨-, -, -, -, hp⟩ := id hf
  have ht' : (heard (encodeFrame (.unlock f ch)) s).node.st = .tripped := ht
  change Host.Outcome.next (orderFrame (.unlock f ch) f (obeyUnlock f.tag ch) s) = _
  rw [orderFrame_heard hf, obeyUnlock, withRef_of_val hc, if_pos ht']
  exact congrArg _ (arbitrate_of_not_due hp)

theorem execUnlock_eq (hf : Heard f s) (hc : ch.toNat = c.val) (ht : s.node.st ≠ .tripped) :
    exec (.unlock f ch) s = .next (arbitrate (unlockChannel c (heard (encodeFrame (.unlock f ch)) s))) := by
  have ht' : ¬ (heard (encodeFrame (.unlock f ch)) s).node.st = .tripped := ht
  change Host.Outcome.next (orderFrame (.unlock f ch) f (obeyUnlock f.tag ch) s) = _
  rw [orderFrame_heard hf, obeyUnlock, withRef_of_val hc, if_neg ht']

theorem execUnlock_free (hf : Heard f s) (hc : ch.toNat = c.val) (ht : s.node.st ≠ .tripped) (hl : s.chans[c].isLocked = false) :
    exec (.unlock f ch) s = .next (heard (encodeFrame (.unlock f ch)) s) := by
  obtain ⟨-, -, -, -, hp⟩ := id hf
  have hl' : ¬ (heard (encodeFrame (.unlock f ch)) s).chans[c].isLocked = true := by rw [Bool.not_eq_true]; exact hl
  rw [execUnlock_eq hf hc ht, unlockChannel, if_neg hl']
  exact congrArg _ (arbitrate_of_not_due hp)

theorem execUnlock_unlocks (hf : Heard f s) (hc : ch.toNat = c.val) (ht : s.node.st ≠ .tripped) (hl : s.chans[c].act = .locked)
    (hcalm : Calm s) :
    exec (.unlock f ch) s = .next { heard (encodeFrame (.unlock f ch)) s with
      chans := s.chans.set c { s.chans[c] with act := .idle }
      guards := s.guards.set c { s.guards[c] with cause := none, strikes := 0, shortRun := 0, leakRun := 0 } } := by
  obtain ⟨-, -, -, -, hp⟩ := id hf
  let h := heard (encodeFrame (.unlock f ch)) s
  have hl' : h.chans[c].isLocked = true := isLocked_iff.mpr hl
  have undriven : (h.setGuard c { h.guards[c] with cause := none, strikes := 0, shortRun := 0, leakRun := 0 }).chans[c].driven = false :=
    not_driven_of_locked hl
  have freed : unlockChannel c h =
      ((h.setGuard c { h.guards[c] with cause := none, strikes := 0, shortRun := 0, leakRun := 0 }).setChan c
        { h.chans[c] with act := .idle }).callPass := by
    rw [unlockChannel, if_pos hl', becomeIdle_not_driven undriven]
    rfl
  have calm : Calm ((h.setGuard c { h.guards[c] with cause := none, strikes := 0, shortRun := 0, leakRun := 0 }).setChan c
      { h.chans[c] with act := .idle }).callPass := hcalm
  rw [execUnlock_eq hf hc ht, arbitrate_eq_of_calm freed calm]
  exact congrArg _ (clear_passDue (s := (h.setGuard c
    { h.guards[c] with cause := none, strikes := 0, shortRun := 0, leakRun := 0 }).setChan c { h.chans[c] with act := .idle }) hp)

end

/-- Settles O27: a locked channel keeps its state to the end of the event, and its train and entries are gone. -/
theorem lockAndUnlockTakeTheChannel : Obligations.LockAndUnlockTakeTheChannel := by
  unfold Obligations.LockAndUnlockTakeTheChannel
  refine ⟨fun _ _ _ => execLock_range, fun f ch c s hf hc => ⟨execLock_locked hf hc, execLock_locks hf hc⟩, ?_⟩
  intro f ch s hf h
  exact ⟨execUnlock_range hf, fun c hc => ⟨execUnlock_tripped hf hc, execUnlock_free hf hc, execUnlock_unlocks hf hc⟩⟩

end Sys2Proof.Machine
end

section
/-! SUPPORT. The silence timer and the settle timer: the loss of the chain, and the entry to LIVE or a Supply trip (R159, R164, R167, R168). -/

namespace Sys2Proof.Machine

set_option Elab.async false

/-! ### A standing down leaves no train -/

section
variable {s₀ s t : State}

theorem cancelTrain_frees (k : TrainNo) (s : State) : (cancelTrain k s).trains[k] = none := by
  cases hx : s.trains[k] with
  | none =>
    have same : cancelTrain k s = s := by simp only [cancelTrain, hx]
    rw [same, hx]
  | some x => exact (cancelTrain_gone hx).1

theorem Drains.keeps_free {k : TrainNo} (d : Drains s t) (h : s.trains[k] = none) : t.trains[k] = none := by
  cases hx : t.trains[k] with
  | none => rfl
  | some y =>
    obtain ⟨x, hx', -⟩ := d.trains k y hx
    rw [h] at hx'
    cases hx'

theorem cancelAll_frees (s : State) (k : TrainNo) : (cancelAll s).trains[k] = none := by
  obtain ⟨l, l', hl⟩ := List.append_of_mem (List.mem_finRange k)
  simp only [cancelAll, hl, List.foldl_append, List.foldl_cons]
  have rest : ∀ t, Drains t (l'.foldl (fun s t => cancelTrain t s) t) := fun t =>
    foldl_invariant (P := Drains t) (fun _ _ hs => hs.cancelTrain _) l' (Drains.refl t)
  exact (rest _).keeps_free (cancelTrain_frees k _)

theorem Drains.endDrives (h : Drains s₀ s) (keep : Bool) : Drains s₀ (endDrives keep s) :=
  forChans_invariant (P := Drains s₀) (fun c s hs => by
    split
    · exact hs
    · exact hs.endDrive c) h

theorem Drains.emptyQueue (h : Drains s₀ s) : Drains s₀ (emptyQueue s) :=
  forChans_invariant (P := Drains s₀) (fun c _ hs => hs.setWaiting_none c)
    ((h.setQueue (q := []) fun _ he => nomatch he).setHeld (l := []) fun _ hk => nomatch hk)

theorem Drains.reduceQueue (h : Drains s₀ s) : Drains s₀ (reduceQueue s) :=
  forChans_invariant (P := Drains s₀) (fun c s hs => by
    split
    · exact hs
    · exact hs.setWaiting_none c) ((h.filterQueue _).setHeld (l := []) fun _ hk => nomatch hk)

/-- Setting flip contexts, on every channel, leaves the queue and the held list alone. -/
theorem forChans_queue {f : Chan → State → State} (hf : ∀ c s, (f c s).queue = s.queue ∧ (f c s).held = s.held) (s : State) :
    (forChans f s).queue = s.queue ∧ (forChans f s).held = s.held :=
  ⟨forChans_view (v := State.queue) (fun c s => (hf c s).1) s, forChans_view (v := State.held) (fun c s => (hf c s).2) s⟩

theorem emptyQueue_calm (s : State) : Calm (emptyQueue s) := forChans_queue (fun _ _ => ⟨rfl, rfl⟩) _

theorem reduceQueue_persistent (s : State) : (∀ e ∈ (reduceQueue s).queue, e.persistent = true) ∧ (reduceQueue s).held = [] := by
  obtain ⟨hq, hh⟩ := forChans_queue (f := fun c s =>
    if s.queue.any (fun x => x.channel == c && x.kind == .flip) then s else setWaiting c none s)
    (fun c s => by split <;> exact ⟨rfl, rfl⟩) ((s.setQueue (s.queue.filter (·.persistent))).setHeld [])
  refine ⟨fun e he => ?_, hh⟩
  rw [reduceQueue, hq] at he
  exact (List.mem_filter.mp he).2

/-! ### Drives of persistent rules -/

/-- Every drive, every entry is of a persistent rule, and no train is held (R8, R62). -/
def OnlyPersistent (s : State) : Prop :=
  (∀ (c : Chan) (d : Drive), s.chans[c].drive? = some d → d.persistent = true) ∧ (∀ e ∈ s.queue, e.persistent = true) ∧ s.held = []

theorem drive?_congr {x y : Channel} (h : x.act = y.act) : x.drive? = y.drive? := by simp only [Channel.drive?, h]

theorem beginKick_drive (c : Chan) (kind : DriveKind) (e : Entry) (n : Nat) (s : State) (d : Drive)
    (h : (beginKick c kind e n s).chans[c].drive? = some d) : d.persistent = e.persistent := by
  have act : (beginKick c kind e n s).chans[c].act =
      .kicking { kind := kind, source := e.source, persistent := e.persistent, began := s.now, charged := 0 } n (s.after n) := by
    rw [beginKick, State.setGuard_chans, setAct_chans, getElem_set_same]
  simp only [Channel.drive?, act] at h
  cases h
  rfl

theorem setWaiting_act (c : Chan) (x : Option FlipContext) (s : State) : (setWaiting c x s).chans[c].act = s.chans[c].act := by
  rw [setWaiting_chans, getElem_set_same]

/-- What a grant makes of the drive on its channel: none of it, or a drive that is persistent where its entry is (R4). -/
def GrantedBy (e : Entry) (s t : State) : Prop :=
  t.chans[e.channel].drive? = s.chans[e.channel].drive? ∨ ∀ d, t.chans[e.channel].drive? = some d → d.persistent = e.persistent

theorem grantKick_granted (e : Entry) (n : Nat) (s : State) : GrantedBy e s (grantKick e n s) := by
  have begun : ∀ kind t, GrantedBy e s (beginKick e.channel kind e n t) := fun kind t => .inr (beginKick_drive _ kind e n t)
  simp only [grantKick]
  repeat' split
  · exact begun _ _
  · exact .inl rfl
  · exact begun _ _
  · exact .inl rfl
  · exact begun _ _
  · rename_i k _
    rw [GrantedBy, chans_of_beyondTrains (beyondTrains_trainGranted _ k)]
    exact begun _ _
  · exact begun _ _

theorem grantHold_granted (e : Entry) (n : Nat) (b : Bool) (s : State) : GrantedBy e s (grantHold e n b s) := by
  simp only [grantHold]
  split
  · rename_i ctx _
    have chans : (setLatchIf b .eosStuck (grantFlipHold e.channel ctx e n s)).chans = (grantFlipHold e.channel ctx e n s).chans := by
      cases b <;> rfl
    refine .inr fun d hd => ?_
    rw [chans, grantFlipHold, enterHold_chans, getElem_set_same] at hd
    cases hd
    rfl
  · exact .inl rfl

theorem removeAtPass_drive (e : Entry) (x y : Bool) (s : State) :
    (removeAtPass e x y s).chans[e.channel].drive? = s.chans[e.channel].drive? := by
  have latched : (setLatchIf y .heatCutoff (setLatchIf x .eosStuck s)).chans = s.chans := chans_of_beyondTrains (by simp)
  have act : (setLatchIf y .heatCutoff (setLatchIf x .eosStuck s)).chans[e.channel].act = s.chans[e.channel].act := by rw [latched]
  refine drive?_congr ?_
  simp only [removeAtPass]
  split
  · exact (setWaiting_act _ _ _).trans act
  · exact act

theorem OnlyPersistent.of_onlyOn (h : OnlyPersistent s) {c : Chan} (o : OnlyOn c s t)
    (hc : ∀ d, t.chans[c].drive? = some d → d.persistent = true) (hq : t.queue = s.queue) (hh : t.held = []) :
    OnlyPersistent t := by
  obtain ⟨hd, hp, -⟩ := h
  refine ⟨fun c' d hd' => ?_, hq ▸ hp, hh⟩
  by_cases e : c' = c
  · subst e; exact hc d hd'
  · rw [(o c' e).1] at hd'
    exact hd c' d hd'

theorem Drains.unheld (d : Drains s t) (h : s.held = []) : t.held = [] :=
  List.eq_nil_iff_forall_not_mem.mpr fun k hk => by
    have := d.held k hk
    rw [h] at this
    cases this

theorem OnlyPersistent.granted (h : OnlyPersistent s) {e : Entry} (he : e ∈ s.queue) (d : Drains s t) (o : OnlyOn e.channel s t)
    (hq : t.queue = s.queue) (g : GrantedBy e s t) : OnlyPersistent t := by
  refine h.of_onlyOn o (fun x hx => ?_) hq (d.unheld h.2.2)
  rcases g with g | g
  · rw [g] at hx; exact h.1 e.channel x hx
  · exact (g x hx).trans (h.2.1 e he)

theorem keptByPasses_persistent : KeptByPasses OnlyPersistent where
  removed e x y s h he _ :=
    h.granted he ((Drains.refl s).removeAtPass e x y) ((OnlyOn.refl e.channel s).removeAtPass e x y) (removeAtPass_queue e x y s)
      (.inl (removeAtPass_drive e x y s))
  kick e n _ _ s h he _ _ _ :=
    h.granted he ((Drains.refl s).grantKick e n) ((OnlyOn.refl e.channel s).grantKick e n) (grantKick_queue e n s)
      (grantKick_granted e n s)
  hold e n _ _ b s h he _ _ _ :=
    h.granted he ((Drains.refl s).grantHold e n b) ((OnlyOn.refl e.channel s).grantHold e n b) (grantHold_queue e n b s)
      (grantHold_granted e n b s)
  join k s h hk _ := by rw [h.2.2] at hk; cases hk
  shrink l s h hl := ⟨h.1, h.2.1, ((Drains.refl s).setHeld hl).unheld h.2.2⟩
  stay q s h hq :=
    ⟨h.1, fun e he => by
      obtain ⟨e', he', w, rfl⟩ := hq e he
      exact h.2.1 e' he', h.2.2⟩
  mark _ _ h := h

theorem OnlyPersistent.arbitrate (h : OnlyPersistent s) : OnlyPersistent (arbitrate s) :=
  arbitrate_invariant keptByPasses_persistent h

theorem drive?_of_not_driven {x : Channel} (h : x.driven = false) : x.drive? = none := by
  cases ha : x.act with
  | kicking d k ends => rw [driven_of_kicking ha] at h; cases h
  | holding d e => rw [driven_of_holding ha] at h; cases h
  | _ => simp only [Channel.drive?, ha]

theorem driven_of_drive? {x : Channel} {d : Drive} (h : x.drive? = some d) : x.driven = true := by
  cases hd : x.driven
  · rw [drive?_of_not_driven hd] at h; cases h
  · rfl

/-- What goes on when every drive but those of persistent rules has been ended (R8). -/
theorem endDrives_persistent (keep : Bool) (s : State) (c : Chan) (d : Drive) (h : (endDrives keep s).chans[c].drive? = some d) :
    d.persistent = true := by
  revert d
  refine forChans_each (P := fun c t => ∀ d, t.chans[c].drive? = some d → d.persistent = true) (fun c s d hd => ?_)
    (fun c c' s hc hs d hd => ?_) s c
  · split at hd
    · rename_i hk
      obtain ⟨-, hp⟩ := Bool.and_eq_true_iff.mp hk
      rwa [hd, Option.any_some] at hp
    · rw [drive?_of_not_driven (endDrive_not_driven c s)] at hd
      cases hd
  · split at hd
    · exact hs d hd
    · rw [((OnlyOn.refl c' s).endDrive c hc.symm).1] at hd
      exact hs d hd

theorem reduceQueue_drive (s : State) (c : Chan) : (reduceQueue s).chans[c].drive? = s.chans[c].drive? := by
  refine drive?_congr ?_
  refine forChans_view (v := fun t => t.chans[c].act) (fun c' t => ?_) ((s.setQueue (s.queue.filter (·.persistent))).setHeld [])
  have kept : (setWaiting c' none t).chans[c].act = t.chans[c].act := by
    by_cases h : c = c'
    · subst h; exact setWaiting_act c none t
    · rw [setWaiting_chans, getElem_set_other _ _ h]
  split
  · rfl
  · exact kept

theorem enterChainLost_persistent (s : State) : OnlyPersistent (enterChainLost s) := by
  obtain ⟨hq, hh⟩ := reduceQueue_persistent (endDrives (persistentArmed s) (cancelAll (stopSilence (s.setNode { s.node with
    st := .chainLost, relay := persistentArmed s, settle := none }))))
  refine ⟨fun c d hd => ?_, hq, hh⟩
  rw [enterChainLost, reduceQueue_drive] at hd
  exact endDrives_persistent _ _ c d hd

theorem enterChainLost_frees (s : State) (k : TrainNo) : (enterChainLost s).trains[k] = none :=
  (((Drains.refl _).endDrives _).reduceQueue).keeps_free (cancelAll_frees _ k)

theorem standDown_frees (st : NodeState) (s : State) (k : TrainNo) : (standDown st s).trains[k] = none :=
  (((Drains.refl _).endDrives _).emptyQueue).keeps_free (cancelAll_frees _ k)

theorem beyondDrives_standDown (st : NodeState) (s : State) :
    (standDown st s).beyondDrives = (stopSilence (s.setNode { s.node with st := st, relay := false, settle := none })).beyondDrives := by
  simp [standDown]

theorem standDown_tables (st : NodeState) (s : State) : TablesKept s (standDown st s) :=
  (tablesKept_of_beyondDrives (beyondDrives_standDown st s) :)

theorem tablesKept_marked (h : TablesKept s t) (x : Latch) (m : Monitor) : TablesKept s (setLatch x (t.setMon m)) := h

theorem beyondDrives_enterChainLost (s : State) :
    (enterChainLost s).beyondDrives = (stopSilence (s.setNode { s.node with
      st := .chainLost, relay := persistentArmed s, settle := none })).beyondDrives := by
  simp [enterChainLost]

end

/-! ### The silence timer -/

theorem silenceExpiry_loses {s : State} {ends : Nat} (h : s.port.silence = some ends) :
    ∃ t, exec .silenceExpiry s = .next t ∧
      t.node = { s.node with st := .chainLost, settle := none,
                             relay := s.rules.toList.any fun r => r.persistent && s.armed.getLsbD r.group.val } ∧
      t.port.silence = none ∧ t.held = [] ∧ (∀ k : TrainNo, t.trains[k] = none) ∧ (∀ e ∈ t.queue, e.persistent = true) ∧
      (∀ (c : Chan) (d : Drive), t.chans[c].drive? = some d → d.persistent = true ∧ t.node.relay = true) ∧
      TablesKept s t ∧ t.armed = s.armed ∧ t.holdoffs = s.holdoffs ∧ t.now = max s.now ends := by
  have run : exec .silenceExpiry s = .next (arbitrate (enterChainLost (s.reach ends))) := by
    change Host.Outcome.next (silenceOver s) = _
    simp only [silenceOver, h]
  have beyond : (arbitrate (enterChainLost (s.reach ends))).beyondDrives = (stopSilence ((s.reach ends).setNode { s.node with
      st := .chainLost, relay := persistentArmed (s.reach ends), settle := none })).beyondDrives := by
    simp only [beyondDrives_arbitrate, beyondDrives_enterChainLost]
    rfl
  obtain ⟨drives, entries, held⟩ := (enterChainLost_persistent (s.reach ends)).arbitrate
  have cold := (cold_enterChainLost (s.reach ends)).arbitrate
  refine ⟨_, run, node_of_beyondDrives beyond, ?_, held, fun k => ?_, entries, fun c d hd => ⟨drives c d hd, ?_⟩,
    tablesKept_of_beyondDrives (s := stopSilence ((s.reach ends).setNode { s.node with
      st := .chainLost, relay := persistentArmed (s.reach ends), settle := none })) beyond,
    (armed_of_beyondDrives beyond :), (holdoffs_of_beyondDrives beyond :), (now_of_beyondDrives beyond :)⟩
  · rw [port_of_beyondDrives beyond]; rfl
  · exact ((Drains.refl _).arbitrate).keeps_free (enterChainLost_frees (s.reach ends) k)
  · by_contra hr
    have undriven := cold (Bool.not_eq_true _ ▸ hr) c
    rw [driven_of_drive? hd] at undriven
    cases undriven

/-! ### The settle timer -/

section
variable {s : State} {ends : Nat}

theorem settleExpiry_lives (h : s.node.settle = some ends) (hs : s.settings.supplyFloor ≤ s.mon.supply.toNat) :
    exec .settleExpiry s = .next { s with now := max s.now ends, node := { s.node with st := .live, settle := none } } := by
  have holds : supplyHolds (s.reach ends) = true := decide_eq_true hs
  change Host.Outcome.next (settleOver s) = _
  simp only [settleOver, h, if_pos holds]
  rfl

/-- The state a Supply trip leaves before the end of its event (R132, R168). -/
def tripped (s : State) : State :=
  setLatch .tripped ((standDown .tripped s).setMon { s.mon with
    tripCause := some .supply, tripChan := none, trips := min 255 (s.mon.trips + 1) })

theorem trip_supply (h : s.node.st ≠ .tripped) : trip .supply none s = tripped s := by
  have mon : (standDown .tripped s).mon = s.mon := (mon_of_beyondDrives (beyondDrives_standDown .tripped s) :)
  simp only [trip, if_neg h, mon, tripped, saturate]

theorem tripped_calm (s : State) : Calm (tripped s) := by
  have calm : Calm (standDown .tripped s) := by rw [standDown]; exact emptyQueue_calm _
  obtain ⟨hq, hh⟩ := calm
  exact ⟨hq, hh⟩

theorem settleExpiry_trips (h : s.node.settle = some ends) (ha : s.node.st = .arming)
    (hs : s.mon.supply.toNat < s.settings.supplyFloor) :
    ∃ t, exec .settleExpiry s = .next t ∧ t.node = { s.node with st := .tripped, relay := false, settle := none } ∧
      AllStopped t ∧ TablesKept s t ∧ t.latches.getLsbD 14 = true ∧
      t.mon = { s.mon with tripCause := some .supply, tripChan := none, trips := min 255 (s.mon.trips + 1) } := by
  have falls : ¬ supplyHolds (s.reach ends) = true := fun hd => absurd (of_decide_eq_true hd) (Nat.not_le.mpr hs)
  have notTripped : (s.reach ends).node.st ≠ .tripped := fun e => by
    have : s.node.st = .tripped := e
    rw [ha] at this
    cases this
  have run : exec .settleExpiry s = .next { tripped (s.reach ends) with passDue := false } := by
    change Host.Outcome.next (settleOver s) = _
    simp only [settleOver, h, if_neg falls]
    rw [arbitrate_eq_of_calm (trip_supply notTripped) (tripped_calm _)]
  have beyond := beyondDrives_standDown .tripped (s.reach ends)
  have node : (tripped (s.reach ends)).node = { s.node with st := .tripped, relay := false, settle := none } := by
    rw [tripped, setLatch_node, State.setMon_node]; exact node_of_beyondDrives beyond
  have port : (tripped (s.reach ends)).port.silence = none := by
    rw [tripped, setLatch_port, State.setMon_port, port_of_beyondDrives beyond]; rfl
  have tables : TablesKept (s.reach ends) (tripped (s.reach ends)) := by
    rw [tripped]; exact tablesKept_marked (standDown_tables .tripped _) _ _
  have mon : (tripped (s.reach ends)).mon = { s.mon with
      tripCause := some .supply, tripChan := none, trips := min 255 (s.mon.trips + 1) } := by
    rw [tripped, setLatch_mon, State.setMon_mon]; rfl
  have undriven : ∀ c : Chan, (tripped (s.reach ends)).chans[c].driven = false := by
    intro c; rw [tripped, setLatch_chans, State.setMon_chans]; exact standDown_not_driven .tripped _ c
  have free : ∀ k : TrainNo, (tripped (s.reach ends)).trains[k] = none := by
    intro k; rw [tripped, setLatch_trains, State.setMon_trains]; exact standDown_frees .tripped _ k
  have latched : (tripped (s.reach ends)).latches.getLsbD 14 = true := by
    have set : (latchMask .tripped).getLsbD 14 = true := rfl
    rw [tripped, setLatch_latches, BitVec.getLsbD_or, set, Bool.or_true]
  obtain ⟨hq, hh⟩ := tripped_calm (s.reach ends)
  generalize tripped (s.reach ends) = r at *
  exact ⟨_, run, node, ⟨congrArg Node.relay node, congrArg Node.settle node, port, hq, hh, undriven, free⟩, tables, latched, mon⟩

end

/-- Settles O43: the entry to CHAIN-LOST leaves persistent drives and entries alone, which every pass keeps; a Supply trip stands down. -/
theorem silenceAndSettleTimersExpire : Obligations.SilenceAndSettleTimersExpire := by
  unfold Obligations.SilenceAndSettleTimersExpire
  exact ⟨fun _ _ => silenceExpiry_loses, fun _ _ h ha => ⟨settleExpiry_lives h, settleExpiry_trips h ha⟩⟩

end Sys2Proof.Machine
end

section
/-! SUPPORT. The pass that a recovery timer's expiry makes: a waiting Flip, Pulse, StepPulse and Rekick (R13, R17, R30 to R32, R53 to R58, R94). -/

namespace Sys2Proof.Machine

set_option Elab.async false

/-! ### A walk does not read the queue -/

section
variable {q : List Entry}

theorem setLatchIf_setQueue (b : Bool) (x : Latch) (s : State) : setLatchIf b x (s.setQueue q) = (setLatchIf b x s).setQueue q := by
  cases b <;> rfl

theorem finalCharge_setQueue (c : Chan) (s : State) : finalCharge c (s.setQueue q) = (finalCharge c s).setQueue q := by
  have raised : ∀ x, raiseHeat c x (s.setQueue q) = (raiseHeat c x s).setQueue q := fun x => by
    rw [raiseHeat, raiseHeat, ← setLatchIf_setQueue]
    rfl
  have kicked : accrueKick c (s.setQueue q) = (accrueKick c s).setQueue q := by
    simp only [accrueKick]
    rw [apply_ite (State.setQueue q), ← raised]
    rfl
  have held : ∀ e, accrueHold c e (s.setQueue q) = (accrueHold c e s).setQueue q := fun e => by
    simp only [accrueHold]
    rw [apply_ite (State.setQueue q), ← raised]
    rfl
  have same : (s.setQueue q).chans[c].act = s.chans[c].act := rfl
  cases h : s.chans[c].act with
  | kicking d n ends =>
    simp only [finalCharge, same, h]
    rw [apply_ite (State.setQueue q), ← kicked]; rfl
  | holding d e =>
    simp only [finalCharge, same, h]
    rw [apply_ite (State.setQueue q), ← held]; rfl
  | _ => simp only [finalCharge, same, h]

theorem setAct_setQueue (c : Chan) (x : Activity) (s : State) : setAct c x (s.setQueue q) = (setAct c x s).setQueue q := by
  have same : (s.setQueue q).chans[c] = s.chans[c] := rfl
  simp only [setAct, same]
  split <;> rfl

theorem beginKick_setQueue (c : Chan) (kind : DriveKind) (e : Entry) (n : Nat) (s : State) :
    beginKick c kind e n (s.setQueue q) = (beginKick c kind e n s).setQueue q := by
  simp only [beginKick]
  exact congrArg (fun t : State => t.setGuard c { t.guards[c] with verdict := .noneYet }) (setAct_setQueue c _ s)

theorem trainGranted_setQueue (k : TrainNo) (s : State) : trainGranted k (s.setQueue q) = (trainGranted k s).setQueue q := by
  have same : (s.setQueue q).trains[k] = s.trains[k] := rfl
  cases h : s.trains[k] with
  | none => simp only [trainGranted, same, h]
  | some x => simp only [trainGranted, same, h]; rfl

theorem grantKick_setQueue (e : Entry) (n : Nat) (s : State) :
    grantKick e n (s.setQueue q) = (grantKick e n s).setQueue q := by
  have chan : (s.setQueue q).chans[e.channel] = s.chans[e.channel] := rfl
  have flipped : ∀ ctx, grantFlipKick e.channel ctx e n (s.setQueue q) = (grantFlipKick e.channel ctx e n s).setQueue q := fun ctx =>
    beginKick_setQueue _ _ _ _ (setWaiting e.channel none s)
  have again : ∀ ctx left limit, grantRekick e.channel ctx left limit e n (s.setQueue q) =
      (grantRekick e.channel ctx left limit e n s).setQueue q := fun ctx left limit => by
    simp only [grantRekick, finalCharge_setQueue, beginKick_setQueue]
  cases hk : e.kind with
  | flip =>
    simp only [grantKick, hk, chan]
    cases s.chans[e.channel].waiting with
    | none => rfl
    | some ctx => exact flipped ctx
  | rekick =>
    simp only [grantKick, hk, chan]
    cases s.chans[e.channel].act with
    | holding d heff =>
      obtain ⟨kind, _, _, _, _⟩ := d
      cases kind with
      | flip ctx left limit => exact again ctx left limit
      | _ => rfl
    | _ => rfl
  | pulse => simp only [grantKick, hk, beginKick_setQueue]
  | stepPulse =>
    simp only [grantKick, hk, beginKick_setQueue]
    cases e.source with
    | train k => exact trainGranted_setQueue k _
    | _ => rfl

theorem enterHold_setQueue (c : Chan) (d : Drive) (ctx : FlipContext) (left : Nat) (limit : Option Nat) (heff : Nat) (s : State) :
    enterHold c d ctx left limit heff (s.setQueue q) = (enterHold c d ctx left limit heff s).setQueue q := by
  simp only [enterHold]
  exact setAct_setQueue c _ (s.setHeat c { s.heat[c] with f := 0 })

theorem grantHold_setQueue (e : Entry) (n : Nat) (x : Bool) (s : State) :
    grantHold e n x (s.setQueue q) = (grantHold e n x s).setQueue q := by
  have chan : (s.setQueue q).chans[e.channel] = s.chans[e.channel] := rfl
  have held : ∀ ctx, grantFlipHold e.channel ctx e n (s.setQueue q) = (grantFlipHold e.channel ctx e n s).setQueue q := fun ctx => by
    simp only [grantFlipHold]
    exact enterHold_setQueue _ _ _ _ _ _ (setWaiting e.channel none s)
  simp only [grantHold, chan]
  cases s.chans[e.channel].waiting with
  | none => rfl
  | some ctx => simp only [held, setLatchIf_setQueue]

theorem removeAtPass_setQueue (e : Entry) (x y : Bool) (s : State) :
    removeAtPass e x y (s.setQueue q) = (removeAtPass e x y s).setQueue q := by
  simp only [removeAtPass, setLatchIf_setQueue]
  rw [apply_ite (State.setQueue q)]
  rfl

theorem walk_setQueue (es : List Entry) (s : State) :
    walk es (s.setQueue q) = ((walk es s).1, (walk es s).2.setQueue q) := by
  induction es generalizing s with
  | nil => rfl
  | cons e es ih =>
    have found : find (s.setQueue q) e = find s e := rfl
    simp only [walk, found]
    split
    · rw [ih]
    · rw [removeAtPass_setQueue, ih]
    · rw [grantKick_setQueue, ih, apply_ite Prod.fst, apply_ite Prod.snd]
      split <;> rfl
    · rw [grantHold_setQueue, ih, apply_ite Prod.fst, apply_ite Prod.snd]
      split <;> rfl

end

/-! ### The pass of a recovery timer's expiry -/

/-- The state before the pass: the clock has moved and the channel is IDLE. -/
def rested (c : Chan) (ends : Nat) (s : State) : State :=
  { s with now := max s.now ends, passDue := false, chans := s.chans.set c { s.chans[c] with act := .idle } }

section
variable {c : Chan} {e : Entry} {es : List Entry} {ends : Nat} {s : State}

theorem rested_idle (c : Chan) (ends : Nat) (s : State) : (rested c ends s).chans[c] = { s.chans[c] with act := .idle } :=
  getElem_set_same _ _ _

theorem rested_other {c' : Chan} (h : c' ≠ c) (ends : Nat) (s : State) : (rested c ends s).chans[c'] = s.chans[c'] :=
  getElem_set_other _ _ h

theorem recoveryExpiry_walks (ha : s.chans[c].act = .recovering ends) (hh : s.held = []) (hr : s.node.relay = true) :
    exec (.recoveryExpiry c) s = .next ((walk s.queue (rested c ends s)).2.setQueue (walk s.queue (rested c ends s)).1) := by
  change Host.Outcome.next (recoveryOver c s) = _
  rw [recoveryOver_of_recovering ha,
    arbitrate_walk (s := ((s.reach ends).setChan c { s.chans[c] with act := .idle }).callPass) hh rfl hr]
  rfl

theorem recoveryExpiry_cold (ha : s.chans[c].act = .recovering ends) (hh : s.held = []) (hr : s.node.relay = false) :
    exec (.recoveryExpiry c) s = .next (rested c ends s) := by
  have still : pass (rested c ends s) = rested c ends s := if_neg (by
    have : (rested c ends s).node.relay = false := hr
    rw [this]; decide)
  change Host.Outcome.next (recoveryOver c s) = _
  rw [recoveryOver_of_recovering ha,
    arbitrate_unheld (s := ((s.reach ends).setChan c { s.chans[c] with act := .idle }).callPass) hh rfl]
  exact congrArg _ still

/-- The pass goes on behind an entry that it finds ineligible (R56). -/
theorem recoveryExpiry_behind {w : Wait} (ha : s.chans[c].act = .recovering ends) (hq : s.queue = e :: es) (hh : s.held = [])
    (hr : s.node.relay = true) (hf : find (rested c ends s) e = .ineligible w) :
    ∃ t, exec (.recoveryExpiry c) { s with queue := es } = .next t ∧
      exec (.recoveryExpiry c) s = .next { t with queue := { e with wait := w } :: t.queue } := by
  refine ⟨_, recoveryExpiry_walks (s := { s with queue := es }) ha hh hr, ?_⟩
  have same : walk es (rested c ends s) = _ := walk_setQueue (q := s.queue) es (rested c ends { s with queue := es })
  rw [recoveryExpiry_walks ha hh hr, hq, walk_of_ineligible es hf, same]
  rfl

/-- The pass stops at an entry whose drive does not fit the budget (R58). -/
theorem recoveryExpiry_stops (ha : s.chans[c].act = .recovering ends) (hq : s.queue = e :: es) (hh : s.held = [])
    (hr : s.node.relay = true)
    (hf : walk (e :: es) (rested c ends s) =
      ({ e with wait := .budget } :: es.map ({ · with wait := .notReached }), rested c ends s)) :
    exec (.recoveryExpiry c) s = .next ((rested c ends s).setQueue
      ({ e with wait := .budget } :: es.map fun x => { x with wait := .notReached })) := by
  rw [recoveryExpiry_walks ha hh hr, hq, hf]

/-- The last entry of the queue leaves it. -/
theorem recoveryExpiry_empties {t : State} (ha : s.chans[c].act = .recovering ends) (hq : s.queue = [e]) (hh : s.held = [])
    (hr : s.node.relay = true) (hf : walk [e] (rested c ends s) = walk [] t) :
    exec (.recoveryExpiry c) s = .next (t.setQueue []) := by
  rw [recoveryExpiry_walks ha hh hr, hq, hf]
  rfl

end

/-! ### What a pass finds for a Flip and a Rekick (R13, R31, R57) -/

section
variable {e : Entry} {ctx : FlipContext} {s : State}

theorem eosClosed_iff : eosClosed s ctx = true ↔ ctx.mode ≠ .off ∧ ∃ i, ctx.eos = some i ∧ s.inputs[i].closed = true := by
  cases h : ctx.eos with
  | none => simp [eosClosed, h]
  | some i => simp [eosClosed, h, State.closed]

theorem find_flip (hk : e.kind = .flip) (ha : s.chans[e.channel].act = .idle) (hw : s.chans[e.channel].waiting = some ctx) :
    find s e = findFlip s e ctx := by
  simp only [find, hk, ha, hw]

theorem findHold_eq (c : Chan) (x : Bool) :
    findHold s c x = if dutyFor s s.coils[c] s.heat[c].q = 0 then .removed x true
      else .hold (dutyFor s s.coils[c] s.heat[c].q) (s.inUse + drawFor s.coils[c] (dutyFor s s.coils[c] s.heat[c].q))
        (budgetInForce s) x := by
  simp only [findHold, heffNow, heffAt_eq, drawFor_eq]

theorem findFlip_shut (h : eosClosed s ctx = true) :
    findFlip s e ctx = if s.coils[e.channel].h = 0 then .removed true false else findHold s e.channel true := by
  simp only [findFlip, if_pos h]

theorem findFlip_kick (h : ¬ eosClosed s ctx = true)
    (hk : s.coils[e.channel].kMin ≤ kickFor s.coils[e.channel] s.heat[e.channel].q e.kReq) :
    findFlip s e ctx = .kick (kickFor s.coils[e.channel] s.heat[e.channel].q e.kReq) (s.inUse + s.coils[e.channel].p)
      (budgetInForce s) := by
  simp only [findFlip, if_neg h]
  exact if_pos hk

theorem findFlip_weak (h : ¬ eosClosed s ctx = true)
    (hk : kickFor s.coils[e.channel] s.heat[e.channel].q e.kReq < s.coils[e.channel].kMin) :
    findFlip s e ctx = findHold s e.channel false := by
  have weak : findFlip s e ctx = if s.coils[e.channel].h = 0 then .removed false true else findHold s e.channel false := by
    simp only [findFlip, if_neg h]
    exact if_neg (Nat.not_le.mpr hk)
  rw [weak]
  split
  · rename_i hz
    rw [findHold_eq, if_pos (dutyFor_of_no_hold s _ hz)]
  · rfl

theorem find_rekick {d : Drive} {heff : Nat} (hk : e.kind = .rekick) (ha : s.chans[e.channel].act = .holding d heff) :
    find s e =
      if s.coils[e.channel].kMin ≤ kickFor s.coils[e.channel] s.heat[e.channel].q e.kReq then
        .kick (kickFor s.coils[e.channel] s.heat[e.channel].q e.kReq)
          (s.inUse - drawFor s.coils[e.channel] heff + s.coils[e.channel].p) (budgetInForce s)
      else .removed false false := by
  simp only [find, hk, ha]
  rfl

/-! ### Grants on an IDLE and on a HOLDING channel -/

theorem grantFlipKick_starts {c : Chan} (n : Nat) (h : s.chans[c].driven = false) :
    grantFlipKick c ctx e n s = { s with
      chans := s.chans.set c {
        act := .kicking
          { kind := .flip ctx ctx.allowance none, source := e.source, persistent := e.persistent, began := s.now, charged := 0 } n (s.after n)
        waiting := none }
      guards := s.guards.set c { s.guards[c] with verdict := .noneYet, shortRun := 0, leakRun := 0 }
      inUse := s.inUse + s.coils[c].p } := by
  have same : (setWaiting c none s).chans[c] = { s.chans[c] with waiting := none } := getElem_set_same _ _ _
  have still : (setWaiting c none s).chans[c].driven = false := by rw [same]; exact h
  rw [grantFlipKick, beginKick_starts still, same]
  simp [setWaiting, State.setChan, State.after]

theorem grantFlipHold_starts {c : Chan} (heff : Nat) (h : s.chans[c].driven = false) :
    grantFlipHold c ctx e heff s = { s with
      chans := s.chans.set c {
        act := .holding
          { kind := .flip ctx ctx.allowance (holdTimer s c none), source := e.source, persistent := e.persistent, began := s.now,
            charged := 0 } heff
        waiting := none }
      heat := s.heat.set c { s.heat[c] with f := 0 }
      guards := s.guards.set c { s.guards[c] with shortRun := 0, leakRun := 0 }
      inUse := s.inUse + drawFor s.coils[c] heff } := by
  have same : (setWaiting c none s).chans[c] = { s.chans[c] with waiting := none } := getElem_set_same _ _ _
  have still : ((setWaiting c none s).setHeat c { s.heat[c] with f := 0 }).chans[c].driven = false := by
    rw [State.setHeat_chans, same]; exact h
  refine (setAct_starts still (driven_of_holding rfl)).trans ?_
  rw [State.setHeat_chans, same]
  simp [setWaiting, State.setChan, State.setHeat, actDraw, drawFor_eq, holdTimer, State.after]
  rfl

theorem grantRekick_starts {c : Chan} {d : Drive} {heff left n : Nat} {limit : Option Nat} (h : s.chans[c].act = .holding d heff) :
    let t := grantRekick c ctx left limit e n s
    t.queue = s.queue ∧ t.inUse = s.inUse - drawFor s.coils[c] heff + s.coils[c].p ∧
      t.chans = s.chans.set c { s.chans[c] with
        act := .kicking { kind := .flip ctx (left - 1) limit, source := e.source, persistent := e.persistent, began := s.now,
                            charged := 0 } n (s.now + n * 1000) } ∧
      t.guards[c].verdict = .noneYet := by
  intro t
  have driven : (finalCharge c s).chans[c].driven = true := by rw [finalCharge_chans]; exact driven_of_holding h
  let x : Activity := .kicking
    { kind := .flip ctx (left - 1) limit, source := e.source, persistent := e.persistent, began := (finalCharge c s).now, charged := 0 }
    n ((finalCharge c s).after n)
  have begun := setAct_in_round (x := x) (.inl driven)
  have run : t = (setAct c x (finalCharge c s)).setGuard c { (setAct c x (finalCharge c s)).guards[c] with verdict := .noneYet } := rfl
  have draw : actDraw s.coils[c] s.chans[c].act = drawFor s.coils[c] heff := by rw [h]; rfl
  rw [run, begun]
  refine ⟨finalCharge_queue c s, ?_, ?_, ?_⟩
  · rw [← draw, State.setGuard_inUse]
    simp only [finalCharge_inUse, finalCharge_coils, finalCharge_chans]
    rfl
  · rw [State.setGuard_chans]
    simp only [x, finalCharge_chans, finalCharge_now, State.after]
    rfl
  · rw [State.setGuard_guards, getElem_set_same]

end

/-! ### A Flip that waits on the channel that has recovered -/

section
variable {c : Chan} {e : Entry} {es : List Entry} {ctx : FlipContext} {ends : Nat} {s : State}

theorem rested_find_flip (hk : e.kind = .flip) (hw : s.chans[e.channel].waiting = some ctx) :
    find (rested e.channel ends s) e = findFlip (rested e.channel ends s) e ctx := by
  refine find_flip hk ?_ ?_
  · rw [rested_idle]
  · rw [rested_idle]; exact hw

theorem rested_not_driven (c : Chan) (ends : Nat) (s : State) : (rested c ends s).chans[c].driven = false := by
  rw [rested_idle]; exact not_driven_of_idle rfl

theorem rested_set (c : Chan) (ends : Nat) (s : State) (x : Channel) : (rested c ends s).chans.set c x = s.chans.set c x := by
  simp [rested]

/-- Where a Flip stands that no budget admits, the channel keeps its context (R58). -/
theorem rested_eq (hw : s.chans[c].waiting = some ctx) :
    rested c ends s = { s with now := max s.now ends, passDue := false, chans := s.chans.set c { act := .idle, waiting := some ctx } } := by
  rw [rested, ← hw]

theorem grantKick_rested_flip (n : Nat) (hk : e.kind = .flip) (hw : s.chans[e.channel].waiting = some ctx) :
    grantKick e n (rested e.channel ends s) = { s with
      now := max s.now ends
      passDue := false
      chans := s.chans.set e.channel {
        act := .kicking
          { kind := .flip ctx ctx.allowance none, source := e.source, persistent := e.persistent, began := max s.now ends, charged := 0 }
          n (max s.now ends + n * 1000)
        waiting := none }
      guards := s.guards.set e.channel { s.guards[e.channel] with verdict := .noneYet, shortRun := 0, leakRun := 0 }
      inUse := s.inUse + s.coils[e.channel].p } := by
  have waits : (rested e.channel ends s).chans[e.channel].waiting = some ctx := by rw [rested_idle]; exact hw
  simp only [grantKick, hk, waits]
  rw [grantFlipKick_starts n (rested_not_driven _ _ _), rested_set]
  rfl

theorem grantHold_rested_flip (n : Nat) (x : Bool) (hw : s.chans[e.channel].waiting = some ctx) :
    grantHold e n x (rested e.channel ends s) = setLatchIf x .eosStuck { s with
      now := max s.now ends
      passDue := false
      chans := s.chans.set e.channel {
        act := .holding
          { kind := .flip ctx ctx.allowance
              (if s.coils[e.channel].holdLimit = 0 then none else some (max s.now ends + s.coils[e.channel].holdLimit * 1000)),
            source := e.source, persistent := e.persistent, began := max s.now ends, charged := 0 } n
        waiting := none }
      heat := s.heat.set e.channel { s.heat[e.channel] with f := 0 }
      guards := s.guards.set e.channel { s.guards[e.channel] with shortRun := 0, leakRun := 0 }
      inUse := s.inUse + drawFor s.coils[e.channel] n } := by
  have waits : (rested e.channel ends s).chans[e.channel].waiting = some ctx := by rw [rested_idle]; exact hw
  simp only [grantHold, waits]
  rw [grantFlipHold_starts n (rested_not_driven _ _ _), rested_set]
  rfl

theorem removeAtPass_rested_flip (x y : Bool) (hk : e.kind = .flip) :
    removeAtPass e x y (rested e.channel ends s) = setLatchIf y .heatCutoff (setLatchIf x .eosStuck { s with
      now := max s.now ends, passDue := false, chans := s.chans.set e.channel { act := .idle, waiting := none } }) := by
  have emptied : setWaiting e.channel none (rested e.channel ends s) = { s with
      now := max s.now ends, passDue := false, chans := s.chans.set e.channel { act := .idle, waiting := none } } := by
    rw [setWaiting, State.setChan, rested_idle, rested_set]
    rfl
  rw [← emptied]
  simp only [removeAtPass, if_pos hk]
  cases x <;> cases y <;> rfl

/-- The finding of a hold without a kick at a duty (R13, R31, R57). -/
def holdFinding (s : State) (c : Chan) (eosStuck : Bool) : Finding :=
  let duty := dutyFor s s.coils[c] s.heat[c].q
  if duty = 0 then .removed eosStuck true else .hold duty (s.inUse + drawFor s.coils[c] duty) (budgetInForce s) eosStuck

theorem holdFinding_zero (x : Bool) (h : dutyFor s s.coils[c] s.heat[c].q = 0) : holdFinding s c x = .removed x true := if_pos h

theorem holdFinding_pos (x : Bool) (h : 0 < dutyFor s s.coils[c] s.heat[c].q) :
    holdFinding s c x = .hold (dutyFor s s.coils[c] s.heat[c].q)
      (s.inUse + drawFor s.coils[c] (dutyFor s s.coils[c] s.heat[c].q)) (budgetInForce s) x :=
  if_neg (Nat.pos_iff_ne_zero.mp h)

section
variable (hk : e.kind = .flip) (hw : s.chans[e.channel].waiting = some ctx)
include hk hw

theorem find_rested_shut (hs : eosClosed s ctx = true) : find (rested e.channel ends s) e =
    if s.coils[e.channel].h = 0 then .removed true false else holdFinding s e.channel true :=
  (rested_find_flip hk hw).trans ((findFlip_shut hs).trans (congrArg _ (findHold_eq e.channel true)))

theorem find_rested_kick (hn : ¬ eosClosed s ctx = true)
    (hg : s.coils[e.channel].kMin ≤ kickFor s.coils[e.channel] s.heat[e.channel].q e.kReq) :
    find (rested e.channel ends s) e = .kick (kickFor s.coils[e.channel] s.heat[e.channel].q e.kReq)
      (s.inUse + s.coils[e.channel].p) (budgetInForce s) :=
  (rested_find_flip hk hw).trans (findFlip_kick hn hg)

theorem find_rested_weak (hn : ¬ eosClosed s ctx = true)
    (hg : kickFor s.coils[e.channel] s.heat[e.channel].q e.kReq < s.coils[e.channel].kMin) :
    find (rested e.channel ends s) e = holdFinding s e.channel false :=
  (rested_find_flip hk hw).trans ((findFlip_weak hn hg).trans (findHold_eq e.channel false))

/-- A Flip finds a hold where the end-of-stroke input is closed and the coil holds, or the account gives too little (R13, R31). -/
theorem find_rested_stuck (hs : eosClosed s ctx = true) (hd : 0 < s.coils[e.channel].h) :
    find (rested e.channel ends s) e = holdFinding s e.channel true :=
  (find_rested_shut hk hw hs).trans (if_neg (Nat.pos_iff_ne_zero.mp hd))

end

section
variable (ha : s.chans[e.channel].act = .recovering ends) (hh : s.held = []) (hr : s.node.relay = true)
include ha hh hr

/-- The Flip leaves without a drive, and its context with it (R57). -/
theorem flip_removed (hk : e.kind = .flip) (hq : s.queue = [e]) (x y : Bool) (h : find (rested e.channel ends s) e = .removed x y) :
    exec (.recoveryExpiry e.channel) s = .next (setLatchIf y .heatCutoff (setLatchIf x .eosStuck { s with
      now := max s.now ends, passDue := false, queue := [], chans := s.chans.set e.channel { act := .idle, waiting := none } })) := by
  rw [recoveryExpiry_empties ha hq hh hr (walk_of_removed [] h), removeAtPass_rested_flip x y hk]
  cases x <;> cases y <;> rfl

/-- The Flip is granted as a hold without a kick (R13). -/
theorem flip_held (hq : s.queue = [e]) (x : Bool)
    (h : find (rested e.channel ends s) e = holdFinding s e.channel x)
    (hd : 0 < dutyFor s s.coils[e.channel] s.heat[e.channel].q)
    (hb : s.inUse + drawFor s.coils[e.channel] (dutyFor s s.coils[e.channel] s.heat[e.channel].q) ≤ budgetInForce s) :
    exec (.recoveryExpiry e.channel) s = .next ((grantHold e (dutyFor s s.coils[e.channel] s.heat[e.channel].q) x
      (rested e.channel ends s)).setQueue []) :=
  recoveryExpiry_empties ha hq hh hr (walk_of_hold [] (h.trans (holdFinding_pos x hd)) hb)

/-- The Flip waits for the budget, and keeps its context (R58). -/
theorem flip_stopped (hq : s.queue = e :: es) (hw : s.chans[e.channel].waiting = some ctx)
    (h : walk (e :: es) (rested e.channel ends s) =
      ({ e with wait := .budget } :: es.map ({ · with wait := .notReached }), rested e.channel ends s)) :
    exec (.recoveryExpiry e.channel) s = .next { s with
      now := max s.now ends, passDue := false, chans := s.chans.set e.channel { act := .idle, waiting := some ctx },
      queue := { e with wait := .budget } :: es.map fun x => { x with wait := .notReached } } := by
  rw [recoveryExpiry_stops ha hq hh hr h, rested_eq hw]
  rfl

end

end

/-! ### A Pulse or StepPulse that waits on it -/

section
variable {e : Entry} {es : List Entry} {ends : Nat} {s : State}

theorem beginKick_rested (kind : DriveKind) (n : Nat) :
    beginKick e.channel kind e n (rested e.channel ends s) = { s with
      now := max s.now ends
      passDue := false
      chans := s.chans.set e.channel { s.chans[e.channel] with
        act := .kicking { kind := kind, source := e.source, persistent := e.persistent, began := max s.now ends, charged := 0 } n
          (max s.now ends + n * 1000) }
      guards := s.guards.set e.channel { s.guards[e.channel] with verdict := .noneYet, shortRun := 0, leakRun := 0 }
      inUse := s.inUse + s.coils[e.channel].p } := by
  rw [beginKick_starts (rested_not_driven _ _ _), rested_idle, rested_set]
  rfl

/-- The least kick that the heat test of a Pulse and of a StepPulse accepts (R30). -/
def leastKick (e : Entry) (k : Coil) : Nat := if e.kind = .pulse then min k.kMin e.kReq else e.kReq

theorem kickFor_le (k : Coil) (q asked : Nat) : kickFor k q asked ≤ asked := by
  rw [kickFor]; split
  · exact Nat.le_refl _
  · exact Nat.min_le_left _ _

theorem find_rested_pulse (hk : e.kind = .pulse ∨ e.kind = .stepPulse) :
    find (rested e.channel ends s) e =
      if leastKick e s.coils[e.channel] ≤ kickFor s.coils[e.channel] s.heat[e.channel].q e.kReq then
        .kick (kickFor s.coils[e.channel] s.heat[e.channel].q e.kReq) (s.inUse + s.coils[e.channel].p)
          (budgetInForce s - s.settings.reserve)
      else .ineligible .heatWait := by
  have idle : (rested e.channel ends s).chans[e.channel].act = .idle := by rw [rested_idle]
  rcases hk with hk | hk
  · rw [leastKick, if_pos hk]
    exact find_pulse hk idle
  · have full : kickFor s.coils[e.channel] s.heat[e.channel].q e.kReq = e.kReq ↔
        e.kReq ≤ kickFor s.coils[e.channel] s.heat[e.channel].q e.kReq :=
      ⟨fun h => h.ge, fun h => Nat.le_antisymm (kickFor_le _ _ _) h⟩
    have other : e.kind ≠ .pulse := fun h => nomatch hk.symm.trans h
    rw [leastKick, if_neg other]
    exact (find_stepPulse hk idle).trans (if_congr full rfl rfl)

theorem grantKick_rested_pulse (n : Nat) (hk : e.kind = .pulse) :
    grantKick e n (rested e.channel ends s) = beginKick e.channel .pulse e n (rested e.channel ends s) := by
  simp only [grantKick, hk]

theorem grantKick_rested_step {t₀ : TrainNo} {x : Train} (n : Nat) (hk : e.kind = .stepPulse) (hs : e.source = .train t₀)
    (hx : s.trains[t₀] = some x) :
    grantKick e n (rested e.channel ends s) = { beginKick e.channel .stepPulse e n (rested e.channel ends s) with
      trains := s.trains.set t₀ (some { x with
        state := .pulse, issued := x.issued + 1, inFlight := true,
        interval := some (max s.now ends + intervalFor x.profile (x.issued + 1) x.planned * 1000) }) } := by
  have issues : ∀ r : State, r.trains = s.trains → r.now = max s.now ends → trainGranted t₀ r = { r with
      trains := s.trains.set t₀ (some { x with
        state := .pulse, issued := x.issued + 1, inFlight := true,
        interval := some (max s.now ends + intervalFor x.profile (x.issued + 1) x.planned * 1000) }) } := by
    intro r ht hn
    have hx' : r.trains[t₀] = some x := by rw [ht]; exact hx
    simp only [trainGranted, hx', State.setTrain, State.after]
    rw [ht, hn]
    rfl
  simp only [grantKick, hk, hs]
  exact issues _ (by rw [beginKick_rested]) (by rw [beginKick_rested])

end

/-- Settles O48: the walk of the queue in the state the recovery leaves. -/
theorem passesGrantFlipsAndRekicks : Obligations.PassesGrantFlipsAndRekicks := by
  unfold Obligations.PassesGrantFlipsAndRekicks
  refine ⟨?_, ?_, ?_, ?_, ?_⟩
  · intro c e es ctx ends s ha hw hq hh hc _ hk hr k now shut given duty after drive holding stopped
    subst hc
    have isShut : eosClosed s ctx = true ↔ shut := eosClosed_iff
    have kicks (hn : ¬ shut) (hg : k.kMin ≤ given) := find_rested_kick (ends := ends) hk hw (mt isShut.mp hn) hg
    have weak (hn : ¬ shut) (hg : given < k.kMin) := find_rested_weak (ends := ends) hk hw (mt isShut.mp hn) hg
    have stuck (hs : shut) (hd : 0 < k.h) := find_rested_stuck (ends := ends) hk hw (isShut.mpr hs) hd
    have held (x : Bool) (he : es = []) (h : find (rested e.channel ends s) e = holdFinding s e.channel x) (hd : 0 < duty)
        (hb : s.inUse + drawFor k duty ≤ budgetInForce s) :
        exec (.recoveryExpiry e.channel) s = .next (setLatchIf x .eosStuck holding) := by
      subst he
      rw [flip_held ha hh hr hq x h hd hb, grantHold_rested_flip duty x hw]
      cases x <;> rfl
    refine ⟨fun he hn hg hb => ?_, fun hn hg hb => flip_stopped ha hh hr hq hw (walk_of_kick_over es (kicks hn hg) hb),
      fun he hs hz => ?_, fun he hs hz hd => ?_, fun he hn hg hd => ?_,
      fun he hs hd hb => held true he (stuck hs (hold_of_duty hd)) hd hb, fun he hn hg hd hb => held false he (weak hn hg) hd hb,
      fun hs hd hb => flip_stopped ha hh hr hq hw ?_⟩
    · subst he
      rw [recoveryExpiry_empties ha hq hh hr (walk_of_kick [] (kicks hn hg) hb), grantKick_rested_flip _ hk hw]
      rfl
    · subst he
      exact flip_removed ha hh hr hk hq true false ((find_rested_shut hk hw (isShut.mpr hs)).trans (if_pos hz))
    · subst he
      rw [flip_removed ha hh hr hk hq true true ((stuck hs hz).trans (holdFinding_zero true hd))]
      exact congrArg (fun l => Host.Outcome.next { after .idle [] none with latches := l }) (BitVec.or_assoc s.latches 0x80 0x10)
    · subst he
      exact flip_removed ha hh hr hk hq false true ((weak hn hg).trans (holdFinding_zero false hd))
    · by_cases hs' : shut
      · exact walk_of_hold_over es ((stuck hs' (hold_of_duty hd)).trans (holdFinding_pos true hd)) hb
      · exact walk_of_hold_over es ((weak hs' (hs.resolve_left hs')).trans (holdFinding_pos false hd)) hb
  · intro c e es ends s ha hq hh hc hk hr k now given least limit after kicked
    subst hc
    have found := find_rested_pulse (ends := ends) (s := s) hk
    refine ⟨fun hl => ?_, fun hl hb => ?_, fun he hl hb hp => ?_, fun t₀ x he hl hb hp hs hx => ?_⟩
    · exact recoveryExpiry_behind ha hq hh hr (found.trans (if_neg (Nat.not_le.mpr hl)))
    · exact recoveryExpiry_stops ha hq hh hr (walk_of_kick_over es (found.trans (if_pos hl)) hb)
    · subst he
      rw [recoveryExpiry_empties ha hq hh hr (walk_of_kick [] (found.trans (if_pos hl)) hb), grantKick_rested_pulse _ hp,
        beginKick_rested]
      rfl
    · subst he
      rw [recoveryExpiry_empties ha hq hh hr (walk_of_kick [] (found.trans (if_pos hl)) hb), grantKick_rested_step _ hp hs hx,
        beginKick_rested]
      rfl
  · intro c c' e es ends s hcc ha hq hh hc hr hb
    subst hc
    refine recoveryExpiry_behind ha hq hh hr (find_busy ?_)
    rw [rested_other hcc.symm]
    exact hb
  · exact fun c ends s ha hh hr => recoveryExpiry_cold ha hh hr
  · intro c c' e d heff ctx left ends limit s hcc ha hh' hd hq hh hc _ hk hr k now given raised resting
    subst hc
    have holds : (rested c' ends s).chans[e.channel] = s.chans[e.channel] := rested_other hcc.symm ends s
    have found := find_rekick (s := rested c' ends s) hk ((congrArg Channel.act holds).trans hh')
    refine ⟨fun hg hb => ?_, fun hg hb => ?_, fun hg => ?_⟩
    · have granted : grantKick e given (rested c' ends s) = grantRekick e.channel ctx left limit e given (rested c' ends s) := by
        obtain ⟨kind, _, _, _, _⟩ := d
        subst hd
        simp only [grantKick, hk, holds, hh']
      obtain ⟨-, budget, chans, verdict⟩ := grantRekick_starts (ctx := ctx) (e := e) (left := left) (n := given) (limit := limit)
        ((congrArg Channel.act holds).trans hh')
      refine ⟨(grantRekick e.channel ctx left limit e given (rested c' ends s)).setQueue [],
        recoveryExpiry_empties ha hq hh hr ((walk_of_kick [] (found.trans (if_pos hg)) hb).trans (congrArg (walk []) granted)), rfl,
        budget, ?_, verdict⟩
      rw [holds] at chans
      exact chans
    · rw [recoveryExpiry_stops ha hq hh hr (walk_of_kick_over [] (found.trans (if_pos hg)) hb)]
      rfl
    · rw [recoveryExpiry_empties ha hq hh hr (walk_of_removed [] (found.trans (if_neg (Nat.not_le.mpr hg))))]
      simp only [removeAtPass, hk]
      rfl

end Sys2Proof.Machine
end

section
/-! SUPPORT. The drive samples and the open verdict at a kick's end (R21, R126, R128, R129). -/

namespace Sys2Proof.Machine

set_option Elab.async false

/-! ### What settles no verdict leaves the strikes and OpenAlert alone -/

/-- A channel's strikes, and whether OpenAlert is set. -/
def State.openTally (c : Chan) (s : State) : Nat × Bool := (s.guards[c].strikes, s.latches.getLsbD 5)

section
variable (c : Chan) (s : State)

@[simp] theorem openTally_setTrain (k : TrainNo) (x : Option Train) : (s.setTrain k x).openTally c = s.openTally c := rfl
@[simp] theorem openTally_setUnit (u : UnitNo) (x : CounterUnit) : (s.setUnit u x).openTally c = s.openTally c := rfl
@[simp] theorem openTally_setBank (b : BankNo) (x : Bank) : (s.setBank b x).openTally c = s.openTally c := rfl
@[simp] theorem openTally_setQueue (q : List Entry) : (s.setQueue q).openTally c = s.openTally c := rfl
@[simp] theorem openTally_setHeld (l : List TrainNo) : (s.setHeld l).openTally c = s.openTally c := rfl
@[simp] theorem openTally_callPass : s.callPass.openTally c = s.openTally c := rfl
@[simp] theorem openTally_setChan (c' : Chan) (x : Channel) : (s.setChan c' x).openTally c = s.openTally c := rfl
@[simp] theorem openTally_setHeat (c' : Chan) (x : Heat) : (s.setHeat c' x).openTally c = s.openTally c := rfl
@[simp] theorem openTally_setWaiting (c' : Chan) (x : Option FlipContext) : (setWaiting c' x s).openTally c = s.openTally c := rfl

theorem latchMask_openAlert {x : Latch} (h : x ≠ .openAlert) : (latchMask x).getLsbD 5 = false := by
  cases x with
  | openAlert => exact absurd rfl h
  | _ => decide

theorem openTally_setLatch {x : Latch} (h : x ≠ .openAlert) : (setLatch x s).openTally c = s.openTally c := by
  simp only [State.openTally, setLatch, BitVec.getLsbD_or, latchMask_openAlert h, Bool.or_false]

theorem openTally_setLatchIf (b : Bool) {x : Latch} (h : x ≠ .openAlert) : (setLatchIf b x s).openTally c = s.openTally c := by
  cases b
  · rfl
  · exact openTally_setLatch c s h

/-- A record that keeps its strikes may change. -/
theorem openTally_setGuard {c' : Chan} {g : Guard} (h : g.strikes = s.guards[c'].strikes) :
    (s.setGuard c' g).openTally c = s.openTally c := by
  simp only [State.openTally, State.setGuard_latches, State.setGuard_guards]
  by_cases hc : c = c'
  · subst hc
    rw [getElem_set_same, h]
  · rw [getElem_set_other _ _ hc]

@[simp] theorem openTally_countDropped : (countDropped s).openTally c = s.openTally c := openTally_setLatch c _ (by decide)

/-! The queue. -/

@[simp] theorem openTally_submit (e : Entry) : (submit e s).2.openTally c = s.openTally c := by
  rcases submit_cases e s with ⟨-, h⟩ | ⟨-, -, h⟩ | ⟨k, -, -, -, h⟩ | ⟨-, -, -, h⟩ <;> simp [h]

@[simp] theorem openTally_joinHeld (k : TrainNo) : (joinHeld k s).openTally c = s.openTally c := by
  simp only [joinHeld]; split <;> simp

@[simp] theorem openTally_handOver : (handOver s).openTally c = s.openTally c :=
  handOver_invariant (P := fun t => t.openTally c = s.openTally c) (fun k t ht _ _ => (openTally_joinHeld c t k).trans ht)
    (fun _ _ ht _ => ht) rfl

@[simp] theorem openTally_withdraw (p : Entry → Bool) : (withdraw p s).openTally c = s.openTally c := by
  simp only [withdraw]; split <;> simp

/-! The trains and the units. -/

@[simp] theorem openTally_offer (k : TrainNo) : (offer k s).openTally c = s.openTally c := by
  simp only [offer]; split
  · rfl
  · rename_i x _
    have h := openTally_submit c s (stepEntry s k x)
    split <;> rename_i heq <;> rw [heq] at h <;> exact h

@[simp] theorem openTally_enterWait (k : TrainNo) (x : Train) : (enterWait k x s).openTally c = s.openTally c := by simp [enterWait]

@[simp] theorem openTally_trainGranted (k : TrainNo) : (trainGranted k s).openTally c = s.openTally c := by
  simp only [trainGranted]; split <;> rfl

@[simp] theorem openTally_trainKickEnd (c' : Chan) : (trainKickEnd c' s).openTally c = s.openTally c := by
  simp only [trainKickEnd]
  repeat' split
  all_goals rfl

@[simp] theorem openTally_takeBack (k : TrainNo) : (takeBack k s).openTally c = s.openTally c := by simp [takeBack]
@[simp] theorem openTally_freeTrain (k : TrainNo) : (freeTrain k s).openTally c = s.openTally c := by simp [freeTrain]

@[simp] theorem openTally_startUnit (k : TrainNo) (u : UnitNo) (d : Dir) (c' : Chan) (n : Nat) :
    (startUnit k u d c' n s).openTally c = s.openTally c := by
  simp only [startUnit]; split <;> simp

@[simp] theorem openTally_recordEnd (u : UnitNo) (x : Train) : (recordEnd u x s).openTally c = s.openTally c := by
  simp only [recordEnd]; split <;> rfl

@[simp] theorem openTally_startOpposite (u : UnitNo) (d : Dir) : (startOpposite u d s).openTally c = s.openTally c := by
  simp only [startOpposite]
  repeat' split
  all_goals simp

@[simp] theorem openTally_endTrain (k : TrainNo) : (endTrain k s).openTally c = s.openTally c := by
  simp only [endTrain]
  repeat' split
  all_goals simp

@[simp] theorem openTally_endAtIssued (k : TrainNo) : (endAtIssued k s).openTally c = s.openTally c := by
  simp only [endAtIssued]
  repeat' split
  all_goals simp

@[simp] theorem openTally_limitEnd (k : TrainNo) : (limitEnd k s).openTally c = s.openTally c := by
  simp only [limitEnd]
  repeat' split
  all_goals simp

@[simp] theorem openTally_setReel (b : BankNo) (r : Nat) (p : Option (Fin 10)) : (setReel b r p s).openTally c = s.openTally c := by
  simp only [setReel]; split <;> rfl

@[simp] theorem openTally_mismatch (b : BankNo) (r : Nat) : (mismatch b r s).openTally c = s.openTally c := by
  simp only [mismatch]
  rw [openTally_setLatch c _ (by decide)]
  split <;> simp

theorem openTally_extend {t : State} {k : TrainNo} {m : Nat} (h : extend k m s = some t) : t.openTally c = s.openTally c := by
  simp only [extend] at h
  repeat' split at h
  all_goals simp only [Option.some.injEq, reduceCtorEq] at h
  all_goals subst h; simp

@[simp] theorem openTally_carry (b : BankNo) (r : Nat) : (carry b r s).openTally c = s.openTally c := by
  simp only [carry]; split
  · split
    · rename_i k _ _
      cases h : extend k 1 s with
      | none => exact openTally_mismatch c s b (r + 1)
      | some t => exact openTally_extend c s h
    · rfl
  · exact openTally_setLatch c _ (by decide)

@[simp] theorem openTally_reelKickEnd (b : BankNo) (r : Nat) (done : Bool) : (reelKickEnd b r done s).openTally c = s.openTally c := by
  simp only [reelKickEnd]
  repeat' split
  all_goals simp

@[simp] theorem openTally_unitsKickEnd (c' : Chan) (done : Bool) : (unitsKickEnd c' done s).openTally c = s.openTally c := by
  simp only [unitsKickEnd, unitKickEnd]
  repeat' split
  all_goals simp

@[simp] theorem openTally_reportKick (c' : Chan) (done step : Bool) : (reportKick c' done step s).openTally c = s.openTally c := by
  simp only [reportKick]; split <;> simp

@[simp] theorem openTally_freeBank (b : BankNo) : (freeBank b s).openTally c = s.openTally c :=
  foldl_view (v := State.openTally c) (fun s k => openTally_freeTrain c s k) _ s

@[simp] theorem openTally_testAfterKick (c' : Chan) (step : Bool) : (testAfterKick c' step s).openTally c = s.openTally c := by
  simp only [testAfterKick, bankTestOn, bankTest]
  repeat' split
  all_goals simp

/-! The channels. -/

@[simp] theorem openTally_raiseHeat (c' : Chan) (x : Heat) : (raiseHeat c' x s).openTally c = s.openTally c :=
  openTally_setLatchIf c _ _ (by decide)

@[simp] theorem openTally_finalCharge (c' : Chan) : (finalCharge c' s).openTally c = s.openTally c := by
  simp only [finalCharge, accrueKick, accrueHold]
  repeat' split
  all_goals simp

@[simp] theorem openTally_setAct (c' : Chan) (x : Activity) : (setAct c' x s).openTally c = s.openTally c := by
  simp only [setAct]; split
  · exact openTally_setGuard c { s with inUse := s.inUse - actDraw s.coils[c'] s.chans[c'].act + actDraw s.coils[c'] x } rfl
  · rfl

@[simp] theorem openTally_enterRecovery (c' : Chan) : (enterRecovery c' s).openTally c = s.openTally c := by
  simp only [enterRecovery, becomeIdle]; split <;> simp

@[simp] theorem openTally_enterHold (c' : Chan) (d : Drive) (x : FlipContext) (n : Nat) (l : Option Nat) (e : Nat) :
    (enterHold c' d x n l e s).openTally c = s.openTally c := openTally_setAct c _ c' _

@[simp] theorem openTally_afterKick (c' : Chan) (done : Bool) (d : Drive) : (afterKick c' done d s).openTally c = s.openTally c := by
  simp only [afterKick, holdAfterKick]
  repeat' split
  all_goals simp [openTally_setLatch]

@[simp] theorem openTally_beginKick (c' : Chan) (kind : DriveKind) (e : Entry) (n : Nat) :
    (beginKick c' kind e n s).openTally c = s.openTally c := by
  simp only [beginKick]
  refine Eq.trans (openTally_setGuard c _ ?_) (openTally_setAct c s c' _)
  rfl

theorem keptByPasses_openTally (x : Nat × Bool) : KeptByPasses fun t => t.openTally c = x where
  removed e a b s h _ _ := by
    have latched : (setLatchIf b .heatCutoff (setLatchIf a .eosStuck s)).openTally c = x := by
      rw [openTally_setLatchIf c _ b (by decide), openTally_setLatchIf c _ a (by decide)]; exact h
    simp only [removeAtPass]; split <;> exact latched
  kick e n _ _ s h _ _ _ _ := by
    simp only [grantKick]
    repeat' split
    all_goals simp [grantFlipKick, grantRekick, h]
  hold e n _ _ a s h _ _ _ _ := by
    simp only [grantHold]; split
    · rw [openTally_setLatchIf c _ a (by decide), grantFlipHold, openTally_enterHold]; exact h
    · exact h
  join k s h _ _ := (openTally_joinHeld c s k).trans h
  shrink _ _ h _ := h
  stay _ _ h _ := h
  mark _ _ h := h

@[simp] theorem openTally_arbitrate : (arbitrate s).openTally c = s.openTally c :=
  arbitrate_invariant (keptByPasses_openTally c (s.openTally c)) rfl

end

/-! ### Whose turn it is (R126) -/

theorem find?_finRange_eq_some {n : Nat} {p : Fin n → Bool} {c : Fin n} :
    (List.finRange n).find? p = some c ↔ p c = true ∧ ∀ c', c' < c → p c' = false := by
  rw [List.find?_eq_some_iff_getElem]
  simp only [List.getElem_finRange, List.length_finRange, Bool.not_eq_true']
  constructor
  · rintro ⟨hp, i, hi, rfl, hj⟩
    exact ⟨hp, fun c' hc => hj c'.val hc⟩
  · rintro ⟨hp, hj⟩
    exact ⟨hp, c.val, c.isLt, rfl, fun j hjc => hj ⟨j, hjc.trans c.isLt⟩ hjc⟩

theorem find?_finRange_eq_none {n : Nat} {p : Fin n → Bool} : (List.finRange n).find? p = none ↔ ∀ c, p c = false := by
  simp [List.find?_eq_none]

/-- The turn goes to the lowest driven channel above the one sampled last, else to the lowest driven one. -/
theorem nextDriven_eq (s : State) :
    nextDriven s = ((s.mon.lastDriven.bind fun last => (List.finRange 24).find? fun c => s.chans[c].driven && decide (last < c)).or
      ((List.finRange 24).find? fun c => s.chans[c].driven)) := by
  simp only [nextDriven, List.head?_filter, List.find?_filter]
  cases s.mon.lastDriven with
  | none => rfl
  | some last =>
    simp only [Option.bind_some, Fin.lt_def, Bool.decide_and, Bool.decide_eq_true]
    cases (List.finRange 24).find? fun c => s.chans[c].driven && decide (last.val < c.val) <;> rfl

theorem nextDriven_iff (c : Chan) (s : State) : nextDriven s = some c ↔
    s.chans[c].driven = true ∧
    ((∃ last : Chan, s.mon.lastDriven = some last ∧ last < c ∧ ∀ c' : Chan, last < c' → c' < c → s.chans[c'].driven = false) ∨
     ((∀ last : Chan, s.mon.lastDriven = some last → ∀ c' : Chan, last < c' → s.chans[c'].driven = false) ∧
      ∀ c' : Chan, c' < c → s.chans[c'].driven = false)) := by
  rw [nextDriven_eq, Option.or_eq_some_iff]
  cases s.mon.lastDriven with
  | none => simp [find?_finRange_eq_some]
  | some last =>
    simp only [Option.bind_some, find?_finRange_eq_some, find?_finRange_eq_none, Bool.and_eq_true, Bool.and_eq_false_imp,
      decide_eq_true_eq, decide_eq_false_iff_not, Option.some.injEq]
    constructor
    · rintro (⟨⟨hd, hl⟩, hb⟩ | ⟨ha, hd, hb⟩)
      · exact ⟨hd, .inl ⟨last, rfl, hl, fun c' h₁ h₂ => Bool.eq_false_iff.mpr fun h => hb c' h₂ h h₁⟩⟩
      · exact ⟨hd, .inr ⟨fun _ e c' hc => Bool.eq_false_iff.mpr fun h => ha c' h (e ▸ hc), hb⟩⟩
    · rintro ⟨hd, ⟨_, rfl, hl, hb⟩ | ⟨ha, hb⟩⟩
      · exact .inl ⟨⟨hd, hl⟩, fun c' h₂ h h₁ => Bool.eq_false_iff.mp (hb c' h₁ h₂) h⟩
      · exact .inr ⟨fun c' h hc => Bool.eq_false_iff.mp (ha last rfl c' hc) h, hd, hb⟩

/-! ### The sample -/

/-- The open verdict after a drive sample (R128). -/
def verdictAfter (s : State) (c : Chan) (reading : Byte) : Verdict :=
  match s.chans[c].act with
  | .kicking d _ _ =>
    if s.coils[c].openFloor = 0 ∨ s.now ≤ d.began + 2 * Config.msTime then s.guards[c].verdict
    else if s.coils[c].openFloor ≤ reading.toNat ∨ s.guards[c].verdict = .good then .good else .openSoFar
  | _ => s.guards[c].verdict

section
variable {c : Chan} {v : Byte} {s : State}

theorem setGuard_self (c : Chan) (s : State) : s.setGuard c s.guards[c] = s := by
  rw [State.setGuard, set_self]

theorem openTest_eq (c : Chan) (v : Byte) (s : State) :
    openTest c v s = s.setGuard c { s.guards[c] with verdict := verdictAfter s c v } := by
  cases ha : s.chans[c].act with
  | kicking d k ends =>
    by_cases hu : s.coils[c].openFloor = 0 ∨ s.now ≤ d.began + 2 * Config.msTime
    · simp only [openTest, verdictAfter, ha, if_pos hu]
      exact (setGuard_self c s).symm
    · simp only [openTest, verdictAfter, ha, if_neg hu]
      by_cases hf : s.coils[c].openFloor ≤ v.toNat
      · rw [if_neg (Nat.not_lt.mpr hf), if_pos (.inl hf)]
      · simp only [if_pos (Nat.not_le.mp hf), hf, false_or]
  | _ => simp only [openTest, verdictAfter, ha]; exact (setGuard_self c s).symm

/-- The state a drive sample is taken in: the turn has come (R126). -/
theorem takeTurn_eq (c : Chan) (s : State) :
    let at_ := max s.clocks.driven ((s.now + 49) / 50 * 50)
    takeTurn c s = { s with
      now := at_, clocks := { s.clocks with driven := at_ + 50 }, mon := { s.mon with lastDriven := some c } } := by
  intro at_
  have reached : max s.now at_ = at_ := Nat.max_eq_right (le_max_of_le_right (by omega))
  have moment : drivenTime s = at_ := rfl
  simp only [takeTurn, moment, State.reach, reached]
  rfl

theorem shortRunAfter_low (h : v.toNat ≤ s.coils[c].shortCeiling ∨ s.guards[c].shortRun = 0) :
    shortRunAfter s c v = if s.coils[c].shortCeiling < v.toNat then 1 else 0 := by
  rw [shortRunAfter]
  split
  · rename_i hv
    rw [h.resolve_left (Nat.not_le.mpr hv)]
    rfl
  · rfl

theorem shortRunAfter_ne_two (h : v.toNat ≤ s.coils[c].shortCeiling ∨ s.guards[c].shortRun = 0) : shortRunAfter s c v ≠ 2 := by
  rw [shortRunAfter_low h]
  split <;> decide

theorem shortRunAfter_high (h : s.guards[c].shortRun = 1) (hv : s.coils[c].shortCeiling < v.toNat) : shortRunAfter s c v = 2 := by
  rw [shortRunAfter, if_pos hv, h]; rfl

/-- What a drive sample does to the record before it locks: the verdict and the short run. -/
theorem takeDriveSample_eq (h : nextDriven s = some c) :
    let at_ := max s.clocks.driven ((s.now + 49) / 50 * 50)
    ∃ x : Verdict, x = verdictAfter (takeTurn c s) c v ∧
      takeDriveSample v s = arbitrate (let t := { s with
          now := at_, clocks := { s.clocks with driven := at_ + 50 }, mon := { s.mon with lastDriven := some c }
          guards := s.guards.set c { s.guards[c] with shortRun := shortRunAfter s c v, verdict := x } }
        if shortRunAfter s c v = 2 then lockChannel c .shorted t else t) := by
  intro at_
  refine ⟨_, rfl, ?_⟩
  have run : shortRunAfter (openTest c v (takeTurn c s)) c v = shortRunAfter s c v := by
    rw [openTest_eq, takeTurn_eq, shortRunAfter, State.setGuard_guards, getElem_set_same]
    rfl
  have record : (openTest c v (takeTurn c s)).setGuard c { (openTest c v (takeTurn c s)).guards[c] with
      shortRun := shortRunAfter s c v } = { s with
        now := at_, clocks := { s.clocks with driven := at_ + 50 }, mon := { s.mon with lastDriven := some c }
        guards := s.guards.set c { s.guards[c] with shortRun := shortRunAfter s c v, verdict := verdictAfter (takeTurn c s) c v } } := by
    rw [openTest_eq, State.setGuard_guards, getElem_set_same]
    simp [State.setGuard, takeTurn_eq]
    rfl
  simp only [takeDriveSample, h, shortTest, run, record]

theorem verdictAfter_kicking {d : Drive} {n ends : Nat} (ha : s.chans[c].act = .kicking d n ends) (ho : s.coils[c].openFloor ≠ 0)
    (hn : d.began + 2000 < s.now) :
    verdictAfter s c v = if s.coils[c].openFloor ≤ v.toNat ∨ s.guards[c].verdict = .good then .good else .openSoFar := by
  simp only [verdictAfter, ha]
  exact if_neg (not_or.mpr ⟨ho, Nat.not_le.mpr hn⟩)

theorem verdictAfter_kept
    (h : ∀ (d : Drive) (n ends : Nat), s.chans[c].act = .kicking d n ends → s.coils[c].openFloor = 0 ∨ s.now ≤ d.began + 2000) :
    verdictAfter s c v = s.guards[c].verdict := by
  cases ha : s.chans[c].act with
  | kicking d n ends =>
    simp only [verdictAfter, ha]
    exact if_pos (h d n ends ha)
  | _ => simp only [verdictAfter, ha]

theorem driven_of_nextDriven (h : nextDriven s = some c) : s.chans[c].driven = true := by
  obtain ⟨hd, -⟩ := (nextDriven_iff c s).mp h
  exact hd

theorem not_locked_of_driven (h : s.chans[c].driven = true) : s.chans[c].isLocked = false := by
  refine isLocked_eq_false_iff.mpr fun hl => ?_
  rw [not_driven_of_locked hl] at h
  cases h

theorem takeTurn_now (c : Chan) (s : State) : (takeTurn c s).now = max s.clocks.driven ((s.now + 49) / 50 * 50) := by
  rw [takeTurn_eq]

/-- A drive sample that does not lock (R128, R129). -/
theorem driveSample_low (h : nextDriven s = some c) (hp : s.passDue = false)
    (hv : v.toNat ≤ s.coils[c].shortCeiling ∨ s.guards[c].shortRun = 0) :
    let at_ := max s.clocks.driven ((s.now + 49) / 50 * 50)
    exec (.driveSample v) s = .next { s with
      now := at_, clocks := { s.clocks with driven := at_ + 50 }, mon := { s.mon with lastDriven := some c }
      guards := s.guards.set c { s.guards[c] with
        shortRun := if s.coils[c].shortCeiling < v.toNat then 1 else 0, verdict := verdictAfter (takeTurn c s) c v } } := by
  intro at_
  obtain ⟨x, hx, run⟩ := takeDriveSample_eq (v := v) h
  rw [if_neg (shortRunAfter_ne_two hv), shortRunAfter_low hv, hx] at run
  change Host.Outcome.next (takeDriveSample v s) = _
  rw [run]
  exact congrArg _ (arbitrate_of_not_due hp)

/-- The second high drive sample in a row locks (R129). -/
theorem takeDriveSample_locks (h : nextDriven s = some c) (hr : s.guards[c].shortRun = 1) (hv : s.coils[c].shortCeiling < v.toNat) :
    (takeDriveSample v s).chans[c].act = .locked ∧
    (takeDriveSample v s).guards[c] = { strikes := s.guards[c].strikes, verdict := .noneYet, shortRun := 2,
                                        leakRun := s.guards[c].leakRun, cause := some .shorted } ∧
    (takeDriveSample v s).latches.getLsbD 6 = true ∧
    (takeDriveSample v s).now = max s.clocks.driven ((s.now + 49) / 50 * 50) := by
  obtain ⟨x, -, run⟩ := takeDriveSample_eq (v := v) h
  rw [if_pos (shortRunAfter_high hr hv), shortRunAfter_high hr hv] at run
  rw [run]
  generalize ht : ({ s with
    now := max s.clocks.driven ((s.now + 49) / 50 * 50)
    clocks := { s.clocks with driven := max s.clocks.driven ((s.now + 49) / 50 * 50) + 50 }
    mon := { s.mon with lastDriven := some c }
    guards := s.guards.set c { s.guards[c] with shortRun := 2, verdict := x } } : State) = t
  have chans : t.chans = s.chans := by rw [← ht]
  have record : t.guards[c] = { s.guards[c] with shortRun := 2, verdict := x } := by rw [← ht]; exact getElem_set_same _ _ _
  have moment : t.now = max s.clocks.driven ((s.now + 49) / 50 * 50) := by rw [← ht]
  obtain ⟨locked, guard, latch⟩ := locked_to_the_end (c := c) (s := t) .shorted (by
    rw [chans]; exact not_locked_of_driven (driven_of_nextDriven h))
  refine ⟨by rw [locked], ?_, latch, ?_⟩
  · rw [guard, record]
  · have beyond : (arbitrate (lockChannel c .shorted t)).beyondDrives = t.beyondDrives := by simp
    rw [now_of_beyondDrives beyond, moment]

end

/-! ### The verdict at a kick's end (R128) -/

/-- The state at a kick's end in which the verdict is settled. -/
def kickReported (c : Chan) (d : Drive) (s : State) : State :=
  reportKick c true d.isStep (afterKick c true d (finalCharge c s).callPass)

section
variable {c : Chan} {d : Drive} {n ends : Nat} {s : State}

/-- The channel's next state is a recovery, after a cutoff or not, or a hold (R5, R14). -/
theorem afterKick_cases {P : State → Prop} (done : Bool) (rests : P (enterRecovery c s))
    (cut : P (enterRecovery c (setLatch .heatCutoff s)))
    (holds : ∀ ctx left limit e, P (enterHold c d ctx left limit e s)) : P (afterKick c done d s) := by
  cases hk : d.kind with
  | flip ctx left limit =>
    simp only [afterKick, hk, holdAfterKick]
    repeat' split
    · exact cut
    · exact holds _ _ _ _
    · exact rests
  | _ => simpa only [afterKick, hk] using rests

theorem afterKick_guards (done : Bool) (h : s.chans[c].driven = true) : (afterKick c done d s).guards = s.guards := by
  have acts : ∀ (x : Activity) (t : State), t.chans = s.chans → (setAct c x t).guards = t.guards := fun x t ht => by
    rw [setAct_guards, ht, h]
    rfl
  have rests : ∀ t : State, t.chans = s.chans → (enterRecovery c t).guards = t.guards := fun t ht => by
    simp only [enterRecovery, becomeIdle]
    split
    · exact acts _ t ht
    · exact acts _ t ht
  exact afterKick_cases (P := fun t => t.guards = s.guards) done (rests s rfl) (rests (setLatch .heatCutoff s) rfl)
    fun _ _ _ _ => acts _ _ rfl

theorem afterKick_not_locked (done : Bool) : (afterKick c done d s).chans[c].isLocked = false := by
  have rests : ∀ t : State, (enterRecovery c t).chans[c].isLocked = false := fun t => by
    rw [enterRecovery_chans, getElem_set_same, isLocked_eq_false_iff]
    simp only [restOf]
    split <;> exact fun h => nomatch h
  refine afterKick_cases (P := fun t => t.chans[c].isLocked = false) done (rests _) (rests _) fun ctx left limit e => ?_
  rw [enterHold_chans, getElem_set_same, isLocked_eq_false_iff]
  exact fun h => nomatch h

theorem kickReported_guards (ha : s.chans[c].act = .kicking d n ends) : (kickReported c d s).guards = s.guards := by
  have driven : (finalCharge c s).callPass.chans[c].driven = true := by
    rw [State.callPass_chans, finalCharge_chans]; exact driven_of_kicking ha
  have reported : (kickReported c d s).guards = (afterKick c true d (finalCharge c s).callPass).guards :=
    guards_of_beyondTrains (by simp [kickReported])
  rw [reported, afterKick_guards true driven, State.callPass_guards, finalCharge_guards]

theorem kickReported_not_locked : (kickReported c d s).chans[c].isLocked = false := by
  rw [kickReported, reportKick_chans]
  exact afterKick_not_locked true

theorem kickReported_coils : (kickReported c d s).coils = s.coils := by
  refine coils_of_beyondDrives ?_
  rw [kickReported, beyondDrives_of_beyondTrains (beyondTrains_reportKick _ _ _ _), (kept_afterKick c true d _).beyondDrives]
  simp

theorem kickReported_openTally : (kickReported c d s).openTally c = s.openTally c := by simp [kickReported]

theorem kickOver_of_kicking (ha : s.chans[c].act = .kicking d n ends) :
    kickOver c s = arbitrate (testAfterKick c d.isStep (settleVerdict c (kickReported c d (s.reach ends)))) := by
  have kicking : (s.reach ends).chans[c].act = .kicking d n ends := ha
  simp only [kickOver, ha, endKick_of_kicking true kicking]
  rfl

/-- A channel that the third open kick locks, to the end of its event. -/
theorem locked_after_test (cause : LockCause) (step : Bool) (h : s.chans[c].isLocked = false) :
    (arbitrate (testAfterKick c step (lockChannel c cause s))).chans[c].act = .locked ∧
    (arbitrate (testAfterKick c step (lockChannel c cause s))).guards[c] =
      { s.guards[c] with verdict := .noneYet, cause := some cause } ∧
    (arbitrate (testAfterKick c step (lockChannel c cause s))).latches.getLsbD 6 = true := by
  have act := lockChannel_act c s cause
  have start := bystander_of_busy (c := c) (s := lockChannel c cause s) (by rw [act]; exact fun e => nomatch e)
    (by rw [Channel.isHolding, act])
  have tested := beyondTrains_testAfterKick (lockChannel c cause s) c step
  have drained := (Drains.refl (lockChannel c cause s)).testAfterKick c step
  have still := (start.of_drains drained (by rw [chans_of_beyondTrains tested]) (by rw [heat_of_beyondTrains tested])
    (by rw [guards_of_beyondTrains tested])).arbitrate
  refine ⟨by rw [still.chan, act], still.guard.trans (lockChannel_guard cause h), ?_⟩
  refine (drained.arbitrate).latches 6 ?_
  rw [lockChannel_of_free cause h]
  simp [markLocked, latchMask, latchBit]

/-- A kick's end whose settling leaves these strikes and this OpenAlert ends its event with them. -/
theorem kickTimerExpiry_tally (ha : s.chans[c].act = .kicking d n ends) {k : Nat} {b : Bool}
    (h : (settleVerdict c (kickReported c d (s.reach ends))).openTally c = (k, b)) :
    ∃ t, exec (.kickTimerExpiry c) s = .next t ∧ t.guards[c].strikes = k ∧ t.latches.getLsbD 5 = b := by
  have run : exec (.kickTimerExpiry c) s = .next (kickOver c s) := rfl
  have tally : (kickOver c s).openTally c = (k, b) := by
    rw [kickOver_of_kicking ha, openTally_arbitrate, openTally_testAfterKick, h]
  exact ⟨_, run, congrArg Prod.fst tally, congrArg Prod.snd tally⟩

theorem openTally_setGuard_same (c : Chan) (g : Guard) (s : State) : (s.setGuard c g).openTally c = (g.strikes, s.latches.getLsbD 5) := by
  rw [State.openTally, State.setGuard_guards, getElem_set_same, State.setGuard_latches]

theorem settleVerdict_tally_noneYet (ho : s.coils[c].openFloor ≠ 0) (hv : s.guards[c].verdict = .noneYet) :
    (settleVerdict c s).openTally c = (s.guards[c].strikes, s.latches.getLsbD 5) := by
  rw [settleVerdict_noneYet c ho hv]; rfl

theorem settleVerdict_tally_good (ho : s.coils[c].openFloor ≠ 0) (hv : s.guards[c].verdict = .good) :
    (settleVerdict c s).openTally c = (0, s.latches.getLsbD 5) := by
  rw [settleVerdict_good c ho hv, openTally_setGuard_same]

/-- The first open kick sets OpenAlert, the second does not (R128). -/
theorem settleVerdict_tally_open (ho : s.coils[c].openFloor ≠ 0) (hv : s.guards[c].verdict = .openSoFar)
    (hs : s.guards[c].strikes < 2) :
    (settleVerdict c s).openTally c =
      (s.guards[c].strikes + 1, s.latches.getLsbD 5 || decide (s.guards[c].strikes + 1 = 1)) := by
  have count : min 3 (s.guards[c].strikes + 1) = s.guards[c].strikes + 1 := Nat.min_eq_right (by omega)
  have tally : (struck c s).openTally c = (s.guards[c].strikes + 1, s.latches.getLsbD 5) := by
    rw [struck, openTally_setGuard_same, count]
  rw [settleVerdict_open c ho hv, count, if_neg (by omega)]
  split
  · rename_i h
    have first : (setLatch .openAlert (struck c s)).latches.getLsbD 5 = true := by simp [latchMask, latchBit]
    rw [decide_eq_true h, Bool.or_true]
    have strikes : (struck c s).guards[c].strikes = s.guards[c].strikes + 1 := congrArg Prod.fst tally
    exact Prod.ext strikes first
  · rename_i h
    rw [decide_eq_false h, Bool.or_false, tally]

/-- The third open kick locks (R128). -/
theorem kickOver_locks (ha : s.chans[c].act = .kicking d n ends) (ho : s.coils[c].openFloor ≠ 0)
    (hv : s.guards[c].verdict = .openSoFar) (hs : 2 ≤ s.guards[c].strikes) :
    (kickOver c s).chans[c].act = .locked ∧ (kickOver c s).guards[c].cause = some .opened ∧
      (kickOver c s).guards[c].strikes = 3 ∧ (kickOver c s).latches.getLsbD 6 = true := by
  have guards : (kickReported c d (s.reach ends)).guards = s.guards := kickReported_guards (s := s.reach ends) ha
  have coils : (kickReported c d (s.reach ends)).coils = s.coils := kickReported_coils
  have count : min 3 (s.guards[c].strikes + 1) = 3 := Nat.min_eq_left (by omega)
  have settled : settleVerdict c (kickReported c d (s.reach ends)) = lockChannel c .opened (struck c (kickReported c d (s.reach ends))) := by
    rw [settleVerdict_open c (by rwa [coils]) (by rwa [guards]), guards, if_pos count]
  obtain ⟨locked, guard, latch⟩ := locked_after_test (s := struck c (kickReported c d (s.reach ends))) .opened d.isStep
    kickReported_not_locked
  rw [kickOver_of_kicking ha, settled, locked, guard]
  refine ⟨rfl, rfl, ?_, latch⟩
  rw [struck, State.setGuard_guards, getElem_set_same, guards]
  exact count

theorem openLocks_iff (ha : s.chans[c].act = .kicking d n ends) (ho : s.coils[c].openFloor ≠ 0) :
    openLocks s c = true ↔ s.guards[c].verdict = .openSoFar ∧ 2 ≤ s.guards[c].strikes := by
  have kicking : s.chans[c].isKicking = true := by rw [Channel.isKicking, ha]
  have checked : (s.coils[c].openFloor != 0) = true := bne_iff_ne.mpr ho
  simp only [openLocks, kicking, checked, Bool.true_and, Bool.and_eq_true, beq_iff_eq, decide_eq_true_eq]

theorem shortLocks_iff {v : Byte} (h : nextDriven s = some c) : shortLocks s v = true ↔ shortRunAfter s c v = 2 := by
  simp only [shortLocks, h, beq_iff_eq]

end

/-- Settles O56: the turn, the tests of a sample, and the settling of the verdict, each followed to the end of its event. -/
theorem samplesSetTheVerdictAndLock : Obligations.SamplesSetTheVerdictAndLock := by
  unfold Obligations.SamplesSetTheVerdictAndLock
  refine ⟨nextDriven_iff, ?_, ?_⟩
  · intro v c s h k g at_
    refine ⟨fun hp hv => ⟨_, driveSample_low h hp hv, fun d n ends ha ho hn => ?_, fun hk => ?_⟩, fun hv => ?_, fun hr hv i hi => ?_⟩
    · exact verdictAfter_kicking (s := takeTurn c s) ha ho (by rw [takeTurn_now]; exact hn)
    · exact verdictAfter_kept (s := takeTurn c s) fun d n ends ha => by rw [takeTurn_now]; exact hk d n ends ha
    · exact congrArg _ (if_neg (mt (shortLocks_iff h).mp (shortRunAfter_ne_two hv)))
    · have run : exec i s = .next (takeDriveSample v s) := by
        rcases hi with rfl | rfl
        · rfl
        · exact congrArg _ (if_pos ((shortLocks_iff h).mpr (shortRunAfter_high hr hv)))
      exact ⟨_, run, takeDriveSample_locks h hr hv⟩
  · intro c d n ends s ha ho g settled
    have guards : (kickReported c d (s.reach ends)).guards = s.guards := kickReported_guards (s := s.reach ends) ha
    have coils : (kickReported c d (s.reach ends)).coils = s.coils := kickReported_coils
    have latch : (kickReported c d (s.reach ends)).latches.getLsbD 5 = s.latches.getLsbD 5 :=
      congrArg Prod.snd (kickReported_openTally (c := c) (d := d) (s := s.reach ends))
    have floor : (kickReported c d (s.reach ends)).coils[c].openFloor ≠ 0 := by rwa [coils]
    refine ⟨fun hv => ?_, fun hv => ?_, fun hv => ?_, fun hv hs => ?_, fun hv hs i hi => ?_⟩
    · refine congrArg _ (if_neg fun hl => ?_)
      obtain ⟨hv', hs⟩ := (openLocks_iff ha ho).mp hl
      exact hv.elim (fun h => h hv') fun h => Nat.not_le.mpr h hs
    · obtain ⟨t, run, strikes, -⟩ := kickTimerExpiry_tally ha (settleVerdict_tally_noneYet floor (by rwa [guards]))
      rw [guards] at strikes
      exact ⟨t, run, strikes, fun h => absurd rfl h⟩
    · obtain ⟨t, run, strikes, alert⟩ := kickTimerExpiry_tally ha (settleVerdict_tally_good floor (by rwa [guards]))
      exact ⟨t, run, strikes, fun _ h => by rw [alert, latch, h]; rfl⟩
    · obtain ⟨t, run, strikes, alert⟩ := kickTimerExpiry_tally ha (settleVerdict_tally_open floor (by rwa [guards]) (by rwa [guards]))
      rw [guards] at strikes alert
      exact ⟨t, run, strikes, fun _ h => by rw [alert, latch, h, Bool.false_or]⟩
    · have run : exec i s = .next (kickOver c s) := by
        rcases hi with rfl | rfl
        · rfl
        · exact congrArg _ (if_pos ((openLocks_iff ha ho).mpr ⟨hv, hs⟩))
      exact ⟨_, run, kickOver_locks ha ho hv hs⟩

end Sys2Proof.Machine
end

section
/-! SUPPORT. An edge at the Channel Drivers and at Node State Control (R12, R14 to R17, R166). -/

namespace Sys2Proof.Machine

set_option Elab.async false

/-! ### An edge that concerns one channel -/

/-- Work on every channel that is work on one channel alone. -/
theorem forChans_single {f : Chan → State → State} {c : Chan} {s : State}
    (hf : ∀ (c' : Chan) (t : State), c' ≠ c → t.chans[c'] = s.chans[c'] → f c' t = t)
    (hc : ∀ c' : Chan, c' ≠ c → (f c s).chans[c'] = s.chans[c']) : forChans f s = f c s := by
  have still : ∀ (l : List Chan) (t : State), c ∉ l → (∀ c' : Chan, c' ≠ c → t.chans[c'] = s.chans[c']) →
      l.foldl (fun s c => f c s) t = t := by
    intro l t hl ht
    induction l with
    | nil => rfl
    | cons c' l ih =>
      have hne : c' ≠ c := fun e => hl (e ▸ List.mem_cons_self)
      rw [List.foldl_cons, hf c' t hne (ht c' hne)]
      exact ih fun h => hl (List.mem_cons_of_mem _ h)
  obtain ⟨l, l', hl⟩ := List.append_of_mem (List.mem_finRange c)
  have distinct : (l ++ c :: l').Nodup := hl ▸ List.nodup_finRange 24
  obtain ⟨-, hcl', hd⟩ := List.nodup_append.mp distinct
  have before : c ∉ l := fun h => hd c h c List.mem_cons_self rfl
  have after : c ∉ l' := (List.nodup_cons.mp hcl').1
  rw [forChans, hl, List.foldl_append, List.foldl_cons, still l s before fun _ _ => rfl, still l' _ after hc]

/-- Whether an input is the trigger or the end-of-stroke input of a flip context. -/
def FlipContext.names (x : FlipContext) (i : InputNo) : Prop := x.trigger = i ∨ x.eos = some i

/-- An input is named by a channel's running or waiting Flip. -/
def Channel.namesInput (x : Channel) (i : InputNo) : Prop :=
  ∃ ctx : FlipContext, (x.running? = some ctx ∨ x.waiting = some ctx) ∧ ctx.names i

theorem OnlyOn.edgeOnWaiting {c : Chan} {s₀ s : State} (h : OnlyOn c s₀ s) (i : InputNo) (close : Bool) :
    OnlyOn c s₀ (edgeOnWaiting i close c s) := by
  rw [Machine.edgeOnWaiting]; split
  · exact (h.of_beyondTrains (beyondTrains_withdraw s _)).setWaiting none
  · exact h

theorem OnlyOn.edgeOnDrive {c : Chan} {s₀ s : State} (h : OnlyOn c s₀ s) (i : InputNo) (close : Bool) :
    OnlyOn c s₀ (edgeOnDrive i close c s) := by
  rw [Machine.edgeOnDrive]
  repeat' split
  · exact h.endKick _
  · exact h.endKick _
  · exact h
  · exact h.endHold
  · exact h.of_beyondTrains (by simp)
  · exact h.of_beyondTrains (by simp)
  · exact h
  · exact h
  · exact h

theorem OnlyOn.edgeOn {c : Chan} {s₀ s : State} (h : OnlyOn c s₀ s) (i : InputNo) (close : Bool) :
    OnlyOn c s₀ (edgeOn i close c s) := by
  rw [edgeOn_eq]; exact (h.edgeOnWaiting i close).edgeOnDrive i close

section
variable {i : InputNo} {close : Bool} {c : Chan} {s : State}

theorem running_of_kicking {d : Drive} {n ends left : Nat} {ctx : FlipContext} {limit : Option Nat}
    (ha : s.chans[c].act = .kicking d n ends) (hk : d.kind = .flip ctx left limit) : s.chans[c].running? = some ctx := by
  simp only [Channel.running?, Channel.drive?, ha, Option.bind_some, Drive.ctx?, hk]

theorem running_of_holding {d : Drive} {heff left : Nat} {ctx : FlipContext} {limit : Option Nat}
    (ha : s.chans[c].act = .holding d heff) (hk : d.kind = .flip ctx left limit) : s.chans[c].running? = some ctx := by
  simp only [Channel.running?, Channel.drive?, ha, Option.bind_some, Drive.ctx?, hk]

theorem edgeOnWaiting_of_none (h : s.chans[c].waiting = none) : edgeOnWaiting i close c s = s := by
  rw [edgeOnWaiting, if_neg]
  rintro ⟨-, hw⟩
  rw [h] at hw
  cases hw

/-- An edge of an input that the channel's Flip does not name does nothing there. -/
theorem edgeOn_of_unnamed (h : ¬ s.chans[c].namesInput i) : edgeOn i close c s = s := by
  have waits : edgeOnWaiting i close c s = s := by
    rw [edgeOnWaiting, if_neg]
    rintro ⟨-, hw⟩
    obtain ⟨x, hx, ht⟩ := (Option.any_eq_true _ _).mp hw
    exact h ⟨x, .inr hx, .inl (beq_iff_eq.mp ht)⟩
  rw [edgeOn_eq, waits, edgeOnDrive]
  split
  · rename_i ctx left limit _ _ _ _ n ends ha
    have run := running_of_kicking ha rfl
    rw [if_neg fun ht => h ⟨ctx, .inl run, .inl ht.2⟩, if_neg fun he => h ⟨ctx, .inl run, .inr he.2.1⟩]
  · rename_i ctx left limit _ _ _ _ heff ha
    have run := running_of_holding ha rfl
    rw [if_neg fun ht => h ⟨ctx, .inl run, .inl ht.2⟩, if_neg fun he => h ⟨ctx, .inl run, .inr he.1⟩]
  · rfl

theorem deliver_channels (h : ∀ c' : Chan, c' ≠ c → ¬ s.chans[c'].namesInput i) :
    deliver i close .channelDrivers s = arbitrate (edgeOn i close c s) := by
  refine congrArg arbitrate (forChans_single (fun c' t hc ht => edgeOn_of_unnamed ?_) fun c' hc => ?_)
  · rw [ht]; exact h c' hc
  · exact (((OnlyOn.refl c s).edgeOn i close) c' hc).1

/-! ### The waiting Flip -/

theorem edgeOnDrive_of_not_running (h : s.chans[c].running? = none) : edgeOnDrive i close c s = s := by
  rw [edgeOnDrive]
  split
  · rename_i ha
    rw [running_of_kicking ha rfl] at h
    cases h
  · rename_i ha
    rw [running_of_holding ha rfl] at h
    cases h
  · rfl

/-- A trigger's Open edge withdraws a waiting Flip and its context (R12). -/
theorem openEdge_withdraws {ctx : FlipContext} (hw : s.chans[c].waiting = some ctx) (hr : s.chans[c].running? = none) :
    let t := arbitrate (edgeOn ctx.trigger false c s)
    t.chans[c].waiting = none ∧ (∀ e ∈ t.queue, ¬ (e.channel = c ∧ e.kind = .flip)) ∧ t.dropped = s.dropped := by
  intro t
  have taken : edgeOnWaiting ctx.trigger false c s = withdrawFlip c s := if_pos ⟨rfl, by rw [hw]; exact beq_self_eq_true _⟩
  have idle : (withdrawFlip c s).chans[c].running? = none := by
    have act : (withdrawFlip c s).chans[c].act = s.chans[c].act := by
      rw [withdrawFlip, setWaiting_act, withdraw_chans]
    rw [Channel.running?, drive?_congr act]
    exact hr
  have run : t = arbitrate (withdrawFlip c s) := congrArg arbitrate (by
    rw [edgeOn_eq, taken, edgeOnDrive_of_not_running idle])
  have drained : Drains (withdrawFlip c s) t := run ▸ (Drains.refl _).arbitrate
  have gone : (withdrawFlip c s).chans[c].waiting = none := by
    rw [withdrawFlip, setWaiting_chans, getElem_set_same]
  refine ⟨?_, fun e he hf => ?_, drained.dropped.trans ((Drains.refl s).withdrawFlip c).dropped⟩
  · rcases drained.waiting c with h | h
    · rw [h, gone]
    · exact h
  · obtain ⟨hc, hk⟩ := hf
    have same : ∀ x y : Entry, x.alike y →
        (x.channel == c && x.kind == .flip) = (y.channel == c && y.kind == .flip) := by
      rintro x y ⟨h₁, -, h₃, -⟩
      rw [h₁, h₃]
    have no_step : ∀ {t' : State} {e' : Entry}, e'.kind = .flip → ¬ e'.ofHeld t' := by
      rintro t' e' hf ⟨-, -, -, -, -, -, hs, -⟩
      rw [hf] at hs
      cases hs
    rcases drained.queue e he with ⟨e', he', al⟩ | held
    · obtain ⟨h₁, -, h₃, -⟩ := al
      have kept := mem_withdraw (s := s) (p := fun x => x.channel == c && x.kind == .flip) same he'
      rcases kept with hp | held
      · rw [← h₁, ← h₃, hc, hk] at hp
        simp at hp
      · exact no_step (h₃.symm.trans hk) held
    · exact no_step hk held

/-! ### A kick -/

section
variable {d : Drive} {n ends left : Nat} {ctx : FlipContext} {limit : Option Nat}

theorem edgeOn_of_kicking (ha : s.chans[c].act = .kicking d n ends) (hk : d.kind = .flip ctx left limit) (hw : s.chans[c].waiting = none) :
    edgeOn i close c s = if !close ∧ ctx.trigger = i then endKick c false s
      else if close ∧ ctx.eos = some i ∧ ctx.mode ≠ .off then endKick c true s else s := by
  obtain ⟨kind, _, _, _, _⟩ := d
  subst hk
  rw [edgeOn_eq, edgeOnWaiting_of_none hw]
  simp only [edgeOnDrive, ha]

/-- What the end of a kick in RECOVERING leaves, in a calm state (R5, R14). -/
theorem endKick_rested (done : Bool) (hcalm : Calm s) (ho : s.coils[c].openFloor = 0) (hr : s.coils[c].recovery ≠ 0)
    (ha : s.chans[c].act = .kicking d n ends) (hs : d.isStep = false) (hm : ¬ d.mayHold done s.coils[c] s) :
    let t := arbitrate (endKick c done s)
    t.chans[c].act = .recovering (s.now + s.coils[c].recovery * 1000) ∧ t.inUse = s.inUse - s.coils[c].p ∧
      t.heat[c].q = heatAtKickEnd s.coils[c] s.heat[c].q d s.now := by
  intro t
  have run : t = _ := arbitrate_eq_of_calm (endKick_rests ha hs ho hr hm) hcalm
  rw [run]
  exact ⟨congrArg Channel.act (getElem_set_same _ _ _), rfl, congrArg Heat.q (getElem_set_same _ _ _)⟩

/-- A trigger's Open edge cuts the kick (R14). -/
theorem openEdge_cuts (hcalm : Calm s) (ho : s.coils[c].openFloor = 0) (hr : s.coils[c].recovery ≠ 0)
    (ha : s.chans[c].act = .kicking d n ends) (hk : d.kind = .flip ctx left limit) (hw : s.chans[c].waiting = none) :
    let t := arbitrate (edgeOn ctx.trigger false c s)
    t.chans[c].act = .recovering (s.now + s.coils[c].recovery * 1000) ∧ t.inUse = s.inUse - s.coils[c].p ∧
      t.heat[c].q = heatAtKickEnd s.coils[c] s.heat[c].q d s.now := by
  have cut : edgeOn ctx.trigger false c s = endKick c false s := (edgeOn_of_kicking ha hk hw).trans (if_pos ⟨rfl, rfl⟩)
  rw [cut]
  exact endKick_rested false hcalm ho hr ha (isStep_of_flip hk) fun hm => Bool.false_ne_true (mayHold_of_kind hk hm).1

/-- An end-of-stroke Close edge completes the kick in modes Stop and Rekick (R14). -/
theorem edgeOn_completes (ha : s.chans[c].act = .kicking d n ends) (hk : d.kind = .flip ctx left limit) (hw : s.chans[c].waiting = none)
    (he : ctx.eos = some i) (hm : ctx.mode ≠ .off) : edgeOn i true c s = endKick c true s :=
  (edgeOn_of_kicking ha hk hw).trans ((if_neg (by simp)).trans (if_pos ⟨rfl, he, hm⟩))

theorem closeEdge_rests (hcalm : Calm s) (ho : s.coils[c].openFloor = 0) (hr : s.coils[c].recovery ≠ 0)
    (ha : s.chans[c].act = .kicking d n ends) (hk : d.kind = .flip ctx left limit)
    (hh : s.coils[c].h = 0 ∨ s.inputs[ctx.trigger].closed = false) :
    let t := arbitrate (endKick c true s)
    t.chans[c].act = .recovering (s.now + s.coils[c].recovery * 1000) ∧ t.inUse = s.inUse - s.coils[c].p := by
  have noHold : ¬ d.mayHold true s.coils[c] s := fun hm => by
    obtain ⟨-, hp, hc⟩ := mayHold_of_kind hk hm
    rcases hh with h | h
    · rw [h] at hp; exact absurd hp (Nat.lt_irrefl 0)
    · exact Bool.false_ne_true (h.symm.trans hc)
  obtain ⟨act, budget, -⟩ := endKick_rested true hcalm ho hr ha (isStep_of_flip hk) noHold
  exact ⟨act, budget⟩

theorem closeEdge_holds (hcalm : Calm s) (ho : s.coils[c].openFloor = 0)
    (ha : s.chans[c].act = .kicking d n ends) (hk : d.kind = .flip ctx left limit) (hc : s.inputs[ctx.trigger].closed = true)
    (hd : 0 < dutyFor s s.coils[c] (heatAtKickEnd s.coils[c] s.heat[c].q d s.now)) :
    let t := arbitrate (endKick c true s)
    let duty := dutyFor s s.coils[c] (heatAtKickEnd s.coils[c] s.heat[c].q d s.now)
    ∃ d', t.chans[c].act = .holding d' duty ∧ d'.began = s.now ∧
      t.heat[c] = { q := heatAtKickEnd s.coils[c] s.heat[c].q d s.now, f := 0 } ∧
      t.inUse = s.inUse - s.coils[c].p + drawFor s.coils[c] duty := by
  intro t duty
  have run : t = _ := arbitrate_eq_of_calm (endKick_holds ha hk ho hc hd) hcalm
  rw [run]
  exact ⟨_, congrArg Channel.act (getElem_set_same _ _ _), rfl, getElem_set_same _ _ _, rfl⟩

end

/-! ### A hold -/

section
variable {d : Drive} {heff left : Nat} {ctx : FlipContext} {limit : Option Nat}

theorem edgeOn_of_holding (ha : s.chans[c].act = .holding d heff) (hk : d.kind = .flip ctx left limit) (hw : s.chans[c].waiting = none) :
    edgeOn i close c s = if !close ∧ ctx.trigger = i then endHold c s
      else if ctx.eos = some i ∧ ctx.mode = .rekick then
        if close then withdrawRekick c s else if 0 < left then submitRekick c ctx s else s
      else s := by
  obtain ⟨kind, _, _, _, _⟩ := d
  subst hk
  rw [edgeOn_eq, edgeOnWaiting_of_none hw]
  simp only [edgeOnDrive, ha]

/-- A trigger's Open edge ends the hold (R15). -/
theorem openEdge_ends_hold (hcalm : Calm s) (hr : s.coils[c].recovery ≠ 0) (ha : s.chans[c].act = .holding d heff)
    (hk : d.kind = .flip ctx left limit) (hw : s.chans[c].waiting = none) :
    let t := arbitrate (edgeOn ctx.trigger false c s)
    t.chans[c].act = .recovering (s.now + s.coils[c].recovery * 1000) ∧ t.inUse = s.inUse - drawFor s.coils[c] heff := by
  intro t
  obtain ⟨hq, hh⟩ := hcalm
  have ended : edgeOn ctx.trigger false c s = endHold c s := (edgeOn_of_holding ha hk hw).trans (if_pos ⟨rfl, rfl⟩)
  have run : t = _ := arbitrate_eq_of_calm (ended.trans (endHold_rests ha hr hq)) ⟨hq, hh⟩
  rw [run]
  exact ⟨congrArg Channel.act (getElem_set_same _ _ _), rfl⟩

/-- An end-of-stroke Close edge during a hold withdraws a waiting re-kick, and the hold goes on (R16). -/
theorem closeEdge_withdraws_rekick (ha : s.chans[c].act = .holding d heff) :
    let t := arbitrate (withdrawRekick c s)
    t.chans[c] = s.chans[c] ∧ (∀ e ∈ t.queue, ¬ (e.channel = c ∧ e.kind = .rekick)) ∧ t.dropped = s.dropped := by
  intro t
  have same : ∀ x y : Entry, x.alike y →
      (x.channel == c && x.kind == .rekick) = (y.channel == c && y.kind == .rekick) := by
    rintro x y ⟨h₁, -, h₃, -⟩
    rw [h₁, h₃]
  have left : ∀ e ∈ (withdrawRekick c s).queue, ¬ (e.channel = c ∧ e.kind = .rekick) := by
    rintro e he ⟨hc, hk⟩
    rcases mem_withdraw (s := s) (p := fun x => x.channel == c && x.kind == .rekick) same he with hp | ⟨-, -, -, -, -, -, hs, -⟩
    · rw [hc, hk] at hp
      simp at hp
    · rw [hk] at hs
      cases hs
  have act : (withdrawRekick c s).chans[c].act = .holding d heff := by rw [withdrawRekick_chans]; exact ha
  have busy : (withdrawRekick c s).chans[c].act ≠ .idle := by rw [act]; exact fun h => nomatch h
  have start : Bystander c (withdrawRekick c s).chans[c] (withdrawRekick c s).heat[c] (withdrawRekick c s).guards[c]
      (withdrawRekick c s) :=
    { entries := fun e he hec => by
        rw [if_neg fun hk => left e he ⟨hec, hk⟩]
        exact busy
      trains := fun _ _ _ _ => busy
      chan := rfl
      heat := rfl
      guard := rfl }
  have drained : Drains (withdrawRekick c s) t := (Drains.refl _).arbitrate
  refine ⟨start.arbitrate.chan.trans (by rw [withdrawRekick_chans]), fun e he hf => ?_,
    drained.dropped.trans ((Drains.refl s).withdrawRekick c).dropped⟩
  obtain ⟨hc, hk⟩ := hf
  rcases drained.queue e he with ⟨e', he', h₁, -, h₃, -⟩ | ⟨-, -, -, -, -, -, hs, -⟩
  · exact left e' he' ⟨h₁.symm.trans hc, h₃.symm.trans hk⟩
  · rw [hk] at hs
    cases hs

/-- The entry of a re-kick, its wait reason given. -/
def rekickEntry (s : State) (c : Chan) (ctx : FlipContext) (w : Wait) : Entry :=
  { channel := c, cls := .flip, kind := .rekick, source := .rule ctx.rule, persistent := ctx.persistent, joined := s.now, merged := 1,
    kReq := s.coils[c].k, wait := w, stale := some (s.now + 4000) }

/-- In a calm state a re-kick request is the one entry of the queue that the end of the event walks (R16). -/
theorem arbitrate_submitRekick (hcalm : Calm s) (hp : s.passDue = false) (hr : s.node.relay = true) :
    let e := rekickEntry s c ctx .notReached
    arbitrate (submitRekick c ctx s) = (walk [e] (s.setQueue [e])).2.setQueue (walk [e] (s.setQueue [e])).1 := by
  intro e
  obtain ⟨hq, hh⟩ := hcalm
  have joined : submitRekick c ctx s = (s.setQueue [e]).callPass := by
    simp only [submitRekick, submit, hq]
    rfl
  rw [joined, arbitrate_walk (s := (s.setQueue [e]).callPass) hh rfl hr]
  have unmarked : { (s.setQueue [e]).callPass with passDue := false } = s.setQueue [e] := clear_passDue (s := s.setQueue [e]) hp
  rw [unmarked]
  rfl

theorem setQueue_nil (hcalm : Calm s) (q : List Entry) : (s.setQueue q).setQueue [] = s := by
  obtain ⟨hq, -⟩ := hcalm
  have : s.setQueue s.queue = s := rfl
  rw [← hq]
  exact this

section
variable (hcalm : Calm s) (hp : s.passDue = false) (hr : s.node.relay = true) (ha : s.chans[c].act = .holding d heff)
include hcalm hp hr ha

/-- The kick that a re-kick is given (R17). -/
theorem rekick_kicks (hk : d.kind = .flip ctx left limit) (hg : s.coils[c].kMin ≤ kickFor s.coils[c] s.heat[c].q s.coils[c].k)
    (hb : s.inUse - drawFor s.coils[c] heff + s.coils[c].p ≤ budgetInForce s) :
    let t := arbitrate (submitRekick c ctx s)
    let given := kickFor s.coils[c] s.heat[c].q s.coils[c].k
    t.chans[c].act = .kicking { kind := .flip ctx (left - 1) limit, source := .rule ctx.rule, persistent := ctx.persistent,
                                began := s.now, charged := 0 } given (s.now + given * 1000) ∧
      t.inUse = s.inUse - drawFor s.coils[c] heff + s.coils[c].p ∧ t.queue = [] := by
  intro t given
  let e := rekickEntry s c ctx .notReached
  have found := find_rekick (e := e) (s := s.setQueue [e]) rfl ha
  have granted : grantKick e given (s.setQueue [e]) = grantRekick c ctx left limit e given (s.setQueue [e]) := by
    obtain ⟨kind, _, _, _, _⟩ := d
    subst hk
    have act : (s.setQueue [e]).chans[e.channel].act = _ := ha
    simp only [grantKick, act]
    rfl
  obtain ⟨-, budget, chans, -⟩ := grantRekick_starts (ctx := ctx) (e := e) (left := left) (n := given) (limit := limit)
    (s := s.setQueue [e]) ha
  have run : t = (grantRekick c ctx left limit e given (s.setQueue [e])).setQueue [] := by
    refine (arbitrate_submitRekick hcalm hp hr).trans ?_
    rw [walk_of_kick [] (found.trans (if_pos hg)) hb, walk]
    exact congrArg (State.setQueue []) granted
  rw [run]
  refine ⟨?_, budget, rfl⟩
  rw [State.setQueue_chans, chans, getElem_set_same]
  rfl

theorem rekick_waits (hg : s.coils[c].kMin ≤ kickFor s.coils[c] s.heat[c].q s.coils[c].k)
    (hb : budgetInForce s < s.inUse - drawFor s.coils[c] heff + s.coils[c].p) :
    arbitrate (submitRekick c ctx s) = { s with queue := [rekickEntry s c ctx .budget] } := by
  let e := rekickEntry s c ctx .notReached
  have found := find_rekick (e := e) (s := s.setQueue [e]) rfl ha
  rw [arbitrate_submitRekick hcalm hp hr, walk_of_kick_over [] (found.trans (if_pos hg)) hb]
  rfl

theorem rekick_refused (hg : kickFor s.coils[c] s.heat[c].q s.coils[c].k < s.coils[c].kMin) :
    arbitrate (submitRekick c ctx s) = s := by
  let e := rekickEntry s c ctx .notReached
  have found := find_rekick (e := e) (s := s.setQueue [e]) rfl ha
  rw [arbitrate_submitRekick hcalm hp hr, walk_of_removed [] (found.trans (if_neg (Nat.not_le.mpr hg)))]
  exact setQueue_nil hcalm [e]

end

end

/-! ### Waking -/

/-- A Close edge of a masked input wakes a QUIET node (R166). -/
theorem deliver_wakes (hcalm : Calm s) (hp : s.passDue = false) (hq : s.node.st = .quiet)
    (hm : s.node.wakeMask.getLsbD i.val = true) :
    deliver i true .nodeState s = { s with
      node := { s.node with st := .arming, relay := true, settle := some (s.now + s.settings.settle * 1000), wake := .input i }
      port := { s.port with silence := some (s.now + s.settings.silence * 1000) }
      latches := s.latches ||| 0x8000 } := by
  have woken : nodeClosed i s = wakeBy i s := if_pos ⟨hq, hm⟩
  have run : deliver i true .nodeState s = { wakeBy i s with passDue := false } := arbitrate_eq_of_calm woken hcalm
  rw [run]
  obtain ⟨_, _, due⟩ := s
  subst hp
  rfl

theorem deliver_sleeps (hp : s.passDue = false) (h : close = false ∨ s.node.st ≠ .quiet ∨ s.node.wakeMask.getLsbD i.val = false) :
    deliver i close .nodeState s = s := by
  have still : (if close then nodeClosed i s else s) = s := by
    cases close with
    | false => rfl
    | true =>
      have awake : ¬ (s.node.st = .quiet ∧ inMask s.node.wakeMask i = true) := by
        rintro ⟨hq, hm⟩
        rcases h with h | h | h
        · cases h
        · exact h hq
        · rw [inMask, h] at hm; cases hm
      rw [if_pos rfl, nodeClosed, if_neg awake]
  exact (congrArg arbitrate still).trans (arbitrate_of_not_due hp)

end

end Sys2Proof.Machine
end

section
/-! SUPPORT. What the work for one owner leaves of another's trains (R91, R100 to R102, R117, R122). -/

namespace Sys2Proof.Machine

set_option Elab.async false

/-! ### An owner's contexts -/

/-- A context but for its held flag. -/
def Train.unheld (x : Train) : Train := { x with held := false }

/-- A context where it is an owner's, but for its held flag. -/
def ctxIn (o : Owner) (x : Option Train) : Option Train := (x.filter fun x => x.owner == o).map Train.unheld

/-- A context of the state where it is an owner's, but for its held flag. -/
def ctxOf (o : Owner) (s : State) (k : TrainNo) : Option Train := ctxIn o s.trains[k]

/-- A train has a request in the queue or waits on the held list. -/
def Asks (k : TrainNo) (s : State) : Prop := (∃ e ∈ s.queue, e.source = .train k) ∨ k ∈ s.held

section
variable {o : Owner} {s t : State} {k : TrainNo}

theorem ctxIn_eq_some {x : Option Train} {y : Train} : ctxIn o x = some y ↔ ∃ z, x = some z ∧ z.owner = o ∧ z.unheld = y := by
  simp only [ctxIn, Option.map_eq_some_iff, Option.filter_eq_some_iff, beq_iff_eq, and_assoc]

theorem ctxIn_eq_none {x : Option Train} : ctxIn o x = none ↔ ∀ z, x = some z → z.owner ≠ o := by
  simp only [ctxIn, Option.map_eq_none_iff, Option.filter_eq_none_iff, beq_iff_eq]

theorem ctxOf_congr (h : t.trains = s.trains) : ctxOf o t k = ctxOf o s k := by rw [ctxOf, ctxOf, h]

theorem ctxOf_setTrain_same (k : TrainNo) (x : Option Train) (s : State) : ctxOf o (s.setTrain k x) k = ctxIn o x := by
  rw [ctxOf, State.setTrain_trains, getElem_set_same]

theorem ctxOf_setTrain_other {j : TrainNo} (x : Option Train) (s : State) (h : j ≠ k) :
    ctxOf o (s.setTrain k x) j = ctxOf o s j := by
  rw [ctxOf, State.setTrain_trains, getElem_set_other _ _ h, ctxOf]

/-- Setting a context to what an owner sees no difference in. -/
theorem ctxOf_setTrain {x : Option Train} (h : ctxIn o x = ctxOf o s k) (j : TrainNo) : ctxOf o (s.setTrain k x) j = ctxOf o s j := by
  by_cases hj : j = k
  · subst hj; rw [ctxOf_setTrain_same, h]
  · exact ctxOf_setTrain_other x s hj

theorem trainOf_eq (o : Owner) (s : State) : trainOf s o = (List.finRange 12).find? fun k => (ctxOf o s k).isSome := by
  have test : ∀ x : Option Train, x.any (fun x => x.owner == o) = (ctxIn o x).isSome := fun x => by
    cases x with
    | none => rfl
    | some x => cases h : x.owner == o <;> simp [ctxIn, Option.filter, h]
  simp only [trainOf, ctxOf, test]

theorem trainOf_eq_some (h : trainOf s o = some k) : ∃ x, s.trains[k] = some x ∧ x.owner = o := by
  have := List.find?_some h
  rw [Option.any_eq_true] at this
  obtain ⟨x, hx, ho⟩ := this
  exact ⟨x, hx, beq_iff_eq.mp ho⟩

/-- A context of one owner is none of another's. -/
theorem ctxOf_of_owner {x : Train} (hx : s.trains[k] = some x) (h : x.owner ≠ o) : ctxOf o s k = none :=
  ctxIn_eq_none.mpr fun z hz => by rw [hx] at hz; cases hz; exact h

theorem ctxOf_of_trainOf {o' : Owner} (h : trainOf s o' = some k) (hne : o' ≠ o) : ctxOf o s k = none := by
  obtain ⟨x, hx, rfl⟩ := trainOf_eq_some h
  exact ctxOf_of_owner hx hne

theorem firstFree_free (h : firstFree s = some k) : s.trains[k] = none := by
  have := List.find?_some h
  exact Option.isNone_iff_eq_none.mp this

end

/-! ### What spares an owner -/

/-- An owner's contexts, its unit or reel and the clock are as they were but for held flags, none of its trains asks anew, and no latch is cleared. -/
structure Spares (o : Owner) (s t : State) : Prop where
  contexts : ∀ k, ctxOf o t k = ctxOf o s k
  asks : ∀ k x, ctxOf o s k = some x → Asks k t → Asks k s
  unit : ∀ u, o = .counter u → t.units[u] = s.units[u]
  bank : ∀ b r, o = .reel b r → t.banks[b].state = s.banks[b].state
  reel : ∀ b r, o = .reel b r → t.banks[b].reels[r]? = s.banks[b].reels[r]?
  latches : ∀ i : Nat, s.latches.getLsbD i = true → t.latches.getLsbD i = true
  now : t.now = s.now

section
variable {o : Owner} {s₀ s t : State} {k : TrainNo}

theorem Spares.refl (o : Owner) (s : State) : Spares o s s :=
  ⟨fun _ => rfl, fun _ _ _ h => h, fun _ _ => rfl, fun _ _ _ => rfl, fun _ _ _ => rfl, fun _ h => h, rfl⟩

theorem Spares.trans (a : Spares o s₀ s) (b : Spares o s t) : Spares o s₀ t where
  contexts k := (b.contexts k).trans (a.contexts k)
  asks k x h hk := a.asks k x h (b.asks k x ((a.contexts k).trans h) hk)
  unit u h := (b.unit u h).trans (a.unit u h)
  bank n r h := (b.bank n r h).trans (a.bank n r h)
  reel n r h := (b.reel n r h).trans (a.reel n r h)
  latches i h := b.latches i (a.latches i h)
  now := b.now.trans a.now

/-- What keeps the banks, the units and the clock spares an owner whose contexts and requests it leaves. -/
theorem Spares.keep (h : Spares o s₀ s) (kept : Kept s t) (hl : ∀ i : Nat, s.latches.getLsbD i = true → t.latches.getLsbD i = true)
    (hc : ∀ k, ctxOf o t k = ctxOf o s k) (ha : ∀ k x, ctxOf o s k = some x → Asks k t → Asks k s) : Spares o s₀ t :=
  h.trans ⟨hc, ha, fun _ _ => by rw [kept.units], fun _ _ _ => by rw [kept.banks], fun _ _ _ => by rw [kept.banks], hl, kept.now⟩

/-- Work that leaves the contexts, the queue and the held list alone. -/
theorem Spares.keep_requests (h : Spares o s₀ s) (kept : Kept s t) (hl : ∀ i : Nat, s.latches.getLsbD i = true → t.latches.getLsbD i = true)
    (ht : t.trains = s.trains) (hq : t.queue = s.queue) (hh : t.held = s.held) : Spares o s₀ t :=
  h.keep kept hl (fun _ => ctxOf_congr ht) fun k _ _ hk => by rwa [Asks, hq, hh] at hk

theorem Spares.setLatch (h : Spares o s₀ s) (x : Latch) : Spares o s₀ (setLatch x s) :=
  h.keep_requests (kept_setLatch x s) (fun i hi => by simp [hi]) rfl rfl rfl

theorem Spares.callPass (h : Spares o s₀ s) : Spares o s₀ s.callPass :=
  h.keep_requests (kept_callPass s) (fun _ h => h) rfl rfl rfl

/-- A context may change in what its owner does not see. -/
theorem Spares.setTrain (h : Spares o s₀ s) (k : TrainNo) {x : Option Train} (hx : ctxIn o x = ctxOf o s k) :
    Spares o s₀ (s.setTrain k x) :=
  h.keep (kept_setTrain k x s) (fun _ h => h) (ctxOf_setTrain hx) fun _ _ _ hk => hk

theorem Spares.setHeld (h : Spares o s₀ s) {l : List TrainNo} (hl : ∀ k x, ctxOf o s k = some x → k ∈ l → k ∈ s.held) :
    Spares o s₀ (s.setHeld l) :=
  h.keep (kept_setHeld l s) (fun _ h => h) (fun _ => rfl) fun k x hx hk => hk.imp id (hl k x hx)

theorem Spares.setQueue (h : Spares o s₀ s) {q : List Entry}
    (hq : ∀ k x, ctxOf o s k = some x → ∀ e ∈ q, e.source = .train k → Asks k s) : Spares o s₀ (s.setQueue q) :=
  h.keep (kept_setQueue q s) (fun _ h => h) (fun _ => rfl) fun k x hx hk => by
    rcases hk with ⟨e, he, hs⟩ | hk
    · exact hq k x hx e he hs
    · exact .inr hk

/-- Every entry after a request is the request's own or has the source of one before. -/
theorem submit_sources (e : Entry) (s : State) {x : Entry} (hx : x ∈ (submit e s).2.queue) :
    x.source = e.source ∨ ∃ y ∈ s.queue, y.source = x.source := by
  rcases submit_cases e s with ⟨-, h⟩ | ⟨-, -, h⟩ | ⟨c, -, -, -, h⟩ | ⟨-, -, -, h⟩ <;> rw [h] at hx
  · obtain ⟨y, hy, rfl⟩ := List.mem_map.mp hx
    refine .inr ⟨y, hy, ?_⟩
    split <;> rfl
  · rcases (mem_insertEntry e x s.queue).mp hx with rfl | hx
    · exact .inl rfl
    · exact .inr ⟨x, hx, rfl⟩
  · rcases (mem_insertEntry e x _).mp hx with rfl | hx
    · exact .inl rfl
    · rw [dropYoungest, List.mem_reverse] at hx
      exact .inr ⟨x, List.mem_reverse.mp (List.mem_of_mem_eraseP hx), rfl⟩
  · exact .inr ⟨x, hx, rfl⟩

theorem submit_held (e : Entry) (s : State) : (submit e s).2.held = s.held := by
  rcases submit_cases e s with ⟨-, h⟩ | ⟨-, -, h⟩ | ⟨c, -, -, -, h⟩ | ⟨-, -, -, h⟩ <;> rw [h] <;> rfl

theorem submit_trains (e : Entry) (s : State) : (submit e s).2.trains = s.trains := by
  rcases submit_cases e s with ⟨-, h⟩ | ⟨-, -, h⟩ | ⟨c, -, -, -, h⟩ | ⟨-, -, -, h⟩ <;> rw [h] <;> rfl

theorem submit_latches (e : Entry) (s : State) (i : Nat) (hi : s.latches.getLsbD i = true) :
    (submit e s).2.latches.getLsbD i = true := by
  rcases submit_cases e s with ⟨-, h⟩ | ⟨-, -, h⟩ | ⟨c, -, -, -, h⟩ | ⟨-, -, -, h⟩ <;> rw [h]
  · exact hi
  · exact hi
  · simp [Machine.countDropped, hi]
  · exact hi

/-- A request spares an owner of whose trains it is not, or whose train asked already. -/
theorem Spares.submit (h : Spares o s₀ s) (e : Entry) (he : ∀ k x, ctxOf o s k = some x → e.source = .train k → Asks k s) :
    Spares o s₀ (submit e s).2 :=
  h.keep (kept_submit e s) (submit_latches e s) (fun _ => ctxOf_congr (submit_trains e s)) fun k x hx hk => by
    rcases hk with ⟨y, hy, hs⟩ | hk
    · rcases submit_sources e s hy with hye | ⟨z, hz, hzy⟩
      · exact he k x hx (hye.symm.trans hs)
      · exact .inl ⟨z, hz, hzy.trans hs⟩
    · rw [submit_held] at hk
      exact .inr hk

/-! The queue and the held list. -/

theorem ctxIn_held {x : Train} (b : Bool) : ctxIn o (some { x with held := b }) = ctxIn o (some x) := by
  simp only [ctxIn, Option.filter]
  split <;> rfl

theorem Spares.joinHeld (h : Spares o s₀ s) (k : TrainNo) (hk : k ∈ s.held) : Spares o s₀ (joinHeld k s) := by
  rw [Machine.joinHeld]
  split
  · rename_i x hx
    refine Spares.submit (h.setTrain k (x := some { x with held := false }) ?_) _ fun j y _ hj => ?_
    · rw [ctxIn_held, ctxOf, hx]
    · have : k = j := Source.train.inj hj
      exact .inr (this ▸ hk)
  · exact h

theorem Spares.handOver (h : Spares o s₀ s) : Spares o s₀ (handOver s) :=
  handOver_invariant (P := Spares o s₀) (fun k _ hs hk _ => hs.joinHeld k hk) (fun _ _ hs hl => hs.setHeld fun k _ _ hk => hl k hk) h

theorem Spares.withdraw (h : Spares o s₀ s) (p : Entry → Bool) : Spares o s₀ (withdraw p s) := by
  rw [Machine.withdraw]; split
  · exact ((h.setQueue fun k _ _ e he hs => .inl ⟨e, (List.mem_filter.mp he).1, hs⟩).callPass).handOver
  · exact h

/-! The trains. -/

theorem Spares.takeBack (h : Spares o s₀ s) (k : TrainNo) : Spares o s₀ (takeBack k s) :=
  (h.setHeld fun _ _ _ hj => (List.mem_filter.mp hj).1).withdraw _

theorem Spares.freeTrain (h : Spares o s₀ s) (hk : ctxOf o s k = none) : Spares o s₀ (freeTrain k s) :=
  (h.setTrain k (x := none) hk.symm).takeBack k

theorem Spares.offer (h : Spares o s₀ s) (hk : ctxOf o s k = none) : Spares o s₀ (offer k s) := by
  rw [Machine.offer]
  split
  · exact h
  · rename_i x hx
    have asked := Spares.submit (Spares.refl o s) (stepEntry s k x) fun j y hy hj => by
      have : k = j := Source.train.inj hj
      rw [this, hy] at hk
      cases hk
    split <;> rename_i heq <;> rw [heq] at asked
    · refine h.trans ((asked.setHeld fun j y hy hj => ?_).setTrain k ?_)
      · rcases List.mem_append.mp hj with hj | hj
        · exact hj
        · rw [asked.contexts, List.mem_singleton.mp hj, hk] at hy
          cases hy
      · have same : ctxOf o _ k = none := (asked.contexts k).trans hk
        rw [ctxIn_held]
        refine Eq.trans ?_ (same.symm : none = _)
        rwa [ctxOf, hx] at hk
    · exact h.trans asked

theorem Spares.enterWait (h : Spares o s₀ s) {x : Train} (hk : ctxOf o s k = none) (hx : x.owner ≠ o) :
    Spares o s₀ (enterWait k x s) := by
  have none : ctxIn o (some { x with state := .wait }) = none := ctxIn_eq_none.mpr fun z hz => by cases hz; exact hx
  refine Spares.offer (h.setTrain k (none.trans hk.symm)) ?_
  rw [ctxOf_setTrain_same, none]

theorem Spares.setUnit (h : Spares o s₀ s) {u : UnitNo} (x : CounterUnit) (hu : o ≠ .counter u) : Spares o s₀ (s.setUnit u x) :=
  h.trans
    { contexts := fun _ => rfl
      asks := fun _ _ _ h => h
      unit := fun v hv => by
        rw [State.setUnit_units]
        exact getElem_set_other _ _ fun e => hu (e ▸ hv)
      bank := fun _ _ _ => rfl
      reel := fun _ _ _ => rfl
      latches := fun _ h => h
      now := rfl }

theorem Spares.startUnit (h : Spares o s₀ s) {u : UnitNo} (d : Dir) (c : Chan) (n : Nat) (hk : ctxOf o s k = none)
    (hu : o ≠ .counter u) : Spares o s₀ (startUnit k u d c n s) := by
  simp only [Machine.startUnit]
  split
  · exact h.setTrain k ((ctxIn_eq_none.mpr fun z hz => by cases hz; exact hu.symm).trans hk.symm)
  · exact h.enterWait hk hu.symm

theorem Spares.recordEnd (h : Spares o s₀ s) {u : UnitNo} (x : Train) (hu : o ≠ .counter u) : Spares o s₀ (recordEnd u x s) := by
  rw [Machine.recordEnd]; split
  · exact h.setUnit _ hu
  · exact h

theorem Spares.startOpposite (h : Spares o s₀ s) {u : UnitNo} (d : Dir) (hu : o ≠ .counter u) : Spares o s₀ (startOpposite u d s) := by
  simp only [Machine.startOpposite]
  split
  · exact h
  · have set : Spares o s₀ (s.setUnit u { s.units[u] with opposite := 0 }) := h.setUnit _ hu
    split
    · rename_i k _ hf
      split
      · exact set
      · exact set.startUnit _ _ _ (ctxIn_eq_none.mpr fun z hz => by rw [firstFree_free hf] at hz; cases hz) hu
    · exact set

theorem owner_of_ctxOf_none {x : Train} (hk : ctxOf o s k = none) (hx : s.trains[k] = some x) : x.owner ≠ o :=
  ctxIn_eq_none.mp hk x hx

theorem Spares.endTrain (h : Spares o s₀ s) (hk : ctxOf o s k = none) : Spares o s₀ (endTrain k s) := by
  simp only [Machine.endTrain]
  split
  · exact h
  · rename_i x hx
    have freed := h.freeTrain hk
    split
    · rename_i u hu
      have other : o ≠ .counter u := hu ▸ (owner_of_ctxOf_none hk hx).symm
      exact (freed.recordEnd x other).startOpposite _ other
    · exact freed

theorem Spares.endAtIssued (h : Spares o s₀ s) (hk : ctxOf o s k = none) : Spares o s₀ (endAtIssued k s) := by
  simp only [Machine.endAtIssued]
  split
  · exact h
  · rename_i x hx
    have other := owner_of_ctxOf_none hk hx
    have unseen : ∀ y : Train, y.owner = x.owner → ctxIn o (some y) = none := fun y hy =>
      ctxIn_eq_none.mpr fun z hz => by cases hz; rw [hy]; exact other
    have cut : Spares o s₀ (s.setTrain k (some { x with planned := x.issued })) := h.setTrain k (Eq.trans (unseen _ (by rfl)) hk.symm)
    have still : ctxOf o (s.setTrain k (some { x with planned := x.issued })) k = none := by
      rw [ctxOf_setTrain_same]; exact unseen _ rfl
    repeat' split
    · exact cut.endTrain still
    · exact (cut.setTrain k (Eq.trans (unseen _ (by rfl)) still.symm)).takeBack k
    · exact cut.endTrain still
    · exact cut

theorem Spares.limitEnd (h : Spares o s₀ s) (hk : ctxOf o s k = none) : Spares o s₀ (limitEnd k s) := by
  simp only [Machine.limitEnd]
  repeat' split
  · exact h
  · exact h
  · exact h.endAtIssued hk

/-! The units. -/

theorem Spares.setBank (h : Spares o s₀ s) {b : BankNo} {x : Bank} (hs : ∀ r, o = .reel b r → x.state = s.banks[b].state)
    (hr : ∀ r, o = .reel b r → x.reels[r]? = s.banks[b].reels[r]?) : Spares o s₀ (s.setBank b x) := by
  refine h.trans ⟨fun _ => rfl, fun _ _ _ h => h, fun _ _ => rfl, fun b' r ho => ?_, fun b' r ho => ?_, fun _ h => h, rfl⟩ <;>
    rw [State.setBank_banks] <;> by_cases hb : b' = b
  · subst hb; rw [getElem_set_same]; exact hs r ho
  · rw [getElem_set_other _ _ hb]
  · subst hb; rw [getElem_set_same]; exact hr r ho
  · rw [getElem_set_other _ _ hb]

theorem Spares.setReel (h : Spares o s₀ s) {b : BankNo} {r : Nat} (p : Option (Fin 10)) (ho : o ≠ .reel b r) :
    Spares o s₀ (setReel b r p s) := by
  simp only [Machine.setReel]
  split
  · refine h.setBank (fun _ _ => rfl) fun r' hr => ?_
    have hne : r ≠ r' := fun e => ho (e ▸ hr)
    simp only [List.getElem?_set_ne hne]
  · exact h

theorem Spares.freeBank (h : Spares o s₀ s) {b : BankNo} (hb : ∀ r, o ≠ .reel b r) : Spares o s₀ (freeBank b s) := by
  have each : ∀ (l : List TrainNo) (t : State), (∀ k ∈ l, ctxOf o t k = none) → Spares o s₀ t →
      Spares o s₀ (l.foldl (fun s k => Machine.freeTrain k s) t) := by
    intro l
    induction l with
    | nil => exact fun _ _ ht => ht
    | cons k l ih =>
      intro t hl ht
      have hk := hl k List.mem_cons_self
      refine ih _ (fun j hj => ?_) (ht.freeTrain hk)
      exact (((Spares.refl o t).freeTrain hk).contexts j).trans (hl j (List.mem_cons_of_mem _ hj))
  refine each _ s (fun k hk => ?_) h
  obtain ⟨x, r, hx, ho⟩ := mem_bankTrains.mp hk
  exact ctxOf_of_owner hx (ho ▸ (hb r).symm)

theorem Spares.bankTest (h : Spares o s₀ s) {b : BankNo} (hb : ∀ r, o ≠ .reel b r) : Spares o s₀ (bankTest b s) := by
  simp only [Machine.bankTest]
  split
  · exact (h.freeBank hb).setBank (fun r hr => absurd hr (hb r)) fun r hr => absurd hr (hb r)
  · exact h

/-- A bank with a train whose verify timer has not expired does not return to IDLE (R114, R117). -/
theorem bankTest_waits {b : BankNo} {r : Nat} {x : Train} (hx : s.trains[k] = some x) (ho : x.owner = .reel b r)
    (hv : x.verify ≠ .expired) : bankTest b s = s := by
  rw [Machine.bankTest]
  refine if_neg fun h => ?_
  obtain ⟨-, -, all⟩ := h
  have finished := List.all_eq_true.mp all k (mem_bankTrains.mpr ⟨x, r, hx, ho⟩)
  rw [hx, Option.all_some, Train.finished, Bool.and_eq_true] at finished
  exact hv (beq_iff_eq.mp finished.2)

/-- A zero switch's Close edge at another bank. -/
theorem Spares.zeroClosed (h : Spares o s₀ s) {b : BankNo} (r : Nat) (hb : ∀ r, o ≠ .reel b r) : Spares o s₀ (zeroClosed b r s) := by
  simp only [Machine.zeroClosed]
  split
  · rename_i k hk
    split
    · exact h
    · have set := h.setReel (some 0) (hb r)
      have other : ctxOf o (Machine.setReel b r (some 0) s) k = none :=
        (((Spares.refl o s).setReel (some 0) (hb r)).contexts k).trans (ctxOf_of_trainOf hk (hb r).symm)
      exact (set.limitEnd other).bankTest hb
  · exact h

/-- A zero switch's Close edge at another reel of a bank that does not return to IDLE. -/
theorem Spares.zeroClosed_beside {b : BankNo} {r r' : Nat} (h : Spares (.reel b r) s₀ s) (hr : r' ≠ r) {y : Train}
    (hk : ctxOf (.reel b r) s k = some y) (hv : y.verify ≠ .expired) : Spares (.reel b r) s₀ (Machine.zeroClosed b r' s) := by
  simp only [Machine.zeroClosed]
  split
  · rename_i j hj
    have beside : (Owner.reel b r) ≠ .reel b r' := fun e => hr (by cases e; rfl)
    split
    · exact h
    · have set := (Spares.refl (.reel b r) s).setReel (r := r') (some 0) beside
      have other : ctxOf (.reel b r) (Machine.setReel b r' (some 0) s) j = none :=
        (set.contexts j).trans (ctxOf_of_trainOf hj beside.symm)
      have ended := set.limitEnd other
      obtain ⟨x, hx, ho, hy⟩ := ctxIn_eq_some.mp ((ended.contexts k).trans hk)
      rw [bankTest_waits hx ho (by rw [← hy] at hv; exact hv)]
      exact h.trans ended
  · exact h

/-- A unit's position set by a limit, and the AtLimit latch (R122). -/
def atLimit (u : UnitNo) (d : Dir) (s : State) : State :=
  setLatch .atLimit (s.setUnit u { s.units[u] with position := some (if d = .up then s.units[u].maximum else 0) })

theorem limitClosed_of_train {u : UnitNo} {d : Dir} (h : trainOf s (.counter u) = some k) :
    limitClosed u d s = if s.trains[k].any (·.dir == d) then limitEnd k (atLimit u d s) else atLimit u d s := by
  have h' : trainOf (atLimit u d s) (.counter u) = some k := h
  simp only [atLimit] at h'
  simp only [limitClosed, h', atLimit]
  rfl

theorem limitClosed_of_none {u : UnitNo} {d : Dir} (h : trainOf s (.counter u) = none) : limitClosed u d s = atLimit u d s := by
  have h' : trainOf (atLimit u d s) (.counter u) = none := h
  simp only [atLimit] at h'
  simp only [limitClosed, h', atLimit]

/-- A limit's Close edge at another unit. -/
theorem Spares.limitClosed (h : Spares o s₀ s) {u : UnitNo} (d : Dir) (hu : o ≠ .counter u) : Spares o s₀ (limitClosed u d s) := by
  have set : Spares o s (atLimit u d s) := ((Spares.refl o s).setUnit _ hu).setLatch _
  cases hk : trainOf s (.counter u) with
  | none => rw [limitClosed_of_none hk]; exact h.trans set
  | some k =>
    have other : ctxOf o s k = none := ctxOf_of_trainOf hk hu.symm
    rw [limitClosed_of_train hk]
    split
    · exact h.trans (set.limitEnd ((set.contexts k).trans other))
    · exact h.trans set

end

end Sys2Proof.Machine
end

section
/-! SUPPORT. A Close edge of a limit or a zero switch at the Unit Logic, to the end of its event (R102, R117, R122). -/

namespace Sys2Proof.Machine

set_option Elab.async false

/-! ### The walk of the Unit Logic -/

/-- A reel takes a Close edge (R117). -/
def reelEdge (i : InputNo) (b : BankNo) (s : State) (r : Nat) : State :=
  if s.banks[b].state = .zeroing ∧ (s.banks[b].reels[r]?).any (·.zero == i) then zeroClosed b r s else s

/-- A bank's reels take it in turn. -/
def bankEdge (i : InputNo) (s : State) (b : BankNo) : State := (List.range s.banks[b].reels.length).foldl (reelEdge i b) s

/-- The limit input of a direction. -/
def CounterUnit.limit (x : CounterUnit) : Dir → Byte
  | .up => x.top
  | .down => x.zero

/-- One limit of a unit takes it (R122). -/
def limitEdge (i : InputNo) (u : UnitNo) (d : Dir) (s : State) : State :=
  if s.units[u].inUse ∧ (s.units[u].limit d).toNat = i.val then limitClosed u d s else s

/-- A unit's limits take it, the top one first. -/
def unitEdge (i : InputNo) (s : State) (u : UnitNo) : State := limitEdge i u .down (limitEdge i u .up s)

theorem unitsClosed_eq (i : InputNo) (s : State) :
    unitsClosed i s = (List.finRange 4).foldl (unitEdge i) ((List.finRange 4).foldl (bankEdge i) s) := rfl

theorem foldl_unchanged {α σ : Type} {f : σ → α → σ} {l : List α} {s : σ} (h : ∀ x ∈ l, f s x = s) : l.foldl f s = s := by
  induction l with
  | nil => rfl
  | cons x l ih =>
    rw [List.foldl_cons, h x List.mem_cons_self]
    exact ih fun y hy => h y (List.mem_cons_of_mem _ hy)

/-- What each step of a fold over a list keeps, the fold keeps. -/
theorem foldl_mem_invariant {α σ : Type} {P : σ → Prop} {f : σ → α → σ} {l : List α} (h : ∀ s, ∀ x ∈ l, P s → P (f s x)) {s : σ}
    (hs : P s) : P (l.foldl f s) := by
  induction l generalizing s with
  | nil => exact hs
  | cons x l ih => exact ih (fun t y hy => h t y (List.mem_cons_of_mem _ hy)) (h s x List.mem_cons_self hs)

/-- A list without doubles, cut at one of its items. -/
theorem cut_at {α : Type} {x : α} {l : List α} (h : x ∈ l) (hd : l.Nodup) :
    ∃ a b, l = a ++ x :: b ∧ (∀ y ∈ a, y ≠ x) ∧ ∀ y ∈ b, y ≠ x := by
  obtain ⟨a, b, rfl⟩ := List.append_of_mem h
  obtain ⟨-, hb, hab⟩ := List.nodup_append.mp hd
  exact ⟨a, b, rfl, fun y hy => hab y hy x List.mem_cons_self, fun y hy e => (List.nodup_cons.mp hb).1 (e ▸ hy)⟩

section
variable {i : InputNo} {o : Owner} {s₀ s t : State} {k : TrainNo}

theorem Spares.reelEdge (h : Spares o s₀ s) {b : BankNo} (r : Nat) (hb : ∀ r, o ≠ .reel b r) : Spares o s₀ (reelEdge i b s r) := by
  rw [Machine.reelEdge]; split
  · exact h.zeroClosed r hb
  · exact h

theorem Spares.bankEdge (h : Spares o s₀ s) {b : BankNo} (hb : ∀ r, o ≠ .reel b r) : Spares o s₀ (bankEdge i s b) :=
  foldl_invariant (P := Spares o s₀) (fun _ r hs => hs.reelEdge r hb) _ h

theorem Spares.limitEdge (h : Spares o s₀ s) {u : UnitNo} (d : Dir) (hu : o ≠ .counter u) : Spares o s₀ (limitEdge i u d s) := by
  rw [Machine.limitEdge]; split
  · exact h.limitClosed d hu
  · exact h

theorem Spares.unitEdge (h : Spares o s₀ s) {u : UnitNo} (hu : o ≠ .counter u) : Spares o s₀ (unitEdge i s u) :=
  (h.limitEdge .up hu).limitEdge .down hu

/-! ### What a spared owner keeps -/

/-- A spared context is the same but for its held flag. -/
theorem Spares.train (h : Spares o s t) {x : Train} (hx : s.trains[k] = some x) (ho : x.owner = o) :
    ∃ b, t.trains[k] = some { x with held := b } := by
  have before : ctxOf o s k = some x.unheld := ctxIn_eq_some.mpr ⟨x, hx, ho, rfl⟩
  obtain ⟨y, hy, -, he⟩ := ctxIn_eq_some.mp ((h.contexts k).trans before)
  refine ⟨y.held, hy.trans (congrArg some ?_)⟩
  simp only [Train.unheld, Train.mk.injEq] at he
  obtain ⟨h₁, h₂, h₃, h₄, h₅, h₆, h₇, h₈, h₉, -, h₁₁, h₁₂⟩ := he
  cases y
  simp only at h₁ h₂ h₃ h₄ h₅ h₆ h₇ h₈ h₉ h₁₁ h₁₂
  subst h₁ h₂ h₃ h₄ h₅ h₆ h₇ h₈ h₉ h₁₁ h₁₂
  rfl

theorem Spares.trainOf (h : Spares o s t) : trainOf t o = trainOf s o := by
  simp only [trainOf_eq, h.contexts]

theorem Spares.asks_not (h : Spares o s t) {x : Train} (hx : s.trains[k] = some x) (ho : x.owner = o) (hk : ¬ Asks k s) :
    ¬ Asks k t := fun ht => hk (h.asks k x.unheld (ctxIn_eq_some.mpr ⟨x, hx, ho, rfl⟩) ht)

theorem trainGranted_other {j : TrainNo} (s : State) (h : k ≠ j) : (trainGranted j s).trains[k] = s.trains[k] := by
  cases hj : s.trains[j] with
  | none => simp only [trainGranted, hj]
  | some x => simp only [trainGranted, hj]; exact getElem_set_other _ _ h

/-- A train that asks for nothing is as it was at the end of the event. -/
theorem keptByPasses_resting (k : TrainNo) (x : Option Train) : KeptByPasses fun s => s.trains[k] = x ∧ ¬ Asks k s where
  removed e a b s h _ _ := by
    obtain ⟨hx, hk⟩ := h
    refine ⟨by rw [removeAtPass_trains]; exact hx, fun ha => hk ?_⟩
    rcases ha with ha | ha
    · rw [removeAtPass_queue] at ha; exact .inl ha
    · exact .inr (((Drains.refl s).removeAtPass e a b).held k ha)
  kick e n _ _ s h he _ _ _ := by
    obtain ⟨hx, hk⟩ := h
    constructor
    · rcases grantKick_trains e n s with ht | ⟨j, t, -, hs, ht, hg⟩
      · rw [ht]; exact hx
      · have hne : k ≠ j := fun e' => hk (.inl ⟨e, he, e' ▸ hs⟩)
        rw [hg, trainGranted_other t hne, ht]; exact hx
    · rintro (ha | ha)
      · rw [grantKick_queue] at ha; exact hk (.inl ha)
      · exact hk (.inr (((Drains.refl s).grantKick e n).held k ha))
  hold e n _ _ a s h _ _ _ _ := by
    obtain ⟨hx, hk⟩ := h
    refine ⟨by rw [grantHold_trains]; exact hx, fun ha => hk ?_⟩
    rcases ha with ha | ha
    · rw [grantHold_queue] at ha; exact .inl ha
    · exact .inr (((Drains.refl s).grantHold e n a).held k ha)
  join j s h hj hp := by
    obtain ⟨hx, hk⟩ := h
    have hne : k ≠ j := fun e => hk (.inr (e ▸ hj))
    cases ht : s.trains[j] with
    | none => rw [joinHeld_of_none ht]; exact ⟨hx, hk⟩
    | some y =>
      obtain ⟨q, b, e, hq⟩ := joinHeld_of_some ht hp
      rw [e]
      refine ⟨(getElem_set_other _ _ hne).trans hx, ?_⟩
      rintro (⟨e', he', hs⟩ | ha)
      · rcases hq e' he' with rfl | ⟨z, hz, -, -, -, h₄, -⟩
        · exact hne (Source.train.inj hs).symm
        · exact hk (.inl ⟨z, hz, h₄.symm.trans hs⟩)
      · exact hk (.inr ha)
  shrink _ _ h hl := ⟨h.1, fun ha => h.2 (ha.imp id (hl k))⟩
  stay q s h hq := ⟨h.1, fun ha => h.2 (ha.imp (fun ⟨e, he, hs⟩ => by
    obtain ⟨e', he', w, rfl⟩ := hq e he
    exact ⟨e', he', hs⟩) id)⟩
  mark _ _ h := h

theorem arbitrate_resting {x : Train} (hx : s.trains[k] = some x) (hk : ¬ Asks k s) :
    (arbitrate s).trains[k] = some x ∧ ¬ Asks k (arbitrate s) :=
  arbitrate_invariant (keptByPasses_resting k (some x)) ⟨hx, hk⟩

/-- What a train keeps of its course when its owner is spared and the event ends. -/
theorem Spares.course (h : Spares o s t) {x : Train} (hx : s.trains[k] = some x) (ho : x.owner = o) :
    ∃ z, (arbitrate t).trains[k] = some z ∧ z.planned = x.planned ∧ z.owner = x.owner := by
  obtain ⟨b, hb⟩ := h.train hx ho
  obtain ⟨z, hz, hc⟩ := (SameCourses.refl t).arbitrate.of_some hb
  simp only [Train.course, Prod.mk.injEq] at hc
  obtain ⟨howner, -, -, hplanned⟩ := hc
  exact ⟨z, hz, hplanned, howner⟩

/-! ### The limit end -/

theorem limitEnd_of_pulsing {x : Train} (hx : s.trains[k] = some x) (hs : x.state = .pulse ∨ x.state = .gap) :
    limitEnd k s = s.setTrain k (some { x with planned := x.issued }) := by
  simp only [limitEnd, hx]
  split
  · rename_i h
    have ended : x.planned = x.issued := h.resolve_right fun hv => by rw [hv] at hs; rcases hs with hs | hs <;> cases hs
    have same : ({ x with planned := x.issued } : Train) = x := by cases x; cases ended; rfl
    rw [same, State.setTrain, ← hx, set_self]
  · simp only [endAtIssued, hx]
    rcases hs with hs | hs <;> rw [hs]

theorem limitEnd_of_waiting {x : Train} (hx : s.trains[k] = some x) (hs : x.state = .wait) (hn : x.issued < x.planned) :
    limitEnd k s = endAtIssued k s := by
  simp only [limitEnd, hx]
  refine if_neg ?_
  rintro (h | h)
  · omega
  · rw [hs] at h; cases h

/-- A unit's wiring and position. -/
def State.face (u : UnitNo) (s : State) : Bool × Byte × Option Nat := (s.units[u].inUse, s.units[u].zero, s.units[u].position)

theorem face_of_units {u : UnitNo} (h : t.units = s.units) : t.face u = s.face u := by simp only [State.face, h]

theorem face_setUnit {u u' : UnitNo} {x : CounterUnit}
    (h : (x.inUse, x.zero, x.position) = s.face u') : (s.setUnit u' x).face u = s.face u := by
  simp only [State.face, State.setUnit_units]
  by_cases hu : u = u'
  · subst hu; rw [getElem_set_same]; exact h
  · rw [getElem_set_other _ _ hu]

theorem kept_startUnit (k : TrainNo) (u : UnitNo) (d : Dir) (c : Chan) (n : Nat) (s : State) : Kept s (startUnit k u d c n s) := by
  simp only [startUnit]; split
  · exact kept_setTrain _ _ s
  · exact kept_enterWait _ _ s

section
variable (u : UnitNo)

theorem face_recordEnd (u' : UnitNo) (x : Train) (s : State) : (recordEnd u' x s).face u = s.face u := by
  rw [recordEnd]; split
  · exact face_setUnit rfl
  · rfl

theorem face_startOpposite (u' : UnitNo) (d : Dir) (s : State) : (startOpposite u' d s).face u = s.face u := by
  have set : (s.setUnit u' { s.units[u'] with opposite := 0 }).face u = s.face u := face_setUnit rfl
  simp only [startOpposite]
  repeat' split
  · rfl
  · exact set
  · exact (face_of_units (kept_startUnit _ _ _ _ _ _).units).trans set
  · exact set

theorem face_endTrain (k : TrainNo) (s : State) : (endTrain k s).face u = s.face u := by
  have freed : (freeTrain k s).face u = s.face u := face_of_units (kept_freeTrain k s).units
  simp only [endTrain]
  repeat' split
  · rfl
  · exact (face_startOpposite u _ _ _).trans ((face_recordEnd u _ _ _).trans freed)
  · exact freed

theorem face_endAtIssued (k : TrainNo) (s : State) : (endAtIssued k s).face u = s.face u := by
  simp only [endAtIssued]
  repeat' split
  · rfl
  · exact face_endTrain u k _
  · exact face_of_units (kept_takeBack k _).units
  · exact face_endTrain u k _
  · rfl

theorem face_limitEnd (k : TrainNo) (s : State) : (limitEnd k s).face u = s.face u := by
  simp only [limitEnd]
  repeat' split
  · rfl
  · rfl
  · exact face_endAtIssued u k s

theorem face_limitClosed (d : Dir) (s : State) : (limitClosed u d s).face u = (atLimit u d s).face u := by
  cases hk : trainOf s (.counter u) with
  | none => rw [limitClosed_of_none hk]
  | some k =>
    rw [limitClosed_of_train hk]
    split
    · exact face_limitEnd u k _
    · rfl

theorem atLimit_unit (d : Dir) (s : State) :
    (atLimit u d s).units[u] = { s.units[u] with position := some (if d = .up then s.units[u].maximum else 0) } := by
  rw [atLimit, setLatch_units, State.setUnit_units, getElem_set_same]

theorem atLimit_latch (d : Dir) (s : State) : (atLimit u d s).latches.getLsbD 11 = true := by
  simp [atLimit, latchMask, latchBit]

/-- A counter unit's train ends its event with the AtLimit latch set. -/
theorem limitClosed_latch (d : Dir) (s : State) : (limitClosed u d s).latches.getLsbD 11 = true := by
  cases hk : trainOf s (.counter u) with
  | none => rw [limitClosed_of_none hk]; exact atLimit_latch u d s
  | some k =>
    rw [limitClosed_of_train hk]
    split
    · have other : ctxOf .bare (atLimit u d s) k = none := ctxOf_of_trainOf (s := atLimit u d s) (o' := .counter u) hk (by simp)
      exact ((Spares.refl .bare (atLimit u d s)).limitEnd other).latches 11 (atLimit_latch u d s)
    · exact atLimit_latch u d s

end

/-! ### The limit of a unit -/

section
variable {u : UnitNo} {d : Dir}

/-- Of a unit in use whose limits differ, the limit that is this input's takes the edge and the other does not. -/
theorem unitEdge_of_limit (hu : s.units[u].inUse = true) (hz : s.units[u].top ≠ s.units[u].zero)
    (hl : (s.units[u].limit d).toNat = i.val) : unitEdge i s u = limitClosed u d s := by
  have differ : s.units[u].top.toNat ≠ s.units[u].zero.toNat := fun e => hz (BitVec.eq_of_toNat_eq e)
  cases d with
  | up =>
    have hl' : s.units[u].top.toNat = i.val := hl
    have upper : limitEdge i u .up s = limitClosed u .up s := if_pos ⟨hu, hl⟩
    have face : (limitClosed u .up s).face u = (true, s.units[u].zero, some s.units[u].maximum) := by
      rw [face_limitClosed, State.face, atLimit_unit, hu]
      rfl
    have zero : (limitClosed u .up s).units[u].zero = s.units[u].zero := congrArg (fun f => f.2.1) face
    rw [unitEdge, upper, limitEdge, if_neg]
    rintro ⟨-, h⟩
    rw [CounterUnit.limit, zero] at h
    exact differ (hl'.trans h.symm)
  | down =>
    have hl' : s.units[u].zero.toNat = i.val := hl
    have upper : limitEdge i u .up s = s := if_neg fun h => differ (h.2.trans hl'.symm)
    rw [unitEdge, upper]
    exact if_pos ⟨hu, hl⟩

/-- A unit that does not name the input takes no edge of it. -/
theorem unitEdge_of_unnamed (h : s.units[u].inUse = true → s.units[u].top.toNat ≠ i.val ∧ s.units[u].zero.toNat ≠ i.val) :
    unitEdge i s u = s := by
  have up : limitEdge i u .up s = s := if_neg fun hn => (h hn.1).1 hn.2
  rw [unitEdge, up]
  exact if_neg fun hn => (h hn.1).2 hn.2

/-- The Unit Logic's work before and after a unit's own spares its owner. -/
theorem unitsClosed_at (i : InputNo) (u : UnitNo) (s : State) :
    ∃ s₂, Spares (.counter u) s s₂ ∧ Spares (.counter u) (unitEdge i s₂ u) (unitsClosed i s) ∧
      ((∀ u' : UnitNo, u' ≠ u → s.units[u'].inUse = true → s.units[u'].top.toNat ≠ i.val ∧ s.units[u'].zero.toNat ≠ i.val) →
        unitsClosed i s = unitEdge i s₂ u) := by
  obtain ⟨a, b, hl, ha, hb⟩ := cut_at (List.mem_finRange u) (List.nodup_finRange 4)
  obtain ⟨s₁, banks, whole⟩ : ∃ s₁, (∀ v : UnitNo, Spares (.counter v) s s₁) ∧
      unitsClosed i s = (List.finRange 4).foldl (unitEdge i) s₁ :=
    ⟨_, fun v => foldl_invariant (P := Spares (.counter v) s) (fun _ _ hs => hs.bankEdge fun _ => by simp) _ (Spares.refl _ s),
      unitsClosed_eq i s⟩
  have others : ∀ (l : List UnitNo) (t : State), (∀ v ∈ l, v ≠ u) → Spares (.counter u) t (l.foldl (unitEdge i) t) := fun l t hl =>
    foldl_mem_invariant (P := Spares (.counter u) t) (fun _ v hv hs => hs.unitEdge fun e => hl v hv (by cases e; rfl)) (Spares.refl _ t)
  rw [hl, List.foldl_append, List.foldl_cons] at whole
  refine ⟨a.foldl (unitEdge i) s₁, (banks u).trans (others a s₁ ha), whole ▸ others b _ hb, fun hn => ?_⟩
  have before : a.foldl (unitEdge i) s₁ = s₁ := foldl_unchanged fun v hv => unitEdge_of_unnamed (by
    rw [(banks v).unit v rfl]; exact hn v (ha v hv))
  rw [whole, before]
  refine foldl_unchanged fun v hv => unitEdge_of_unnamed ?_
  have spared : Spares (.counter v) s (unitEdge i s₁ u) := (banks v).unitEdge fun e => hb v hv (by cases e; rfl)
  rw [spared.unit v rfl]
  exact hn v (hb v hv)

/-- A counter unit's train that ends where no opposite count is pending is gone (R97, R101). -/
theorem endTrain_gone {x : Train} (hx : s.trains[k] = some x) (ho : x.owner = .counter u) (hp : s.units[u].opposite = 0) :
    Gone k (endTrain k s) := by
  have pending : (recordEnd u x (freeTrain k s)).units[u].opposite = 0 := by
    have freed : (freeTrain k s).units[u].opposite = 0 := by rw [(kept_freeTrain k s).units]; exact hp
    by_cases hi : 0 < x.issued
    · rw [recordEnd, if_pos hi, State.setUnit_units, getElem_set_same]; exact freed
    · rw [recordEnd, if_neg hi]; exact freed
  have run : endTrain k s = recordEnd u x (freeTrain k s) := by
    simp only [endTrain, hx, ho, startOpposite, pending, if_true]
  rw [run]
  exact ((Drains.refl _).recordEnd u x).gone (freeTrain_gone k s)

end

end

end Sys2Proof.Machine
end

section
/-! SUPPORT. The edges of limits and zero switches, and the consumers of an edge together (R12, R14 to R17, R102, R117, R122, R166). -/

namespace Sys2Proof.Machine

set_option Elab.async false

/-! ### A limit's Close edge (R102, R122) -/

section
variable {i : InputNo} {u : UnitNo} {d : Dir} {s : State}

theorem owner_of_trainOf {o : Owner} {k : TrainNo} {y : Train} (hk : trainOf s o = some k) (hy : s.trains[k] = some y) : y.owner = o := by
  obtain ⟨x, hx, ho⟩ := trainOf_eq_some hk
  rw [hy] at hx
  cases hx
  exact ho

/-- A waiting counter-unit train brought to its end ends at once. -/
theorem endAtIssued_of_waiting_unit {k : TrainNo} {x : Train} (hx : s.trains[k] = some x) (hs : x.state = .wait)
    (ho : x.owner = .counter u) : endAtIssued k s = endTrain k (s.setTrain k (some { x with planned := x.issued })) := by
  simp only [endAtIssued, hx, hs, ho]

/-- What a limit's Close edge does at its unit, and what is left of the unit and its train at the end of the event. -/
theorem limitEdge_closes (hu : s.units[u].inUse = true) (hz : s.units[u].top ≠ s.units[u].zero)
    (hl : (s.units[u].limit d).toNat = i.val) :
    let x := s.units[u]
    let t := deliver i true .unitLogic s
    t.units[u].position = some (if d = .up then x.maximum else 0) ∧ t.latches.getLsbD 11 = true ∧
    ∀ (k : TrainNo) (y : Train), trainOf s (.counter u) = some k → s.trains[k] = some y →
      (y.dir ≠ d → ∃ z, t.trains[k] = some z ∧ z.planned = y.planned ∧ z.owner = y.owner) ∧
      (y.dir = d → y.state = .pulse ∨ y.state = .gap →
        ∃ z, t.trains[k] = some z ∧ z.planned = y.issued ∧ z.owner = y.owner ∧ t.units[u].opposite = x.opposite) ∧
      (y.dir = d → y.state = .wait → y.issued < y.planned → x.opposite = 0 →
        (∀ u' : UnitNo, u' ≠ u → s.units[u'].inUse = true →
          s.units[u'].top.toNat ≠ i.val ∧ s.units[u'].zero.toNat ≠ i.val) →
        t.trains[k] = none ∧ ∀ e ∈ t.queue, e.source ≠ .train k) := by
  intro x t
  obtain ⟨s₂, before, after, alone⟩ := unitsClosed_at i u s
  have unit : s₂.units[u] = s.units[u] := before.unit u rfl
  have here : unitEdge i s₂ u = limitClosed u d s₂ := unitEdge_of_limit (by rw [unit]; exact hu) (by rw [unit]; exact hz)
    (by rw [unit]; exact hl)
  rw [here] at after alone
  have units : t.units[u] = (limitClosed u d s₂).units[u] := by
    have kept : t.units = (unitsClosed i s).units := (kept_arbitrate _).units
    rw [kept]
    exact after.unit u rfl
  refine ⟨?_, ((Drains.refl _).arbitrate).latches 11 (after.latches 11 (limitClosed_latch u d s₂)), fun k y hk hy => ?_⟩
  · have face : (limitClosed u d s₂).units[u].position = (atLimit u d s₂).units[u].position :=
      congrArg (fun f => f.2.2) (face_limitClosed u d s₂)
    rw [units, face, atLimit_unit, unit]
  · have ho := owner_of_trainOf hk hy
    obtain ⟨b, hb⟩ := before.train hy ho
    have closes : limitClosed u d s₂ = if y.dir == d then limitEnd k (atLimit u d s₂) else atLimit u d s₂ := by
      rw [limitClosed_of_train (before.trainOf.trans hk), hb]
      rfl
    refine ⟨fun hd => ?_, fun hd hs => ?_, fun hd hs hn hp hn' => ?_⟩
    · rw [if_neg fun h => hd (beq_iff_eq.mp h)] at closes
      rw [closes] at after
      exact after.course (x := { y with held := b }) hb ho
    · have cut : limitClosed u d s₂ = (atLimit u d s₂).setTrain k (some { y with held := b, planned := y.issued }) := by
        rw [closes, if_pos (beq_iff_eq.mpr hd)]
        exact limitEnd_of_pulsing (s := atLimit u d s₂) (x := { y with held := b }) hb hs
      have set : (limitClosed u d s₂).trains[k] = some { y with held := b, planned := y.issued } := by
        rw [cut, State.setTrain_trains, getElem_set_same]
      obtain ⟨z, hz, planned, owner⟩ := after.course set ho
      refine ⟨z, hz, planned, owner, ?_⟩
      rw [units, cut, State.setTrain_units, atLimit_unit, unit]
    · have waits := limitEnd_of_waiting (s := atLimit u d s₂) (k := k) (x := { y with held := b }) hb hs hn
      have ends := endAtIssued_of_waiting_unit (s := atLimit u d s₂) (k := k) (x := { y with held := b }) hb hs ho
      have gone : Gone k (limitClosed u d s₂) := by
        rw [closes, if_pos (beq_iff_eq.mpr hd), waits, ends]
        refine endTrain_gone (u := u) (getElem_set_same _ _ _) ho ?_
        rw [State.setTrain_units, atLimit_unit, unit]
        exact hp
      have whole : t = arbitrate (limitClosed u d s₂) := congrArg arbitrate (alone hn')
      obtain ⟨free, quiet, -⟩ := whole ▸ ((Drains.refl (limitClosed u d s₂)).arbitrate).gone gone
      exact ⟨free, quiet⟩

end

/-! ### A zero switch's Close edge (R102, R117) -/

/-- What the model holds of one reel. -/
def State.reelAt (b : BankNo) (r : Nat) (s : State) : Option Reel := s.banks[b].reels[r]?

section
variable {i : InputNo} {b : BankNo} {r : Nat} {s : State}

theorem reelAt_of_banks {t : State} (h : t.banks = s.banks) : t.reelAt b r = s.reelAt b r := by simp only [State.reelAt, h]

theorem reelAt_setBank {b' : BankNo} {x : Bank} (h : b = b' → x.reels[r]? = s.banks[b'].reels[r]?) :
    (s.setBank b' x).reelAt b r = s.reelAt b r := by
  simp only [State.reelAt, State.setBank_banks]
  by_cases hb : b = b'
  · subst hb; rw [getElem_set_same]; exact h rfl
  · rw [getElem_set_other _ _ hb]

theorem reelAt_setReel {b' : BankNo} {r' : Nat} (p : Option (Fin 10)) (s : State) (h : b = b' → r' ≠ r) :
    (setReel b' r' p s).reelAt b r = s.reelAt b r := by
  simp only [setReel]
  split
  · refine reelAt_setBank fun hb => ?_
    simp only [List.getElem?_set_ne (h hb)]
  · rfl

theorem reelAt_setReel_same {x : Reel} (p : Option (Fin 10)) (h : s.reelAt b r = some x) :
    (setReel b r p s).reelAt b r = some { x with position := p } := by
  have hx : s.banks[b].reels[r]? = some x := h
  have bound : r < s.banks[b].reels.length := (List.getElem?_eq_some_iff.mp hx).1
  simp only [setReel, hx, State.reelAt, State.setBank_banks]
  rw [getElem_set_same]
  simp only [List.getElem?_set_self bound]

theorem setReel_trains (b : BankNo) (r : Nat) (p : Option (Fin 10)) (s : State) : (setReel b r p s).trains = s.trains := by
  simp only [setReel]; split <;> rfl

theorem setReel_now (b : BankNo) (r : Nat) (p : Option (Fin 10)) (s : State) : (setReel b r p s).now = s.now := by
  simp only [setReel]; split <;> rfl

theorem endTrain_banks (k : TrainNo) (s : State) : (endTrain k s).banks = s.banks := by
  have freed : (freeTrain k s).banks = s.banks := (kept_freeTrain k s).banks
  have recorded : ∀ u x t, (recordEnd u x t).banks = t.banks := fun u x t => by rw [recordEnd]; split <;> rfl
  have opposite : ∀ u d t, (startOpposite u d t).banks = t.banks := fun u d t => by
    simp only [startOpposite]
    repeat' split
    · rfl
    · rfl
    · exact (kept_startUnit _ _ _ _ _ _).banks
    · rfl
  simp only [endTrain]
  repeat' split
  · rfl
  · exact (opposite _ _ _).trans ((recorded _ _ _).trans freed)
  · exact freed

theorem limitEnd_banks (k : TrainNo) (s : State) : (limitEnd k s).banks = s.banks := by
  have issued : (endAtIssued k s).banks = s.banks := by
    simp only [endAtIssued]
    repeat' split
    · rfl
    · exact endTrain_banks k _
    · exact (kept_takeBack k _).banks
    · exact endTrain_banks k _
    · rfl
  simp only [limitEnd]
  repeat' split
  · rfl
  · rfl
  · exact issued

theorem reelAt_bankTest (b' : BankNo) (s : State) : (bankTest b' s).reelAt b r = s.reelAt b r := by
  simp only [bankTest]
  split
  · have freed : (freeBank b' s).banks = s.banks := (kept_freeBank b' s).banks
    refine (reelAt_setBank fun _ => ?_).trans (reelAt_of_banks freed)
    rw [freed]
  · rfl

theorem reelAt_zeroClosed {b' : BankNo} {r' : Nat} (s : State) (h : b = b' → r' ≠ r) :
    (zeroClosed b' r' s).reelAt b r = s.reelAt b r := by
  simp only [zeroClosed]
  repeat' split
  · rfl
  · rw [reelAt_bankTest, reelAt_of_banks (limitEnd_banks _ _), reelAt_setReel _ s h]
  · rfl

theorem reelAt_reelEdge {b' : BankNo} {r' : Nat} (s : State) (h : b = b' → r' ≠ r) :
    (reelEdge i b' s r').reelAt b r = s.reelAt b r := by
  rw [reelEdge]; split
  · exact reelAt_zeroClosed s h
  · rfl

theorem reelAt_bankEdge {b' : BankNo} (s : State) (h : b ≠ b') : (bankEdge i s b').reelAt b r = s.reelAt b r :=
  foldl_view (v := State.reelAt b r) (fun s _ => reelAt_reelEdge s fun e => absurd e h) _ s

theorem reelAt_unitEdge (u : UnitNo) (s : State) : (unitEdge i s u).reelAt b r = s.reelAt b r := by
  have closed : ∀ d t, (limitClosed u d t).reelAt b r = t.reelAt b r := fun d t => by
    cases hk : trainOf t (.counter u) with
    | none => rw [limitClosed_of_none hk]; rfl
    | some k =>
      rw [limitClosed_of_train hk]
      split
      · exact reelAt_of_banks (limitEnd_banks _ _)
      · rfl
  have edge : ∀ d t, (limitEdge i u d t).reelAt b r = t.reelAt b r := fun d t => by
    rw [limitEdge]; split
    · exact closed d t
    · rfl
  exact (edge _ _).trans (edge _ _)

/-- A waiting reel's train brought to its end goes to VERIFY, and asks for nothing (R98, R102). -/
theorem limitEnd_of_waiting_reel {k : TrainNo} {x : Train} (hx : s.trains[k] = some x) (hs : x.state = .wait)
    (hn : x.issued < x.planned) (ho : x.owner = .reel b r) :
    ¬ Asks k (limitEnd k s) ∧ ∃ z, (limitEnd k s).trains[k] = some z ∧ z.owner = x.owner ∧ z.planned = x.issued ∧ z.state = .verify ∧
      z.verify = .running (s.now + x.profile.start * 1000) := by
  obtain ⟨t, taken, rests⟩ : ∃ t, limitEnd k s = takeBack k t ∧ t.trains[k] = some { x with
      planned := x.issued, state := .verify, held := false, verify := .running (s.after x.profile.start) } := by
    rw [limitEnd_of_waiting hx hs hn]
    simp only [endAtIssued, hx, hs, ho]
    exact ⟨_, rfl, getElem_set_same _ _ _⟩
  obtain ⟨quiet, unheld⟩ := takeBack_no_request k t
  obtain ⟨h, hz⟩ := ((Spares.refl x.owner t).takeBack k).train rests rfl
  rw [taken]
  exact ⟨fun ha => ha.elim (fun ⟨e, he, hs⟩ => quiet e he hs) unheld, _, hz, rfl, rfl, rfl, rfl⟩

section
variable {k : TrainNo} {y : Train} (hy : s.trains[k] = some y) (ho : y.owner = .reel b r) (hv : y.verify ≠ .expired)
include hy ho hv

/-- The other reels of a bank spare one whose train has not verified. -/
theorem reelEdges_beside {l : List Nat} (hl : ∀ r' ∈ l, r' ≠ r) : Spares (.reel b r) s (l.foldl (reelEdge i b) s) := by
  have start : ctxOf (.reel b r) s k = some y.unheld := ctxIn_eq_some.mpr ⟨y, hy, ho, rfl⟩
  refine foldl_mem_invariant (P := Spares (.reel b r) s) (fun t r' hr' ht => ?_) (Spares.refl _ s)
  rw [reelEdge]; split
  · exact ht.zeroClosed_beside (hl r' hr') ((ht.contexts k).trans start) hv
  · exact ht

/-- The Unit Logic's work before and after a reel's own spares its train while that has not verified. -/
theorem unitsClosed_at_reel {reel : Reel} (hr : s.reelAt b r = some reel) :
    ∃ s₂, Spares (.reel b r) s s₂ ∧ s₂.reelAt b r = s.reelAt b r ∧
      (unitsClosed i s).reelAt b r = (reelEdge i b s₂ r).reelAt b r ∧
      ∀ z, (reelEdge i b s₂ r).trains[k] = some z → z.owner = .reel b r → z.verify ≠ .expired →
        Spares (.reel b r) (reelEdge i b s₂ r) (unitsClosed i s) := by
  obtain ⟨l, l', hl, hlb, hlb'⟩ := cut_at (List.mem_finRange b) (List.nodup_finRange 4)
  have others : ∀ (l : List BankNo) (t : State), (∀ b' ∈ l, b' ≠ b) →
      Spares (.reel b r) t (l.foldl (bankEdge i) t) ∧ (l.foldl (bankEdge i) t).reelAt b r = t.reelAt b r := fun l t hl =>
    ⟨foldl_mem_invariant (P := Spares (.reel b r) t) (fun _ b' hb' hs => hs.bankEdge fun _ e => hl b' hb' (by cases e; rfl))
      (Spares.refl _ t),
     foldl_mem_invariant (P := fun t' => t'.reelAt b r = t.reelAt b r)
      (fun t' b' hb' ht => (reelAt_bankEdge t' (hl b' hb').symm).trans ht) rfl⟩
  obtain ⟨s₁, hs₁⟩ : ∃ s₁, s₁ = l.foldl (bankEdge i) s := ⟨_, rfl⟩
  obtain ⟨before, same⟩ := others l s hlb
  rw [← hs₁] at before same
  have bound : r < s₁.banks[b].reels.length := (List.getElem?_eq_some_iff.mp (same.trans hr)).1
  obtain ⟨m, m', hm, hmr, hmr'⟩ := cut_at (List.mem_range.mpr bound) (List.nodup_range)
  have whole : unitsClosed i s = (List.finRange 4).foldl (unitEdge i)
      (l'.foldl (bankEdge i) (m'.foldl (reelEdge i b) (reelEdge i b (m.foldl (reelEdge i b) s₁) r))) := by
    have cut : (List.finRange 4).foldl (bankEdge i) s = l'.foldl (bankEdge i) (bankEdge i s₁ b) := by
      rw [hl, List.foldl_append, List.foldl_cons, hs₁]
    rw [unitsClosed_eq, cut, bankEdge, hm, List.foldl_append, List.foldl_cons]
  obtain ⟨held, hy₁⟩ := before.train hy ho
  have beside := reelEdges_beside (i := i) (s := s₁) (y := { y with held := held }) hy₁ ho hv hmr
  have kept : ∀ (m : List Nat) (t : State), (∀ r' ∈ m, r' ≠ r) → (m.foldl (reelEdge i b) t).reelAt b r = t.reelAt b r := fun m t hm =>
    foldl_mem_invariant (P := fun t' => t'.reelAt b r = t.reelAt b r)
      (fun t' r' hr' ht => (reelAt_reelEdge t' fun _ => hm r' hr').trans ht) rfl
  refine ⟨m.foldl (reelEdge i b) s₁, before.trans beside, (kept m s₁ hmr).trans same, ?_, fun z hz hzo hzv => ?_⟩
  · rw [whole, foldl_view (v := State.reelAt b r) (fun s u => reelAt_unitEdge u s), (others l' _ hlb').2, kept m' _ hmr']
  · rw [whole]
    have units : ∀ t : State, Spares (.reel b r) t ((List.finRange 4).foldl (unitEdge i) t) := fun t =>
      foldl_invariant (P := Spares (.reel b r) t) (fun _ _ hs => hs.unitEdge (by simp)) _ (Spares.refl _ t)
    exact ((reelEdges_beside hz hzo hzv hmr').trans (others l' _ hlb').1).trans (units _)

end

/-- What a zero switch's Close edge does at a zeroing reel, and what is left of the reel and its train at the end of the event. -/
theorem zeroEdge_closes {reel : Reel} {k : TrainNo} {y : Train} (hs : s.banks[b].state = .zeroing)
    (hr : s.banks[b].reels[r]? = some reel) (hz : reel.zero = i) (hp : reel.position = none)
    (hk : trainOf s (.reel b r) = some k) (hy : s.trains[k] = some y) (hv : y.verify ≠ .expired) :
    let t := deliver i true .unitLogic s
    t.banks[b].reels[r]? = some { reel with position := some 0 } ∧
    (y.state = .pulse ∨ y.state = .gap → ∃ z, t.trains[k] = some z ∧ z.planned = y.issued ∧ z.owner = y.owner) ∧
    (y.state = .wait → y.issued < y.planned → ∃ z, t.trains[k] = some z ∧ z.planned = y.issued ∧ z.state = .verify ∧
      z.verify = .running (s.now + y.profile.start * 1000) ∧ ∀ e ∈ t.queue, e.source ≠ .train k) := by
  intro t
  have ho := owner_of_trainOf hk hy
  obtain ⟨s₂, before, same, reels, after⟩ := unitsClosed_at_reel (i := i) hy ho hv hr
  obtain ⟨held, hy₂⟩ := before.train hy ho
  have hr₂ : s₂.banks[b].reels[r]? = some reel := same.trans hr
  obtain ⟨u, hu⟩ : ∃ u, u = setReel b r (some 0) s₂ := ⟨_, rfl⟩
  have trains : u.trains[k] = some { y with held := held } := by rw [hu, setReel_trains]; exact hy₂
  have closes : reelEdge i b s₂ r = bankTest b (limitEnd k u) := by
    have unknown : reelPos s₂ b r = none := by rw [reelPos, hr₂]; exact hp
    have zeroed : zeroClosed b r s₂ = bankTest b (limitEnd k u) := by
      simp only [zeroClosed, before.trainOf.trans hk, hy₂, unknown, hu]
      refine if_neg ?_
      rintro (h | h)
      · exact hv (beq_iff_eq.mp h)
      · cases h
    rw [reelEdge, if_pos ⟨(before.bank b r rfl).trans hs, by rw [hr₂]; exact beq_iff_eq.mpr hz⟩, zeroed]
  rw [closes] at reels after
  refine ⟨?_, fun hst => ?_, fun hst hn => ?_⟩
  · have final : t.reelAt b r = some { reel with position := some 0 } := by
      rw [show t.reelAt b r = (unitsClosed i s).reelAt b r from reelAt_of_banks (kept_arbitrate _).banks, reels, reelAt_bankTest,
        reelAt_of_banks (limitEnd_banks _ _), hu]
      exact reelAt_setReel_same (some 0) hr₂
    exact final
  · have cut := limitEnd_of_pulsing trains hst
    have set : (limitEnd k u).trains[k] = some { y with held := held, planned := y.issued } := by
      rw [cut, State.setTrain_trains, getElem_set_same]
    rw [bankTest_waits set ho hv] at after
    exact (after _ set ho hv).course set ho
  · obtain ⟨quiet, z, hz', hzo, planned, state, verify⟩ := limitEnd_of_waiting_reel (b := b) (r := r) trains hst hn ho
    have moment : u.now = s.now := by rw [hu, setReel_now]; exact before.now
    have unverified : z.verify ≠ .expired := by rw [verify]; exact fun h => nomatch h
    have owner : z.owner = .reel b r := hzo.trans ho
    rw [bankTest_waits hz' owner unverified] at after
    have spared := after z hz' owner unverified
    obtain ⟨held', hz''⟩ := spared.train hz' owner
    obtain ⟨hx, silent⟩ := arbitrate_resting hz'' (spared.asks_not hz' owner quiet)
    exact ⟨_, hx, planned, state, by rw [← moment]; exact verify, fun e he hs => silent (.inl ⟨e, he, hs⟩)⟩

end

/-- Settles O46: each consumer's work reduced to the channel, the unit or the reel it concerns, and followed to the end of the event. -/
theorem edgesActOnDrivesModelsAndTheNode : Obligations.EdgesActOnDrivesModelsAndTheNode := by
  unfold Obligations.EdgesActOnDrivesModelsAndTheNode
  refine ⟨?_, ?_, ?_, ?_⟩
  · intro i close c s t k names rest hp ho hr hother
    have run : t = arbitrate (edgeOn i close c s) := deliver_channels fun c' hc => by
      rintro ⟨x, hx, hn⟩
      exact hother c' x hc hx hn
    have stays : edgeOn i close c s = s → t = s := fun h => run.trans ((congrArg arbitrate h).trans (arbitrate_of_not_due hp))
    refine ⟨fun hn => stays (edgeOn_of_unnamed ?_), fun ctx hw ht hcl hrun => ?_, fun d g ends ctx left limit ha hk hw hcalm => ?_,
      fun d heff ctx left limit ha hk hw => ?_⟩
    · rintro ⟨x, hx, hxn⟩
      exact hn x hx hxn
    · subst ht hcl
      rw [run]
      exact openEdge_withdraws hw hrun
    · intro q
      refine ⟨fun hcl ht => ?_, fun hcl he hm => ?_, fun h => stays ((edgeOn_of_kicking ha hk hw).trans ?_)⟩
      · subst ht hcl
        rw [run]
        exact openEdge_cuts hcalm ho hr ha hk hw
      · subst hcl
        rw [run, edgeOn_completes ha hk hw he hm]
        exact ⟨fun hh => closeEdge_rests hcalm ho hr ha hk hh, fun hc hd => closeEdge_holds hcalm ho ha hk hc hd⟩
      · rcases h with ⟨hcl, ht⟩ | ⟨hcl, he⟩
        · rw [if_neg fun h => ht h.2, if_neg fun h => by rw [hcl] at h; exact Bool.false_ne_true h.1]
        · rw [if_neg fun h => by rw [hcl] at h; exact Bool.false_ne_true h.1, if_neg fun h => he.elim (fun e => e h.2.1) fun e => h.2.2 e]
    · refine ⟨fun hcl ht hcalm => ?_, fun he hm hcl => ?_, fun he hm hcl ht => ?_⟩
      · subst ht hcl
        rw [run]
        exact openEdge_ends_hold hcalm hr ha hk hw
      · subst hcl
        rw [run, edgeOn_of_holding ha hk hw, if_neg (by simp), if_pos ⟨he, hm⟩, if_pos rfl]
        exact closeEdge_withdraws_rekick ha
      · subst hcl
        have asks : edgeOn i false c s = if 0 < left then submitRekick c ctx s else s := by
          rw [edgeOn_of_holding ha hk hw, if_neg fun h => ht h.2, if_pos ⟨he, hm⟩, if_neg Bool.false_ne_true]
        refine ⟨fun hl => stays (asks.trans (if_neg (by omega))), fun hl hcalm hrel => ?_⟩
        intro given
        rw [run, asks, if_pos hl]
        exact ⟨fun hg hb => rekick_kicks hcalm hp hrel ha hk hg hb, fun hg hb => rekick_waits hcalm hp hrel ha hg hb,
          fun hg => rekick_refused hcalm hp hrel ha hg⟩
  · intro i u d s x t hu hz hl
    refine limitEdge_closes hu hz ?_
    cases d <;> exact hl
  · intro i b r reel k y s t hs hr hz hp hk hy hv
    exact zeroEdge_closes hs hr hz hp hk hy hv
  · intro i close s hcalm hp
    refine ⟨fun hcl hq hm => ?_, deliver_sleeps hp⟩
    subst hcl
    exact deliver_wakes hcalm hp hq hm

end Sys2Proof.Machine
end

section
/-! SUPPORT. An invariant of the coil channels that every piece of work on them keeps is kept by every command: the walk over the commands, made
once for every such invariant. -/

namespace Sys2Proof.Machine

set_option Elab.async false

/-! ### The view of the channels, and what their work keeps -/

/-- The coil records, the channels, their heat accounts and protection records, and the budget in use. -/
def State.drives (s : State) : Vector Coil 24 × Vector Channel 24 × Vector Heat 24 × Vector Guard 24 × Nat :=
  (s.coils, s.chans, s.heat, s.guards, s.inUse)

theorem drives_of_beyondTrains {s t : State} (h : t.beyondTrains = s.beyondTrains) : t.drives = s.drives :=
  (congrArg State.drives h :)

section
variable (s : State)

@[simp] theorem drives_reach (t : Nat) : (s.reach t).drives = s.drives := rfl
@[simp] theorem drives_setNode (x : Node) : (s.setNode x).drives = s.drives := rfl
@[simp] theorem drives_setPort (x : Port) : (s.setPort x).drives = s.drives := rfl
@[simp] theorem drives_setMon (x : Monitor) : (s.setMon x).drives = s.drives := rfl
@[simp] theorem drives_setClocks (x : Clocks) : (s.setClocks x).drives = s.drives := rfl
@[simp] theorem drives_setInput (i : InputNo) (x : Input) : (s.setInput i x).drives = s.drives := rfl
@[simp] theorem drives_setRule (r : RuleNo) (x : Rule) : (s.setRule r x).drives = s.drives := rfl
@[simp] theorem drives_setHoldoff (r : RuleNo) (x : Option Nat) : (s.setHoldoff r x).drives = s.drives := rfl
@[simp] theorem drives_setBank (b : BankNo) (x : Bank) : (s.setBank b x).drives = s.drives := rfl
@[simp] theorem drives_setUnit (u : UnitNo) (x : CounterUnit) : (s.setUnit u x).drives = s.drives := rfl
@[simp] theorem drives_setTrain (t : TrainNo) (x : Option Train) : (s.setTrain t x).drives = s.drives := rfl
@[simp] theorem drives_setRing (r : RingNo) (x : Ring) : (s.setRing r x).drives = s.drives := rfl
@[simp] theorem drives_setQueue (q : List Entry) : (s.setQueue q).drives = s.drives := rfl
@[simp] theorem drives_setHeld (l : List TrainNo) : (s.setHeld l).drives = s.drives := rfl
@[simp] theorem drives_callPass : s.callPass.drives = s.drives := rfl
@[simp] theorem drives_setLatch (x : Latch) : (setLatch x s).drives = s.drives := rfl
@[simp] theorem drives_setDownstream (b : List Byte) : (s.setDownstream b).drives = s.drives := rfl
@[simp] theorem drives_countDropped : (countDropped s).drives = s.drives := rfl
@[simp] theorem drives_damageSeen : (damageSeen s).drives = s.drives := rfl
@[simp] theorem drives_refuse (who : Asker) (why : Reason) : (refuse who why s).drives = s.drives := rfl
@[simp] theorem drives_stopSilence : (stopSilence s).drives = s.drives := rfl
@[simp] theorem drives_restartSilence : (restartSilence s).drives = s.drives := rfl
@[simp] theorem drives_enterArming : (enterArming s).drives = s.drives := rfl
@[simp] theorem drives_wakeBy (i : InputNo) : (wakeBy i s).drives = s.drives := rfl
@[simp] theorem drives_moveToPending : (moveToPending s).drives = s.drives := rfl
@[simp] theorem drives_cancelAll : (cancelAll s).drives = s.drives := drives_of_beyondTrains (by simp)
@[simp] theorem drives_setLatchIf (b : Bool) (x : Latch) : (setLatchIf b x s).drives = s.drives :=
  drives_of_beyondTrains (by simp)

end

/-- A predicate that reads the channels alone and that every piece of work on a channel keeps. -/
structure KeptByDrives (P : State → Prop) : Prop extends KeptByFindings P where
  same : ∀ {s t}, P s → t.drives = s.drives → P t
  reset : P State.reset
  waiting : ∀ c x s, P s → P (setWaiting c x s)
  endKick : ∀ c done s, P s → P (endKick c done s)
  endHold : ∀ c s, P s → P (endHold c s)
  lock : ∀ c cause s, P s → P (lockChannel c cause s)
  unlock : ∀ c s, P s → P (unlockChannel c s)
  recover : ∀ c ends s, s.chans[c].act = .recovering ends → P s → P (becomeIdle c s)
  kickMs : ∀ c s, P s → P (kickMs c s)
  holdMs : ∀ c s, P s → P (holdMs c s)
  cool : ∀ c s, P s → P (coolChannel c s)
  lower : ∀ c s, P s → P (lowerHold c s)
  raise : ∀ c s, P s → P (raiseHold c s)
  openTest : ∀ c v s, P s → P (openTest c v s)
  shortTest : ∀ c v s, P s → P (shortTest c v s)
  leakRun : ∀ c n s, P s → P (s.setGuard c { s.guards[c] with leakRun := n })
  load : ∀ c k s, s.chans[c].atRest = true → P s → P (takeCoil c k s)

namespace KeptByDrives

variable {P : State → Prop} {s t : State} (k : KeptByDrives P)
include k

/-! ### Shared operations -/

theorem trains (h : P s) (e : t.beyondTrains = s.beyondTrains) : P t := k.same h (drives_of_beyondTrains e)

theorem foldSame {α : Type} {f : State → α → State} (hf : ∀ s x, (f s x).drives = s.drives) (l : List α) (h : P s) :
    P (l.foldl f s) := k.same h (foldl_view (v := State.drives) hf l s)

omit k in
theorem ite (p : Prop) [Decidable p] {x y : State} (hx : P x) (hy : P y) : P (if p then x else y) := by
  split
  · exact hx
  · exact hy

theorem keptByPasses : KeptByPasses P where
  toKeptByFindings := k.toKeptByFindings
  join _ _ h _ _ := k.trains h (by simp)
  shrink _ _ h _ := k.same h rfl
  stay _ _ h _ := k.same h rfl
  mark _ _ h := k.same h rfl

theorem arbitrate (h : P s) : P (arbitrate s) := arbitrate_invariant k.keptByPasses h

theorem refuse (h : P s) (who : Asker) (why : Reason) : P (refuse who why s) := k.same h rfl
theorem refuseOrder (h : P s) (tag : Byte) (why : Reason) : P (refuseOrder tag why s) := k.refuse h _ _

theorem endDrive (h : P s) (c : Chan) : P (endDrive c s) := ite _ (k.endKick c false s h) (k.endHold c s h)

theorem withdraw (h : P s) (p : Entry → Bool) : P (withdraw p s) := k.trains h (by simp)

theorem withdrawFlip (h : P s) (c : Chan) : P (withdrawFlip c s) := k.waiting c none _ (k.withdraw h _)

theorem clearClaimed (h : P s) (c : Chan) : P (clearClaimed c s) := k.waiting c none _ (k.withdraw h _)

theorem submitFlip (h : P s) (c : Chan) (x : FlipContext) : P (submitFlip c x s) := by
  have hs := beyondTrains_submit s (newEntry s c .flip .flip (.rule x.rule) x.persistent s.coils[c].k)
  simp only [Machine.submitFlip]
  split <;> rename_i heq <;> rw [heq] at hs
  · exact k.trains h hs
  · exact k.waiting _ _ _ (k.trains h hs)
  · exact k.trains h hs

theorem endFlipWork (h : P s) (p : FlipContext → Bool) : P (endFlipWork p s) := by
  refine forChans_invariant (P := P) (fun c t ht => ?_) h
  have ended : P (if t.chans[c].running?.any p then Machine.endDrive c t else t) := ite _ (k.endDrive ht c) ht
  exact ite _ (k.withdrawFlip ended c) ended

/-! ### The node states -/

theorem endDrives (h : P s) (keep : Bool) : P (endDrives keep s) :=
  forChans_invariant (P := P) (fun c _ ht => ite _ ht (k.endDrive ht c)) h

theorem emptyQueue (h : P s) : P (emptyQueue s) :=
  forChans_invariant (P := P) (fun c s hs => k.waiting c none s hs) (k.same (t := (s.setQueue []).setHeld []) h (by simp))

theorem reduceQueue (h : P s) : P (reduceQueue s) :=
  forChans_invariant (P := P) (fun c s hs => ite _ hs (k.waiting c none s hs))
    (k.same (t := (s.setQueue (s.queue.filter (·.persistent))).setHeld []) h (by simp))

theorem standDown (h : P s) (st : NodeState) : P (standDown st s) := by
  have cancelled : P (cancelAll (stopSilence (s.setNode { s.node with st := st, relay := false, settle := none }))) :=
    k.same h (by simp)
  exact k.emptyQueue (k.endDrives cancelled false)

theorem enterChainLost (h : P s) : P (enterChainLost s) := by
  have cancelled : P (cancelAll (stopSilence (s.setNode { s.node with
      st := .chainLost, relay := persistentArmed s, settle := none }))) :=
    k.same h (by simp)
  exact k.reduceQueue (k.endDrives cancelled _)

theorem enterArming (h : P s) : P (enterArming s) := k.same h rfl

theorem wakeBy (h : P s) (i : InputNo) : P (wakeBy i s) := k.same h rfl

theorem trip (h : P s) (cause : TripCause) (c : Option Chan) : P (trip cause c s) :=
  ite _ h (k.same (k.standDown h .tripped) ((drives_setLatch _ _).trans (drives_setMon _ _)))

theorem goodFrameEnd (h : P s) : P (goodFrameEnd s) := by
  simp only [Machine.goodFrameEnd]; split
  · exact k.same h rfl
  · exact k.same h rfl
  · exact k.standDown h _
  · exact h

theorem enterQuiet (h : P s) (mask : BitVec 32) : P (enterQuiet mask s) := by
  have quiet := k.standDown h .quiet
  simp only [Machine.enterQuiet]; split
  · exact k.same quiet ((drives_wakeBy _ _).trans (drives_setNode _ _))
  · exact k.same quiet (drives_setNode _ _)

/-! ### The orders -/

theorem inLive (h : P s) {a : State → State} (ha : ∀ s, P s → P (a s)) (tag : Byte) : P (inLive tag a s) :=
  ite _ (ha s h) (k.refuseOrder h _ _)

theorem withRef (h : P s) {n : Nat} {a : Fin n → State → State} (ha : ∀ i s, P s → P (a i s)) (tag b : Byte) :
    P (withRef tag n b a s) := by
  simp only [Machine.withRef]; split
  · exact ha _ s h
  · exact k.refuseOrder h _ _

theorem obeyGo (h : P s) (tag : Byte) : P (obeyGo tag s) := by
  simp only [Machine.obeyGo]; split
  · exact k.enterArming h
  · exact h
  · exact h
  · exact k.same h rfl
  · exact h
  · exact k.refuseOrder h _ _

theorem obeyQuiet (h : P s) (tag : Byte) (mask : BitVec 32) : P (obeyQuiet tag mask s) := by
  simp only [Machine.obeyQuiet]; split
  · exact k.enterQuiet h _
  · exact k.enterQuiet h _
  · exact k.enterQuiet h _
  · exact k.same h rfl
  · exact h
  · exact k.refuseOrder h _ _

theorem softReset (h : P s) : P (softReset s) := by
  have cleared : ∀ (t : State) (n : Nat) (r : Vector (Option Nat) 32),
      ({ t with armed := 0, holdoffs := r, latches := 0, dropped := n } : State).drives = t.drives := fun _ _ _ => rfl
  exact k.same (k.standDown h .safe) ((cleared _ _ _).trans ((drives_setPort _ _).trans (drives_setNode _ _)))

theorem obeyPulse (h : P s) (tag c n : Byte) : P (obeyPulse tag c n s) := by
  refine k.inLive h (fun s h => k.withRef h (fun c s h => ?_) _ _) _
  split
  · exact k.refuseOrder h _ _
  · exact k.trains h (by simp)

theorem obeyRelease (h : P s) (tag c : Byte) : P (obeyRelease tag c s) :=
  k.withRef h (fun c _ h => ite _ (k.refuseOrder h _ _) (k.withdraw (k.endDrive h c) _)) _ _

theorem obeyDisarm (h : P s) (mask : Byte) : P (obeyDisarm mask s) :=
  k.withdraw (k.endFlipWork (k.same (t := { s with armed := s.armed &&& ~~~mask }) h rfl) _) _

theorem obeyRun (h : P s) (tag c n : Byte) (a b : Half) (r i : Byte) : P (obeyRun tag c n a b r i s) := by
  refine k.inLive h (fun s h => k.withRef h (fun c s h => ?_) _ _) _
  split
  · exact k.refuseOrder h _ _
  · simp only [runOn]
    split
    · split
      · rename_i he; exact k.trains h (beyondTrains_extend he)
      · exact k.refuseOrder h _ _
    · split
      · exact k.trains h (by simp)
      · exact k.refuseOrder h _ _

theorem obeyCancel (h : P s) (tag target n : Byte) : P (obeyCancel tag target n s) := by
  simp only [Machine.obeyCancel]
  split
  · exact k.withRef h (fun c s h => ite _ (k.refuseOrder h _ _) (k.trains h (by simp))) _ _
  · exact k.withRef h (fun u s h => k.trains h (by simp)) _ _
  · exact k.withRef h (fun b s h => k.trains h (by simp)) _ _
  · exact k.refuseOrder h _ _

theorem requestAdd (h : P s) (who : Asker) (b : BankNo) (v : Nat) : P (requestAdd who b v s) := by
  simp only [Machine.requestAdd]; split
  · exact k.refuse h _ _
  · exact k.trains h (by simp)

theorem requestStep (h : P s) (who : Asker) (u : UnitNo) (n : Int) : P (requestStep who u n s) := by
  refine ite _ (k.refuse h _ _) (ite _ (k.same h rfl) ?_)
  split
  · exact k.refuse h _ _
  · exact k.trains h (beyondTrains_takeStep _ _ _ _)

theorem obeyAdd (h : P s) (tag b : Byte) (v : BitVec 24) : P (obeyAdd tag b v s) :=
  k.inLive h (fun _ h => k.withRef h (fun _ _ h => ite _ h (k.requestAdd h _ _ _)) _ _) _

theorem obeyZero (h : P s) (tag b : Byte) : P (obeyZero tag b s) := by
  refine k.inLive h (fun s h => k.withRef h (fun b s h => ?_) _ _) _
  split
  · exact k.refuseOrder h _ _
  · exact k.trains h (by simp)

theorem obeyStep (h : P s) (tag u n : Byte) : P (obeyStep tag u n s) :=
  k.inLive h (fun _ h => k.withRef h (fun _ _ h => ite _ h (k.requestStep h _ _ _)) _ _) _

theorem obeyUnlock (h : P s) (tag c : Byte) : P (obeyUnlock tag c s) :=
  k.withRef h (fun c s h => ite _ (k.refuseOrder h _ _) (k.unlock c s h)) _ _

theorem changeRun (h : P s) (first n : Nat) (f : Nat → Lamp → Lamp) : P (changeRun first n f s) :=
  k.foldSame (fun _ _ => by split <;> rfl) _ h

theorem obeySetLamps (h : P s) (tag first n : Byte) (levels : List Byte) : P (obeySetLamps tag first n levels s) :=
  ite _ (k.refuseOrder h _ _) (k.changeRun h _ _ _)

theorem obeySetModes (h : P s) (tag first n : Byte) (modes : List Byte) : P (obeySetModes tag first n modes s) := by
  refine ite _ (k.refuseOrder h _ _) ?_
  split
  · exact k.changeRun h _ _ _
  · exact k.refuseOrder h _ _

theorem moveRing (h : P s) (r : RingNo) (n : Int) : P (moveRing r n s) :=
  ite _ h (k.foldSame (f := fun s (x : LampNo × Nat) => s.setLamp x.1 { s.lamps[x.1] with level := x.2 }) (fun _ _ => rfl) _ h)

theorem obeyMove (h : P s) (tag r n : Byte) : P (obeyMove tag r n s) :=
  k.withRef h (fun r _ h => ite _ (k.refuseOrder h _ _) (k.moveRing h r _)) _ _

theorem clearCountsOf (h : P s) (mask : BitVec 32) : P (clearCountsOf mask s) :=
  k.foldSame (fun _ _ => by split <;> rfl) _ h

/-! ### The loads -/

theorem storeCoil (h : P s) (tag : Byte) (r : CoilRec) : P (storeCoil tag r s) := by
  refine k.withRef h (fun c s h => ?_) _ _
  split
  · exact k.refuseOrder h _ _
  · rename_i free
    have rest : s.chans[c].atRest = true := by
      by_contra busy
      exact free (.inl (by simpa using busy))
    exact k.load c _ s rest h

theorem storeInput (h : P s) (tag : Byte) (r : InputRec) : P (storeInput tag r s) := by
  refine k.withRef h (fun i s h => ?_) _ _
  split
  · exact ite _ (k.refuseOrder h _ _) (k.same h rfl)
  · exact k.refuseOrder h _ _

theorem storeRule (h : P s) (tag : Byte) (r : RuleRec) : P (storeRule tag r s) := by
  refine k.withRef h (fun n s h => ?_) _ _
  split
  · exact k.refuseOrder h _ _
  · exact ite _ (k.refuseOrder h _ _) (k.same (k.withdraw (k.endFlipWork h _) _)
      ((drives_setRule _ _ _).trans (drives_setHoldoff _ _ _)))

theorem storeBank (h : P s) (tag : Byte) (r : BankRec) : P (storeBank tag r s) := by
  refine k.withRef h (fun b s h => ?_) _ _
  refine ite _ (k.refuseOrder h _ _) ?_
  split
  · exact k.refuseOrder h _ _
  · exact ite _ (k.refuseOrder h _ _) (ite _ (k.refuseOrder h _ _)
      (k.same (foldl_invariant (P := P) (fun _ c h => k.clearClaimed h c) _ h) (drives_setBank _ _ _)))

theorem storeUnit (h : P s) (tag : Byte) (r : UnitRec) : P (storeUnit tag r s) := by
  refine k.withRef h (fun u s h => ?_) _ _
  refine ite _ ?_ (ite _ (k.refuseOrder h _ _) (k.same h rfl))
  split
  · refine ite _ (k.refuseOrder h _ _) ?_
    split
    · exact k.refuseOrder h _ _
    · exact k.same (k.clearClaimed (k.clearClaimed h _) _) (drives_setUnit _ _ _)
  · exact k.refuseOrder h _ _

theorem storeRing (h : P s) (tag : Byte) (r : RingRec) : P (storeRing tag r s) := by
  refine k.withRef h (fun n s h => ?_) _ _
  refine ite _ (k.refuseOrder h _ _) ?_
  split
  · exact k.refuseOrder h _ _
  · exact ite _ (k.refuseOrder h _ _) (k.same h rfl)

/-- What an order or load does when it is executed keeps the invariant. -/
theorem act (h : P s) (i : Instr) : P (act i s) := by
  cases i with
  | go f => exact k.obeyGo h _
  | quiet f m => exact k.obeyQuiet h _ _
  | reset f => exact k.softReset h
  | pulse f c n => exact k.obeyPulse h _ _ _
  | release f c => exact k.obeyRelease h _ _
  | arm f m => exact k.same h rfl
  | disarm f m => exact k.obeyDisarm h _
  | run f c n si fi d i => exact k.obeyRun h _ _ _ _ _ _ _
  | cancel f t n => exact k.obeyCancel h _ _ _
  | add f b v => exact k.obeyAdd h _ _ _
  | zero f b => exact k.obeyZero h _ _
  | step f u n => exact k.obeyStep h _ _ _
  | lock f c => exact k.withRef h (fun c s h => k.lock c _ s h) _ _
  | unlock f c => exact k.obeyUnlock h _ _
  | setLamps f a n ls => exact k.obeySetLamps h _ _ _ _
  | setModes f a n ms => exact k.obeySetModes h _ _ _ _
  | move f r n => exact k.obeyMove h _ _ _
  | acknowledge f m => exact k.same h rfl
  | clearCounts f m => exact k.clearCountsOf h _
  | loadNodeSettings f r => exact k.same h rfl
  | loadCoil f r => exact k.storeCoil h _ _
  | loadInput f r => exact k.storeInput h _ _
  | loadRule f r => exact k.storeRule h _ _
  | loadBank f r => exact k.storeBank h _ _
  | loadUnit f r => exact k.storeUnit h _ _
  | loadRing f r => exact k.storeRing h _ _
  | _ => exact h

/-! ### Frames -/

theorem setDownstream (h : P s) (bytes : List Byte) : P (s.setDownstream bytes) := k.same h rfl

theorem damageSeen (h : P s) : P (damageSeen s) := k.same h rfl

theorem plainFrame (h : P s) {a : State → State} (ha : ∀ s, P s → P (a s)) (bytes : List Byte) (f : Head) :
    P (plainFrame bytes f a s) := by
  have sent := k.setDownstream h bytes
  exact ite _ sent (ite _ (k.arbitrate (ha _ (k.goodFrameEnd sent))) (k.damageSeen sent))

theorem orderFrame (h : P s) {a : State → State} (ha : ∀ s, P s → P (a s)) (i : Instr) (f : Head) : P (orderFrame i f a s) := by
  refine k.plainFrame h (fun t ht => ?_) _ _
  split
  · exact ha t ht
  · exact ht

theorem queryFrame (h : P s) (f : Head) (p : List Byte) (a : Option Answerer) : P (queryFrame f p a s) :=
  k.plainFrame h (fun _ hs => hs) _ _

theorem settlePending (h : P s) (ok : Bool) : P (settlePending ok s) := by
  have kept : P { s with reported := none } := k.same h rfl
  simp only [Machine.settlePending]
  split
  · exact h
  · exact ite _ kept (k.foldSame (fun _ _ => by simp) _ kept)

theorem abandonedFrame (h : P s) (bytes : List Byte) : P (abandonedFrame bytes s) := by
  have sent := k.setDownstream h (abandonedSent s bytes)
  exact ite _ sent (k.damageSeen (ite _
    (k.settlePending (k.same (t := moveToPending (s.setDownstream (abandonedSent s bytes))) sent (by simp)) false) sent))

theorem badHeaderFrame (h : P s) (bytes : List Byte) : P (badHeaderFrame bytes s) :=
  ite _ (k.setDownstream h _) (k.damageSeen (k.setDownstream h _))

/-! ### Samples and edges -/

theorem edgeOnDrive (h : P s) (i : InputNo) (close : Bool) (c : Chan) : P (edgeOnDrive i close c s) := by
  simp only [Machine.edgeOnDrive]
  split
  · exact ite _ (k.endKick c _ s h) (ite _ (k.endKick c _ s h) h)
  · refine ite _ (k.endHold c s h) (ite _ (ite _ (k.withdraw h _) (ite _ (k.trains h ?_) h)) h)
    exact beyondTrains_submitRekick _ _ _
  · exact h

theorem edgeOn (h : P s) (i : InputNo) (close : Bool) (c : Chan) : P (edgeOn i close c s) := by
  rw [edgeOn_eq]
  exact k.edgeOnDrive (ite _ (k.withdrawFlip h c) h) i close c

theorem makeRequest (h : P s) (n : RuleNo) : P (makeRequest n s) := by
  simp only [Machine.makeRequest]
  split
  · exact h
  · split
    · exact k.refuse h _ _
    · exact k.trains h (by simp)
  · split
    · exact k.refuse h _ _
    · exact k.submitFlip h _ _
  · exact ite _ h (k.requestStep h _ _ _)
  · exact ite _ h (k.requestAdd h _ _ _)

theorem fireRule (h : P s) (n : RuleNo) : P (fireRule n s) :=
  k.arbitrate (k.makeRequest (ite (s.rules[n].holdoff = 0) h (k.same h (by simp))) n)

theorem deliver (h : P s) (i : InputNo) (close : Bool) (x : Consumer) : P (deliver i close x s) := by
  cases x with
  | ruleEngine => exact foldl_invariant (P := P) (fun _ n hs => ite _ (k.fireRule hs n) hs) _ h
  | channelDrivers => exact k.arbitrate (forChans_invariant (P := P) (fun c _ hs => k.edgeOn hs i close c) h)
  | unitLogic => exact k.arbitrate (ite _ (k.trains h (by simp)) h)
  | nodeState => exact k.arbitrate (ite _ (ite _ (k.wakeBy h i) h) h)

theorem deliverEdge (h : P s) (levels : BitVec 32) (d : InputNo × Consumer) : P (deliverEdge levels d s) :=
  k.deliver (ite (s.inputs[d.1].closed = _) h (k.same h (drives_setInput _ _ _))) _ _ _

theorem sampleInputs (h : P s) (x : Sample) : P (sampleInputs x s) :=
  foldl_invariant (P := P) (fun _ d hs => k.deliverEdge hs _ d) _ 
    (k.foldSame (fun _ _ => drives_setInput _ _ _) _ (k.same h (by simp)))

theorem sweepFrame (h : P s) (f : Head) (first n : Byte) (slots : List Byte) (xs : List Sample) :
    P (sweepFrame f first n slots xs s) := by
  have sampled : P (xs.foldl (fun s x => Machine.sampleInputs x s) (if writesSlot s f first n slots then moveToPending s else s)) :=
    foldl_invariant (P := P) (fun _ x hs => k.sampleInputs hs x) _ (ite _ (k.same h (by simp)) h)
  exact k.plainFrame (ite _ (k.settlePending sampled _) sampled) (fun _ hs => hs) _ _

theorem actOn (h : P s) (tag : Byte) (read : Except Misread Instr) (heard : Bool) :
    P ((if heard then actOn tag read else id) s) := by
  cases heard
  · exact h
  · cases read with
    | ok i => exact k.act h i
    | error e => exact k.refuseOrder h _ _

theorem wholeFrame (h : P s) (kind : Byte) (f : Head) (p : List Byte) : P (wholeFrame kind f p s) := by
  simp only [Machine.wholeFrame]
  split
  · exact k.plainFrame h (fun _ hs => k.actOn hs _ _ _) _ _
  · exact k.plainFrame h (fun _ hs => k.actOn hs _ _ _) _ _
  · exact k.queryFrame h _ _ _
  · split
    · exact k.sweepFrame h _ _ _ _ _
    · exact k.plainFrame h (fun _ hs => hs) _ _
  · exact k.plainFrame h (fun _ hs => hs) _ _

theorem portFrame (h : P s) (bytes : List Byte) : P (portFrame bytes s) := by
  simp only [Machine.portFrame]; split
  · exact k.setDownstream h _
  · exact k.abandonedFrame h _
  · exact k.badHeaderFrame h _
  · exact k.setDownstream (k.wholeFrame h _ _ _) _

/-! ### Timers -/

theorem reach (h : P s) (n : Nat) : P (s.reach n) := k.same h rfl

theorem kickOver (h : P s) (c : Chan) : P (kickOver c s) := by
  simp only [Machine.kickOver]; split
  · exact k.arbitrate (k.endKick c true _ (k.reach h _))
  · exact h

theorem holdLimitOver (h : P s) (c : Chan) : P (holdLimitOver c s) := by
  simp only [Machine.holdLimitOver]; split
  · exact h
  · exact k.arbitrate (k.endDrive (k.reach h _) c)

theorem recoveryOver (h : P s) (c : Chan) : P (recoveryOver c s) := by
  simp only [Machine.recoveryOver]; split
  · rename_i ends recovering
    exact k.arbitrate (k.recover c ends _ recovering (k.reach h _))
  · exact h

theorem kickAccrualDue (h : P s) (c : Chan) : P (kickAccrualDue c s) := by
  simp only [Machine.kickAccrualDue]; split
  · exact ite _ (k.kickMs c _ (k.reach h _)) h
  · exact h

theorem holdAccrualDue (h : P s) (c : Chan) : P (holdAccrualDue c s) := by
  simp only [Machine.holdAccrualDue]; split
  · exact k.arbitrate (k.holdMs c _ (k.reach h _))
  · exact h

theorem chargeBefore (h : P s) (n : Nat) (c : Chan) : P (chargeBefore n c s) := by
  simp only [Machine.chargeBefore]; split
  · exact ite _ (k.kickMs c s h) h
  · exact ite _ (k.holdMs c s h) h
  · exact h

theorem coolingTick (h : P s) : P (Machine.cool s) := by
  have ticked : P ((s.reach s.clocks.cooling).setClocks { s.clocks with cooling := s.clocks.cooling + 16 * Config.msTime }) :=
    k.same h rfl
  have cooled := forChans_invariant (P := P) k.cool (forChans_invariant (P := P) (fun c _ h => k.chargeBefore h s.clocks.cooling c) ticked)
  have derated := forChans_invariant (P := P) k.raise (forChans_invariant (P := P) k.lower cooled)
  exact k.arbitrate (ite _ (k.same derated (by simp)) derated)

theorem staleOver (h : P s) (c : Chan) (n : Cls) : P (staleOver c n s) := by
  simp only [Machine.staleOver]
  split
  · exact h
  · split
    · exact h
    · rename_i e _ _ t _
      have dropped : P (withoutStale e (s.reach t)) := k.same h (by simp [withoutStale])
      have left : P (if e.kind = .flip then setWaiting e.channel none (withoutStale e (s.reach t))
          else withoutStale e (s.reach t)) := ite _ (k.waiting _ none _ dropped) dropped
      exact k.arbitrate (k.trains (k.same left (drives_callPass _)) (beyondTrains_handOver _))

theorem intervalOver (h : P s) (n : TrainNo) : P (intervalOver n s) := by
  simp only [Machine.intervalOver]
  split
  · exact h
  · split
    · exact h
    · refine k.arbitrate (k.trains ?_ (beyondTrains_intervalCompared _ n))
      split
      · exact k.same h ((drives_of_beyondTrains (beyondTrains_reelCheck _ _ _ _)).trans (by simp))
      · exact k.same h (by simp)

theorem verifyOver (h : P s) (n : TrainNo) : P (verifyOver n s) := by
  simp only [Machine.verifyOver]
  split
  · exact h
  · split
    · exact k.arbitrate (k.trains (k.reach h _) (by simp; rfl))
    · exact h

theorem trainSettleOver (h : P s) (n : TrainNo) : P (trainSettleOver n s) := by
  simp only [Machine.trainSettleOver]
  split
  · exact h
  · split
    · exact h
    · exact k.arbitrate (k.trains (k.reach h _) (beyondTrains_enterWait _ _ _))

theorem silenceOver (h : P s) : P (silenceOver s) := by
  simp only [Machine.silenceOver]; split
  · exact h
  · exact k.arbitrate (k.enterChainLost (k.reach h _))

theorem settleOver (h : P s) : P (settleOver s) := by
  simp only [Machine.settleOver]; split
  · exact h
  · exact ite _ (k.same h rfl) (k.arbitrate (k.trip (k.reach h _) _ _))

theorem holdoffOver (h : P s) (r : RuleNo) : P (holdoffOver r s) := by
  simp only [Machine.holdoffOver]; split
  · exact h
  · exact k.same h rfl

/-! ### Samples and readings of the coils and the node -/

theorem takeDriveSample (h : P s) (v : Byte) : P (takeDriveSample v s) := by
  simp only [Machine.takeDriveSample]; split
  · exact h
  · exact k.arbitrate (k.shortTest _ v _ (k.openTest _ v _ (k.same h rfl)))

theorem takeUndrivenSample (h : P s) (c : Chan) (v : Byte) : P (takeUndrivenSample c v s) := by
  have run : P (((s.reach (undrivenTime s c)).setClocks { s.clocks with undriven := undrivenTime s c + 1 }).setGuard c
      { s.guards[c] with leakRun := leakRunAfter s c v }) :=
    k.leakRun c _ ((s.reach (undrivenTime s c)).setClocks { s.clocks with undriven := undrivenTime s c + 1 }) (k.same h rfl)
  exact ite _ h (ite _ (k.arbitrate (k.trip run _ _)) run)

theorem takeSupply (h : P s) (v : Byte) : P (takeSupply v s) := by
  have read : ∀ n x y b, P (Machine.setLatchIf b .sag (((s.reach n).setClocks x).setMon y)) := fun _ _ _ _ => k.same h (by simp)
  have called : ∀ n x y b, P (if sagClears s v then (Machine.setLatchIf b .sag (((s.reach n).setClocks x).setMon y)).callPass
      else Machine.setLatchIf b .sag (((s.reach n).setClocks x).setMon y)) := fun n x y b =>
    ite _ (k.same (read n x y b) (by simp)) (read n x y b)
  exact k.arbitrate (ite _ (k.trip (called _ _ _ _) _ _) (called _ _ _ _))

theorem takeTemperature (h : P s) (v : Byte) : P (takeTemperature v s) := by
  have read : ∀ n x y b, P (Machine.setLatchIf b .warm (((s.reach n).setClocks x).setMon y)) := fun _ _ _ _ => k.same h (by simp)
  exact ite _ (k.arbitrate (k.trip (read _ _ _ _) _ _)) (read _ _ _ _)

/-! ### Power-on and the lamp clocks -/

theorem powerOn (straps : BitVec 4) (levels : BitVec 32) (s : State) : P (powerOn straps levels s) := by
  have sampled := k.foldSame (f := fun r i => r.setInput i (firstInput levels i.val)) (fun _ _ => rfl) (List.finRange 32)
    (k.same (t := State.reset.setPort { State.reset.port with address := straps }) k.reset rfl)
  have restored : ∀ t : State, ({ t with pending := s.pending } : State).drives = t.drives := fun _ => rfl
  exact k.same sampled (restored _)

theorem chase (h : P s) (r : RingNo) : P (chase r s) := by
  simp only [Machine.chase]; split
  · exact h
  · exact k.same (k.moveRing (k.reach h _) r 1) (drives_setRing _ _ _)

theorem changeHalf (h : P s) : P (changeHalf s) := ite _ (k.same h rfl) (k.same h rfl)

/-! ### The commands -/

/-- Every command keeps the invariant. -/
theorem exec (h : P s) (i : Instr) : ∃ t, exec i s = .next t ∧ P t := by
  have order : ∀ f : Head, P (Machine.orderFrame i f (Machine.act i) s) := fun f => k.orderFrame h (fun _ hs => k.act hs i) i f
  cases i
  case powerOnReset => exact ⟨_, rfl, k.powerOn _ _ s⟩
  case frame => exact ⟨_, rfl, k.portFrame h _⟩
  case frameAbandoned =>
    refine ⟨_, rfl, ?_⟩
    split
    · exact k.abandonedFrame h _
    all_goals exact h
  case sweep => exact ⟨_, rfl, k.sweepFrame h _ _ _ _ _⟩
  case silenceExpiry => exact ⟨_, rfl, k.silenceOver h⟩
  case settleExpiry => exact ⟨_, rfl, k.settleOver h⟩
  case inputSample => exact ⟨_, rfl, k.sampleInputs h _⟩
  case kickTimerExpiry => exact ⟨_, rfl, k.kickOver h _⟩
  case holdLimitExpiry => exact ⟨_, rfl, k.holdLimitOver h _⟩
  case recoveryExpiry => exact ⟨_, rfl, k.recoveryOver h _⟩
  case kickAccrual => exact ⟨_, rfl, k.kickAccrualDue h _⟩
  case holdAccrual => exact ⟨_, rfl, k.holdAccrualDue h _⟩
  case coolingTick => exact ⟨_, rfl, k.coolingTick h⟩
  case staleTimerExpiry => exact ⟨_, rfl, k.staleOver h _ _⟩
  case intervalExpiry => exact ⟨_, rfl, k.intervalOver h _⟩
  case verifyExpiry => exact ⟨_, rfl, k.verifyOver h _⟩
  case trainSettleExpiry => exact ⟨_, rfl, k.trainSettleOver h _⟩
  case holdoffExpiry => exact ⟨_, rfl, k.holdoffOver h _⟩
  case driveSample => exact ⟨_, rfl, k.takeDriveSample h _⟩
  case shortLock => exact ⟨_, rfl, ite _ (k.takeDriveSample h _) h⟩
  case openLock => exact ⟨_, rfl, ite _ (k.kickOver h _) h⟩
  case undrivenSample => exact ⟨_, rfl, k.takeUndrivenSample h _ _⟩
  case leakTrip => exact ⟨_, rfl, ite _ (k.takeUndrivenSample h _ _) h⟩
  case supplyReading => exact ⟨_, rfl, k.takeSupply h _⟩
  case sagSet => exact ⟨_, rfl, ite _ (k.takeSupply h _) h⟩
  case sagClear => exact ⟨_, rfl, ite _ (k.takeSupply h _) h⟩
  case supplyFloorTrip => exact ⟨_, rfl, ite _ (k.takeSupply h _) h⟩
  case temperatureReading => exact ⟨_, rfl, k.takeTemperature h _⟩
  case heatTrip => exact ⟨_, rfl, ite _ (k.takeTemperature h _) h⟩
  case strobeSlot => exact ⟨_, rfl, k.same h rfl⟩
  case blinkHalfChange => exact ⟨_, rfl, k.changeHalf h⟩
  case chaseExpiry => exact ⟨_, rfl, k.chase h _⟩
  all_goals first
    | exact ⟨_, rfl, order _⟩
    | exact ⟨_, rfl, k.queryFrame h _ _ _⟩

/-- Every step keeps the invariant: a command, and an idle microsecond. -/
theorem step (h : P s) (hs : step s = .next t) : P t := by
  rw [Machine.step] at hs
  split at hs
  · cases hs
    exact k.same h rfl
  · rename_i rest _
    obtain ⟨u, hu, hP⟩ := k.exec (k.same (t := { s with pending := rest }) h rfl) _
    obtain rfl : u = t := by rw [hu] at hs; exact Host.Outcome.next.inj hs
    exact hP

end KeptByDrives

end Sys2Proof.Machine
end

section
/-! SUPPORT. The heat accounts stay within their limits (R24): what each piece of work on a channel makes of its account. -/

namespace Sys2Proof.Machine

set_option Elab.async false

/-! ### One account -/

/-- An account within its limit, its fraction carry below 16 (R24). -/
def Heat.within (x : Heat) (k : Coil) : Prop := x.q ≤ k.l ∧ x.f < 16

theorem decayed_le (k : Coil) (q : Nat) : decayed k q ≤ q := by
  rw [decayed]
  split
  · exact Nat.zero_le q
  · exact Nat.sub_le q _

section
variable {c : Chan} {s t : State}

theorem HeatWithin.same (h : HeatWithin s) (hc : t.coils = s.coils) (hq : t.heat = s.heat) : HeatWithin t := by
  rw [HeatWithin, hc, hq]
  exact h

theorem HeatWithin.trains (h : HeatWithin s) (e : t.beyondTrains = s.beyondTrains) : HeatWithin t :=
  h.same (coils_of_beyondDrives (beyondDrives_of_beyondTrains e)) (heat_of_beyondTrains e)

theorem HeatWithin.setHeat (h : HeatWithin s) {x : Heat} (hx : x.within s.coils[c]) : HeatWithin (s.setHeat c x) := by
  intro c'
  rw [State.setHeat_heat, State.setHeat_coils]
  by_cases e : c' = c
  · subst e
    rwa [getElem_set_same]
  · rw [getElem_set_other _ _ e]
    exact h c'

theorem HeatWithin.setLatch (h : HeatWithin s) (x : Latch) : HeatWithin (setLatch x s) := h.same rfl rfl
theorem HeatWithin.callPass (h : HeatWithin s) : HeatWithin s.callPass := h.same rfl rfl
theorem HeatWithin.setGuard (h : HeatWithin s) (g : Guard) : HeatWithin (s.setGuard c g) := h.same rfl rfl
theorem HeatWithin.setChan (h : HeatWithin s) (x : Channel) : HeatWithin (s.setChan c x) := h.same rfl rfl
theorem HeatWithin.setWaiting (h : HeatWithin s) (x : Option FlipContext) : HeatWithin (setWaiting c x s) := h.setChan _
theorem HeatWithin.withdraw (h : HeatWithin s) (p : Entry → Bool) : HeatWithin (withdraw p s) := h.trains (by simp)

/-- A new record whose account is within its limit, the other records and accounts left as they are (R38). -/
theorem HeatWithin.setCoil (h : HeatWithin s) {k : Coil} {x : Heat} (hx : x.within k) (hc : t.coils = s.coils.set c k)
    (hq : t.heat = s.heat.set c x) : HeatWithin t := by
  intro c'
  rw [hc, hq]
  by_cases e : c' = c
  · subst e
    rwa [getElem_set_same, getElem_set_same]
  · rw [getElem_set_other _ _ e, getElem_set_other _ _ e]
    exact h c'

/-! ### Charging -/

theorem HeatWithin.raiseHeat (h : HeatWithin s) {x : Heat} (hx : x.within s.coils[c]) : HeatWithin (raiseHeat c x s) :=
  (h.setHeat hx).trains (beyondTrains_setLatchIf _ _ _)

theorem HeatWithin.accrueKick (h : HeatWithin s) : HeatWithin (accrueKick c s) := by
  simp only [Machine.accrueKick]; split
  · exact h
  · exact h.raiseHeat ⟨Nat.min_le_left _ _, (h c).2⟩

theorem HeatWithin.accrueHold (h : HeatWithin s) (e : Nat) : HeatWithin (accrueHold c e s) := by
  simp only [Machine.accrueHold]; split
  · exact h
  · exact h.raiseHeat ⟨Nat.min_le_left _ _, Nat.mod_lt _ (by decide)⟩

theorem HeatWithin.finalCharge (h : HeatWithin s) : HeatWithin (finalCharge c s) := by
  simp only [Machine.finalCharge]
  repeat' split
  · exact h.accrueKick
  · exact h
  · exact h.accrueHold _
  · exact h
  · exact h

/-! ### The state of a channel -/

theorem HeatWithin.setAct (h : HeatWithin s) (x : Activity) : HeatWithin (setAct c x s) :=
  h.same (kept_setAct c x s).coils (setAct_heat c x s)

theorem HeatWithin.enterRecovery (h : HeatWithin s) : HeatWithin (enterRecovery c s) := by
  simp only [Machine.enterRecovery]; split
  · exact (h.setAct .idle).callPass
  · exact h.setAct _

/-- A hold begins with the fraction carry at 0 (R6). -/
theorem HeatWithin.enterHold (h : HeatWithin s) (d : Drive) (x : FlipContext) (n : Nat) (l : Option Nat) (e : Nat) :
    HeatWithin (enterHold c d x n l e s) := by
  have carried : Heat.within { s.heat[c] with f := 0 } s.coils[c] := ⟨(h c).1, Nat.zero_lt_succ 15⟩
  exact (h.setHeat carried).setAct _

theorem HeatWithin.endHold (h : HeatWithin s) : HeatWithin (endHold c s) := by
  simp only [Machine.endHold]; split
  · exact h.finalCharge.enterRecovery.callPass.withdraw _
  · exact h

theorem HeatWithin.afterKick (h : HeatWithin s) (done : Bool) (d : Drive) : HeatWithin (afterKick c done d s) := by
  simp only [Machine.afterKick, holdAfterKick]
  repeat' split
  · exact (h.setLatch _).enterRecovery
  · exact h.enterHold _ _ _ _ _
  · exact h.enterRecovery
  · exact h.enterRecovery

theorem HeatWithin.lockChannel (h : HeatWithin s) (cause : LockCause) : HeatWithin (lockChannel c cause s) := by
  cases hl : s.chans[c].isLocked
  · have cut : HeatWithin (cutAndLock c s) := by
      simp only [cutAndLock]; split
      · exact (h.finalCharge.setAct _).callPass
      · exact h.finalCharge.setAct _
    have withdrawn : HeatWithin (withdrawAll c (reportKick c false s.chans[c].isStepping (cutAndLock c s))) :=
      ((cut.trains (beyondTrains_reportKick _ _ _ _)).withdraw _).setWaiting none
    rw [lockChannel_of_free cause hl]
    exact (((withdrawn.trains (beyondTrains_cancelOf _ _)).trains (beyondTrains_unitsLocked _ c)).setLatch _).setGuard _
  · rwa [lockChannel_of_locked cause hl]

theorem HeatWithin.settleVerdict (h : HeatWithin s) : HeatWithin (settleVerdict c s) := by
  simp only [Machine.settleVerdict]
  repeat' split
  · exact h.setGuard _
  · exact h
  · exact h.setGuard _
  · exact (h.setGuard _).lockChannel _
  · exact (h.setGuard _).setLatch _
  · exact h.setGuard _

theorem HeatWithin.endKick (h : HeatWithin s) (done : Bool) : HeatWithin (endKick c done s) := by
  cases ha : s.chans[c].act with
  | kicking d n ends =>
    have charged := (h.finalCharge (c := c)).callPass
    rw [endKick_of_kicking done ha]
    exact ((charged.afterKick done d).trains (beyondTrains_reportKick _ _ _ _)).settleVerdict.trains (beyondTrains_testAfterKick _ _ _)
  | _ => rwa [endKick_of_not_kicking done (by simp only [Channel.isKicking, ha])]

theorem HeatWithin.kickMs (h : HeatWithin s) : HeatWithin (kickMs c s) := by
  simp only [Machine.kickMs]; split
  · exact h.accrueKick.setChan _
  · exact h

theorem HeatWithin.holdMs (h : HeatWithin s) : HeatWithin (holdMs c s) := by
  simp only [Machine.holdMs]; split
  · split
    · exact (((h.accrueHold _).setChan _).setLatch _).endHold
    · exact (h.accrueHold _).setChan _
  · exact h

theorem HeatWithin.lowerHold (h : HeatWithin s) : HeatWithin (lowerHold c s) := by
  simp only [Machine.lowerHold]
  repeat' split
  · exact (h.setLatch _).endHold
  · exact (h.setAct _).callPass
  · exact h
  · exact h

theorem HeatWithin.raiseHold (h : HeatWithin s) : HeatWithin (raiseHold c s) := by
  simp only [Machine.raiseHold]
  repeat' split
  · exact h.setAct _
  · exact h
  · exact h

/-! ### Grants -/

theorem HeatWithin.beginKick (h : HeatWithin s) (kind : DriveKind) (e : Entry) (n : Nat) : HeatWithin (beginKick c kind e n s) :=
  (h.setAct _).setGuard _

theorem HeatWithin.grantKick (h : HeatWithin s) (e : Entry) (n : Nat) : HeatWithin (grantKick e n s) := by
  simp only [Machine.grantKick]
  repeat' split
  · exact (h.setWaiting none).beginKick _ _ _
  · exact h
  · exact h.finalCharge.beginKick _ _ _
  · exact h
  · exact h.beginKick _ _ _
  · exact (h.beginKick .stepPulse e n).trains (beyondTrains_trainGranted _ _)
  · exact h.beginKick _ _ _

theorem HeatWithin.grantHold (h : HeatWithin s) (e : Entry) (n : Nat) (b : Bool) : HeatWithin (grantHold e n b s) := by
  simp only [Machine.grantHold]; split
  · exact ((h.setWaiting none).enterHold _ _ _ _ _).trains (beyondTrains_setLatchIf _ _ _)
  · exact h

theorem HeatWithin.removeAtPass (h : HeatWithin s) (e : Entry) (x y : Bool) : HeatWithin (removeAtPass e x y s) := by
  have marked : HeatWithin (setLatchIf y .heatCutoff (setLatchIf x .eosStuck s)) := h.trains (by simp)
  simp only [Machine.removeAtPass]; split
  · exact marked.setWaiting none
  · exact marked

end

/-! ### The invariant -/

theorem heatWithin_reset : HeatWithin State.reset := fun c => by
  simp only [State.reset, Fin.getElem_fin, Vector.getElem_replicate]
  exact ⟨Nat.le_refl 0, by decide⟩

/-- Every piece of work on a channel keeps the accounts within their limits: an accrual stops at L, a hold's carry is a remainder of 16 and 0 at its
beginning, a cooling tick lowers, and a load lowers the account to the new limit (R6, R26 to R28, R38). -/
theorem keptByDrives_heatWithin : KeptByDrives HeatWithin where
  removed e x y s h _ _ := h.removeAtPass e x y
  kick e n _ _ s h _ _ _ _ := h.grantKick e n
  hold e n _ _ x s h _ _ _ _ := h.grantHold e n x
  same h e := h.same (congrArg Prod.fst e :) (congrArg (fun x => x.2.2.1) e :)
  reset := heatWithin_reset
  waiting _ x _ h := h.setWaiting x
  endKick _ done _ h := h.endKick done
  endHold _ _ h := h.endHold
  lock _ cause _ h := h.lockChannel cause
  unlock c s h := by
    simp only [unlockChannel]; split
    · exact ((h.setGuard _).setAct .idle).callPass
    · exact h
  recover _ _ _ _ h := (h.setAct .idle).callPass
  kickMs _ _ h := h.kickMs
  holdMs _ _ h := h.holdMs
  cool c _ h := h.setHeat ⟨(decayed_le _ _).trans (h c).1, (h c).2⟩
  lower _ _ h := h.lowerHold
  raise _ _ h := h.raiseHold
  openTest c v s h := by
    simp only [openTest]
    split
    · exact KeptByDrives.ite _ h (KeptByDrives.ite _ (h.setGuard _) (h.setGuard _))
    · exact h
  shortTest c v s h := by
    simp only [shortTest]; split
    · exact (h.setGuard _).lockChannel _
    · exact h.setGuard _
  leakRun _ _ _ h := h.setGuard _
  load c k s _ h := by
    rw [takeCoil_eq]
    exact h.setCoil (x := { s.heat[c] with q := min k.l s.heat[c].q }) ⟨Nat.min_le_left _ _, (h c).2⟩ rfl rfl

/-- Settles O6: the walk over the commands, for the invariant that every piece of work on a channel keeps. -/
theorem stepsKeepHeatWithinItsLimits : Obligations.StepsKeepHeatWithinItsLimits := by
  unfold Obligations.StepsKeepHeatWithinItsLimits
  exact fun _ _ => keptByDrives_heatWithin.step

end Sys2Proof.Machine
end

section
/-! SUPPORT. The loads of the node settings record and of an input record (R34, R50, R64, R67). -/

namespace Sys2Proof.Machine

set_option Elab.async false

/-! ### The node settings record -/

/-- The settings that a load stores, in the manual's own figures (R34, R50, R130, R134 to R136, R141, R143, R145, R159, R163). -/
def loadedSettings (r : SettingsRec) : Settings :=
  { budget := max 1 r.budget.toNat
    reserve := min r.reserve.toNat (max 1 r.budget.toNat)
    silence := max 20 (min r.silence.toNat 2000)
    settle := max 20 (min r.settle.toNat 1000)
    sagThreshold := r.sagThreshold.toNat
    supplyFloor := r.supplyFloor.toNat
    leakThreshold := max 1 r.leakThreshold.toNat
    warmTemp := max 50 (min r.warmTemp.toNat 90)
    tripTemp := max 80 (min r.tripTemp.toNat 110)
    warmCap := max 1 (min r.warmCap.toNat 16)
    master := min r.master.toNat 15
    quietMaster := min r.quietMaster.toNat 15
    blink := max 100 (min r.blink.toNat 2000)
    warmLamp := min r.warmLamp.toNat 3
    attention := r.attention }

theorem settingsOf_eq (r : SettingsRec) : settingsOf r = loadedSettings r := by
  simp only [settingsOf, clamp_zero, clamp_byte]
  rfl

section
variable {f : Head} {s : State}

/-- With nothing waiting, the pass that a settings load calls for grants nothing (R54). -/
theorem execLoadNodeSettings_calm {r : SettingsRec} (hf : Heard f s) (hcalm : Calm s) :
    exec (.loadNodeSettings f r) s =
      .next { heard (encodeFrame (.loadNodeSettings f r)) s with settings := loadedSettings r } := by
  obtain ⟨-, -, -, -, hp⟩ := id hf
  have calm : Calm (storeSettings r (heard (encodeFrame (.loadNodeSettings f r)) s)) := hcalm
  have settled : ({ heard (encodeFrame (.loadNodeSettings f r)) s with passDue := false } : State) =
      heard (encodeFrame (.loadNodeSettings f r)) s := by rw [heard, ← hp]
  change Host.Outcome.next (orderFrame (.loadNodeSettings f r) f (storeSettings r) s) = _
  rw [orderFrame_heard hf, arbitrate_calm calm, ← settingsOf_eq]
  exact congrArg (fun t : State => Host.Outcome.next { t with settings := settingsOf r }) settled

/-! ### The input record -/

variable {r : InputRec}

theorem execLoadInput_eq (hf : Heard f s) :
    exec (.loadInput f r) s = .next (arbitrate (storeInput f.tag r (heard (encodeFrame (.loadInput f r)) s))) := by
  change Host.Outcome.next (orderFrame (.loadInput f r) f (storeInput f.tag r) s) = _
  rw [orderFrame_heard hf]

theorem debounceOf_debounceCode (d : Debounce) : debounceOf (debounceCode d) = some d := by cases d <;> rfl

theorem debounceOf_of_gt {b : Byte} (h : 2 < b.toNat) : debounceOf b = none := by
  have other : ∀ n : Byte, n.toNat ≤ 2 → b ≠ n := by
    rintro n hn rfl
    omega
  rw [debounceOf, if_neg (other 0 (by decide)), if_neg (other 1 (by decide)), if_neg (other 2 (by decide))]

theorem storeInput_range {tag : Byte} (h : 31 < r.input.toNat ∨ 1 < r.polarity.toNat ∨ 2 < r.debounce.toNat) (s : State) :
    storeInput tag r s = turnedAway tag .range s := by
  by_cases hi : 31 < r.input.toNat
  · exact withRef_of_ge hi s
  · have named : r.input.toNat = (⟨r.input.toNat, by omega⟩ : InputNo).val := rfl
    rw [storeInput, withRef_of_val named]
    rcases h with h | h | h
    · exact absurd h hi
    · split
      · exact if_pos h
      · rfl
    · rw [debounceOf_of_gt h]
      rfl

theorem storeInput_of_val {tag : Byte} {i : InputNo} {high : Bool} {d : Debounce} (hi : r.input.toNat = i.val)
    (hh : r.polarity = if high then 1 else 0) (hd : r.debounce = debounceCode d) (s : State) :
    storeInput tag r s = s.setInput i (s.inputs[i].loaded high d) := by
  have named : ¬ 1 < r.polarity.toNat := by rw [hh]; cases high <;> decide
  have polarity : (r.polarity == 1) = high := by rw [hh]; cases high <;> rfl
  rw [storeInput, withRef_of_val hi, hd, debounceOf_debounceCode]
  simp only [if_neg named, polarity]

end

/-- Settles O31: the figures of the settings record, and the three outcomes of an input load. -/
theorem settingsAndInputLoadsAct : Obligations.SettingsAndInputLoadsAct := by
  unfold Obligations.SettingsAndInputLoadsAct
  refine ⟨fun f r s => execLoadNodeSettings_calm, fun f r s hf => ?_⟩
  obtain ⟨-, -, -, -, hp⟩ := id hf
  intro h
  refine ⟨fun bad => ?_, fun i high d hi hh hd => ?_⟩
  · rw [execLoadInput_eq hf, storeInput_range bad]
    exact congrArg _ (arbitrate_of_not_due hp)
  · rw [execLoadInput_eq hf, storeInput_of_val hi hh hd]
    exact congrArg _ (arbitrate_of_not_due hp)

end Sys2Proof.Machine
end

section
/-! SUPPORT. The milliseconds of drive: what one charges to the account, and the accrual rows (R25 to R27, R36, R37). -/

namespace Sys2Proof.Machine

set_option Elab.async false

/-! ### The figures -/

/-- The account after a full millisecond of a kick (R25, R26). -/
def kickCharged (k : Coil) (x : Heat) : Heat := if k.l = 0 then x else { x with q := min k.l (x.q + k.ck) }

/-- The account after a full millisecond of a hold (R25, R27). -/
def holdCharged (k : Coil) (x : Heat) (heff : Nat) : Heat :=
  if k.l = 0 then x else { q := min k.l (holdSum k x heff), f := (k.ck * heff + x.f) % 16 }

/-- The latches after the account of `c` comes to `q`: an accrual that brings the channel into heat alert sets HeatAlert (R37). -/
def alertedAt (c : Chan) (q : Nat) (s : State) : BitVec 16 :=
  if !heatAlert s.coils[c] s.heat[c].q && heatAlert s.coils[c] q then s.latches ||| 8 else s.latches

theorem heatAlert_unmetered {k : Coil} (h : k.l = 0) (q : Nat) : heatAlert k q = false := by
  rw [heatAlert, h]
  rfl

section
variable {c : Chan} {s : State}

theorem alertedAt_unmetered (h : s.coils[c].l = 0) (q : Nat) : alertedAt c q s = s.latches := by
  rw [alertedAt, heatAlert_unmetered h, heatAlert_unmetered h]
  rfl

/-- A charge: a new figure of the account, and HeatAlert where it brings the channel into heat alert (R37). -/
theorem raiseHeat_charges (c : Chan) (x : Heat) (s : State) :
    raiseHeat c x s = { s with heat := s.heat.set c x, latches := alertedAt c x.q s } := by
  simp only [raiseHeat, setLatchIf, alertedAt]
  split <;> rfl

/-- An unmetered account takes nothing (R25). -/
theorem charge_unmetered (h : s.coils[c].l = 0) :
    { s with heat := s.heat.set c s.heat[c], latches := alertedAt c s.heat[c].q s } = s := by
  rw [alertedAt_unmetered h, set_self]

theorem accrueKick_eq (c : Chan) (s : State) :
    accrueKick c s = { s with
      heat := s.heat.set c (kickCharged s.coils[c] s.heat[c])
      latches := alertedAt c (kickCharged s.coils[c] s.heat[c]).q s } := by
  rw [accrueKick, kickCharged]
  by_cases hl : s.coils[c].l = 0
  · rw [if_pos hl, if_pos hl, charge_unmetered hl]
  · rw [if_neg hl, if_neg hl, raiseHeat_charges]

theorem accrueHold_eq (c : Chan) (heff : Nat) (s : State) :
    accrueHold c heff s = { s with
      heat := s.heat.set c (holdCharged s.coils[c] s.heat[c] heff)
      latches := alertedAt c (holdCharged s.coils[c] s.heat[c] heff).q s } := by
  rw [accrueHold, holdCharged]
  by_cases hl : s.coils[c].l = 0
  · rw [if_pos hl, if_pos hl, charge_unmetered hl]
  · rw [if_neg hl, if_neg hl, raiseHeat_charges]

/-! ### A millisecond of a kick and of a hold -/

/-- A millisecond more of the drive has been charged. -/
def Drive.counted (d : Drive) : Drive := { d with charged := d.charged + 1 }

/-- A channel's account charged to `x`, and its drive gone on as `a`. -/
def chargedMs (c : Chan) (x : Heat) (a : Activity) (s : State) : State :=
  { s with
    heat := s.heat.set c x
    latches := alertedAt c x.q s
    chans := s.chans.set c { s.chans[c] with act := a } }

theorem kickMs_of_kicking {d : Drive} {n ends : Nat} (ha : s.chans[c].act = .kicking d n ends) :
    kickMs c s = chargedMs c (kickCharged s.coils[c] s.heat[c]) (.kicking d.counted n ends) s := by
  simp only [kickMs, ha, accrueKick_eq]
  rfl

/-- The state after a millisecond of a hold that is no heat cutoff. -/
def chargedHold (c : Chan) (d : Drive) (heff : Nat) (s : State) : State :=
  chargedMs c (holdCharged s.coils[c] s.heat[c] heff) (.holding d.counted heff) s

theorem chargedHold_unmetered {d : Drive} {heff : Nat} (h : s.coils[c].l = 0) :
    chargedHold c d heff s = { s with chans := s.chans.set c { s.chans[c] with act := .holding d.counted heff } } := by
  rw [chargedHold, chargedMs, holdCharged, if_pos h, alertedAt_unmetered h, set_self]

theorem chargedHold_of_le {d : Drive} {heff : Nat} (hl : s.coils[c].l ≠ 0)
    (hfit : holdSum s.coils[c] s.heat[c] heff ≤ s.coils[c].l) :
    chargedHold c d heff s = chargedMs c
      { q := holdSum s.coils[c] s.heat[c] heff, f := (s.coils[c].ck * heff + s.heat[c].f) % 16 } (.holding d.counted heff) s := by
  rw [chargedHold, holdCharged, if_neg hl, Nat.min_eq_right hfit]

theorem holdMs_of_holding {d : Drive} {heff : Nat} (ha : s.chans[c].act = .holding d heff) :
    holdMs c s = if holdOverflows s c heff then endHold c (setLatch .heatCutoff (chargedHold c d heff s))
      else chargedHold c d heff s := by
  simp only [holdMs, ha, accrueHold_eq]
  rfl

theorem holdOverflows_eq_false_iff {heff : Nat} :
    holdOverflows s c heff = false ↔ s.coils[c].l = 0 ∨ holdSum s.coils[c] s.heat[c] heff ≤ s.coils[c].l := by
  rw [holdOverflows, Bool.and_eq_false_iff, decide_eq_false_iff_not, decide_eq_false_iff_not, Nat.not_lt, Nat.not_lt, Nat.le_zero]

/-! ### The accrual rows -/

theorem kickCharged_of_le {k : Coil} {x : Heat} (h : x.q ≤ k.l) : kickCharged k x = { x with q := min k.l (x.q + k.ck) } := by
  rw [kickCharged]
  split
  · rename_i hl
    have empty : x.q = 0 := by omega
    rw [hl, Nat.zero_min, ← empty]
  · rfl

theorem kickAccrual_eq {d : Drive} {n ends : Nat} (ha : s.chans[c].act = .kicking d n ends) (hd : d.charged < n)
    (hq : s.heat[c].q ≤ s.coils[c].l) :
    exec (.kickAccrual c) s = .next (chargedMs c { s.heat[c] with q := min s.coils[c].l (s.heat[c].q + s.coils[c].ck) }
      (.kicking d.counted n ends) (s.reach d.nextMs)) := by
  have run : exec (.kickAccrual c) s = .next (kickMs c (s.reach d.nextMs)) := by
    change Host.Outcome.next (kickAccrualDue c s) = _
    simp only [kickAccrualDue, ha, if_pos hd]
  have fits := kickCharged_of_le (k := (s.reach d.nextMs).coils[c]) (x := (s.reach d.nextMs).heat[c]) hq
  rw [run, kickMs_of_kicking (s := s.reach d.nextMs) ha, fits]
  rfl

section
variable {d : Drive} {heff : Nat}

theorem holdAccrual_eq (ha : s.chans[c].act = .holding d heff) (hp : s.passDue = false)
    (hfit : s.coils[c].l = 0 ∨ holdSum s.coils[c] s.heat[c] heff ≤ s.coils[c].l) :
    exec (.holdAccrual c) s = .next (chargedHold c d heff (s.reach d.nextMs)) := by
  have run : exec (.holdAccrual c) s = .next (arbitrate (holdMs c (s.reach d.nextMs))) := by
    change Host.Outcome.next (holdAccrualDue c s) = _
    simp only [holdAccrualDue, ha]
  have fits : holdOverflows (s.reach d.nextMs) c heff = false := holdOverflows_eq_false_iff.mpr hfit
  have due : (chargedHold c d heff (s.reach d.nextMs)).passDue = false := hp
  rw [run, holdMs_of_holding (s := s.reach d.nextMs) ha, fits]
  exact congrArg _ (arbitrate_of_not_due due)

/-- The millisecond that has just been charged is not charged again at the hold's end (R27; log entry 6). -/
theorem chargeDue_counted (d : Drive) : chargeDue d.nextMs d.counted = false := by
  rw [← Bool.not_eq_true, chargeDue_iff]
  simp only [Drive.nextMs, Drive.counted, Config.msTime]
  omega

/-- An accrual above L is a heat cutoff: the account stands at L and the hold ends (R27, R36). -/
theorem holdAccrual_cuts (ha : s.chans[c].act = .holding d heff) (hcalm : Calm s)
    (hl : 0 < s.coils[c].l) (hover : s.coils[c].l < holdSum s.coils[c] s.heat[c] heff) (hn : s.now ≤ d.nextMs)
    (hr : s.coils[c].recovery ≠ 0) :
    ∃ t, exec (.holdAccrual c) s = .next t ∧ t.heat[c].q = s.coils[c].l ∧
      t.latches = alertedAt c s.coils[c].l s ||| 0x10 ∧
      t.chans[c].act = .recovering (d.nextMs + s.coils[c].recovery * 1000) ∧ t.inUse = s.inUse - drawFor s.coils[c] heff := by
  let u := setLatch .heatCutoff (chargedHold c d heff { s with now := d.nextMs })
  have account : (holdCharged s.coils[c] s.heat[c] heff).q = s.coils[c].l := by
    rw [holdCharged, if_neg (Nat.pos_iff_ne_zero.mp hl)]
    exact Nat.min_eq_left (Nat.le_of_lt hover)
  have act : u.chans[c].act = .holding d.counted heff := congrArg Channel.act (getElem_set_same _ _ _)
  have final : finalCharge c u = u := by
    have due : chargeDue u.now d.counted = false := chargeDue_counted d
    simp only [finalCharge, act, due, Bool.false_eq_true, if_false]
  have overflows : holdOverflows { s with now := d.nextMs } c heff = true := by
    rw [← Bool.not_eq_false, holdOverflows_eq_false_iff]
    change ¬ (s.coils[c].l = 0 ∨ holdSum s.coils[c] s.heat[c] heff ≤ s.coils[c].l)
    omega
  have run : exec (.holdAccrual c) s = .next (arbitrate (endHold c u)) := by
    change Host.Outcome.next (holdAccrualDue c s) = _
    simp only [holdAccrualDue, ha, reach_of_le hn]
    rw [holdMs_of_holding (s := { s with now := d.nextMs }) ha, if_pos overflows]
  have ended := endHold_rests (s := u) act hr hcalm.1
  rw [final] at ended
  rw [run, arbitrate_eq_of_calm ended hcalm]
  refine ⟨_, rfl, ?_, ?_, congrArg Channel.act (getElem_set_same _ _ _), rfl⟩
  · exact (congrArg Heat.q (getElem_set_same _ _ _)).trans account
  · change alertedAt c (holdCharged s.coils[c] s.heat[c] heff).q s ||| 0x10 = _
    rw [account]

end

end

/-- Settles O52: the account and the latches after a millisecond, written out, and the calm end of a hold that is cut off. -/
theorem driveHeatsTheAccount : Obligations.DriveHeatsTheAccount := by
  unfold Obligations.DriveHeatsTheAccount
  intro c s hq k alert alerted
  have latches : ∀ q, alertedAt c q s = alerted q := fun q => by simp only [alertedAt, heatAlert_eq]; rfl
  refine ⟨fun d g ends ha hd => ?_, fun d heff ha hcalm hp => ⟨fun hl => ?_, fun hl hfit => ?_, fun hl hover hn hr => ?_⟩⟩
  · intro q
    rw [kickAccrual_eq ha hd hq, ← latches q]
    rfl
  · rw [holdAccrual_eq ha hp (.inl hl), chargedHold_unmetered (s := s.reach d.nextMs) hl]
    rfl
  · have metered := Nat.pos_iff_ne_zero.mp hl
    rw [holdAccrual_eq ha hp (.inr hfit), chargedHold_of_le (s := s.reach d.nextMs) metered hfit, ← latches]
    rfl
  · have cut := holdAccrual_cuts ha hcalm hl hover hn hr
    rwa [latches] at cut

end Sys2Proof.Machine
end

section
/-! SUPPORT. Work on the channels one after another, in ascending number: what the state is before and after the turn of a channel. -/

namespace Sys2Proof.Machine

set_option Elab.async false

/-- The state after the channels below `n` have had their turn. -/
@[irreducible] def upTo (f : Chan → State → State) (n : Nat) (s : State) : State :=
  ((List.finRange 24).take n).foldl (fun s c => f c s) s

section
variable (f : Chan → State → State) (s : State)

theorem upTo_zero : upTo f 0 s = s := by
  rw [upTo]
  rfl

theorem upTo_succ (c : Chan) : upTo f (c.val + 1) s = f c (upTo f c.val s) := by
  have turn : (List.finRange 24)[c.val]? = some c := by simp
  rw [upTo, upTo, List.take_add_one, turn, List.foldl_append]
  rfl

theorem upTo_all : upTo f 24 s = forChans f s := by
  rw [upTo, List.take_of_length_le (Nat.le_of_eq List.length_finRange), forChans]

/-- What the turns of the channels from `n` up to `m` keep. -/
theorem upTo_range {P : State → Prop} {n m : Nat} (hnm : n ≤ m) (hm : m ≤ 24)
    (h : ∀ (c : Chan) t, n ≤ c.val → P t → P (f c t)) (hn : P (upTo f n s)) : P (upTo f m s) := by
  induction m, hnm using Nat.le_induction with
  | base => exact hn
  | succ m hnm ih =>
    rw [show m + 1 = (⟨m, hm⟩ : Chan).val + 1 from rfl, upTo_succ]
    exact h _ _ hnm (ih (Nat.le_of_succ_le hm))

end

/-- The drive state and the heat account of a channel are the same. -/
def SameAt (c : Chan) (s t : State) : Prop := t.chans[c] = s.chans[c] ∧ t.heat[c] = s.heat[c]

theorem SameAt.refl (c : Chan) (s : State) : SameAt c s s := ⟨rfl, rfl⟩

theorem SameAt.trans {c : Chan} {s t u : State} (h : SameAt c s t) (k : SameAt c t u) : SameAt c s u :=
  ⟨k.1.trans h.1, k.2.trans h.2⟩

theorem SameAt.only {c c' : Chan} {s t u : State} (h : SameAt c s t) (k : OnlyOn c' t u) (hc : c ≠ c') : SameAt c s u := by
  obtain ⟨hx, hq⟩ := h
  obtain ⟨kx, kq, -⟩ := k c hc
  exact ⟨kx.trans hx, kq.trans hq⟩

/-- Work on nothing but the channel it is given, which makes no request. -/
structure Apart (f : Chan → State → State) : Prop where
  only : ∀ c s, OnlyOn c s (f c s)
  beyond : ∀ c s, (f c s).beyondDrives = s.beyondDrives
  drains : ∀ c s, Drains s (f c s)

namespace Apart
variable {f : Chan → State → State} (k : Apart f) (s : State)
include k

theorem upTo_beyond {n : Nat} (hn : n ≤ 24) : (upTo f n s).beyondDrives = s.beyondDrives :=
  upTo_range f s (P := fun t => t.beyondDrives = s.beyondDrives) (Nat.zero_le n) hn
    (fun c t _ h => (k.beyond c t).trans h) (by rw [upTo_zero])

theorem upTo_drains {n m : Nat} (hnm : n ≤ m) (hm : m ≤ 24) : Drains (upTo f n s) (upTo f m s) :=
  upTo_range f s (P := Drains (upTo f n s)) hnm hm (fun c t _ h => h.trans (k.drains c t)) (Drains.refl _)

theorem upTo_drains_start {m : Nat} (hm : m ≤ 24) : Drains s (upTo f m s) := by
  have start := k.upTo_drains s (Nat.zero_le m) hm
  rwa [upTo_zero] at start

theorem forChans_beyond : (forChans f s).beyondDrives = s.beyondDrives := forChans_view (v := State.beyondDrives) k.beyond s

theorem forChans_drains : Drains s (forChans f s) := upTo_all f s ▸ k.upTo_drains_start s (Nat.le_refl 24)

/-- Before its turn a channel is as it was. -/
theorem before (c : Chan) : SameAt c s (upTo f c.val s) := by
  have go : ∀ n, n ≤ c.val → SameAt c s (upTo f n s) := by
    intro n
    induction n with
    | zero =>
      rw [upTo_zero]
      exact fun _ => SameAt.refl c s
    | succ n ih =>
      intro hn
      have turn : upTo f (n + 1) s = f ⟨n, by omega⟩ (upTo f n s) := upTo_succ f s ⟨n, by omega⟩
      rw [turn]
      exact (ih (Nat.le_of_succ_le hn)).only (k.only _ _) (Fin.ne_of_val_ne (Nat.ne_of_gt hn))
  exact go c.val (Nat.le_refl _)

/-- After its turn a channel stays as it is. -/
theorem after (c : Chan) : SameAt c (upTo f (c.val + 1) s) (upTo f 24 s) :=
  upTo_range f s (P := SameAt c (upTo f (c.val + 1) s)) c.isLt (Nat.le_refl 24)
    (fun _ t hc h => h.only (k.only _ t) (Fin.ne_of_val_ne (Nat.ne_of_lt hc))) (SameAt.refl c _)

end Apart

/-- Work that finds nothing to do on any channel does nothing. -/
theorem forChans_id {f : Chan → State → State} {s : State} (h : ∀ c, f c s = s) : forChans f s = s :=
  forChans_invariant (P := fun t => t = s) (fun c t ht => by rw [ht, h c]) rfl

theorem Drains.calm {s t : State} (h : Drains s t) (hcalm : Calm s) : Calm t := by
  obtain ⟨hq, hh⟩ := hcalm
  refine ⟨List.eq_nil_iff_forall_not_mem.mpr fun e he => ?_, List.eq_nil_iff_forall_not_mem.mpr fun k hk => ?_⟩
  · rcases h.queue e he with ⟨e', he', -⟩ | ⟨k, hk, -⟩
    · rw [hq] at he'
      exact List.not_mem_nil he'
    · rw [hh] at hk
      exact List.not_mem_nil hk
  · have held := h.held k hk
    rw [hh] at held
    exact List.not_mem_nil held

end Sys2Proof.Machine
end

section
/-! SUPPORT. The cooling tick at one channel: the millisecond that ends with it, the decay, the lower and the higher duty (R28, R33 to R36). -/

namespace Sys2Proof.Machine

set_option Elab.async false

/-! ### Each part of the tick is work on one channel -/

section
variable {c : Chan} {s₀ s : State}

theorem OnlyOn.kickMs (h : OnlyOn c s₀ s) : OnlyOn c s₀ (kickMs c s) := by
  simp only [Machine.kickMs]; split
  · exact h.accrueKick.setChan _
  · exact h

theorem OnlyOn.holdMs (h : OnlyOn c s₀ s) : OnlyOn c s₀ (holdMs c s) := by
  simp only [Machine.holdMs]
  repeat' split
  · exact (((h.accrueHold _).setChan _).setLatch _).endHold
  · exact (h.accrueHold _).setChan _
  · exact h

theorem Drains.kickMs (h : Drains s₀ s) (c : Chan) : Drains s₀ (kickMs c s) := by
  simp only [Machine.kickMs]; split
  · exact (h.accrueKick c).setChan _ _ (.inl rfl)
  · exact h

theorem Drains.holdMs (h : Drains s₀ s) (c : Chan) : Drains s₀ (holdMs c s) := by
  simp only [Machine.holdMs]
  repeat' split
  · refine Drains.endHold (Drains.setLatch (Drains.setChan (h.accrueHold c _) c _ ?_) _) c
    exact .inl rfl
  · exact (h.accrueHold c _).setChan _ _ (.inl rfl)
  · exact h

end

theorem apart_chargeBefore (t : Nat) : Apart (chargeBefore t) where
  only c s := by
    simp only [chargeBefore]
    repeat' split
    · exact (OnlyOn.refl c s).kickMs
    · exact OnlyOn.refl c s
    · exact (OnlyOn.refl c s).holdMs
    · exact OnlyOn.refl c s
    · exact OnlyOn.refl c s
  beyond c s := beyondDrives_chargeBefore s t c
  drains c s := by
    simp only [chargeBefore]
    repeat' split
    · exact (Drains.refl s).kickMs c
    · exact Drains.refl s
    · exact (Drains.refl s).holdMs c
    · exact Drains.refl s
    · exact Drains.refl s

theorem apart_coolChannel : Apart coolChannel where
  only c s := (OnlyOn.refl c s).setHeat _
  beyond _ _ := rfl
  drains c s := (Drains.refl s).setHeat c _

theorem apart_lowerHold : Apart lowerHold where
  only c s := by
    simp only [lowerHold]
    repeat' split
    · exact ((OnlyOn.refl c s).setLatch _).endHold
    · exact ((OnlyOn.refl c s).setAct _).callPass
    · exact OnlyOn.refl c s
    · exact OnlyOn.refl c s
  beyond c s := beyondDrives_lowerHold s c
  drains c s := by
    simp only [lowerHold]
    repeat' split
    · exact ((Drains.refl s).setLatch _).endHold c
    · exact ((Drains.refl s).setAct c _).callPass
    · exact Drains.refl s
    · exact Drains.refl s

theorem apart_raiseHold : Apart raiseHold where
  only c s := by
    simp only [raiseHold]
    repeat' split
    · exact (OnlyOn.refl c s).setAct _
    · exact OnlyOn.refl c s
    · exact OnlyOn.refl c s
  beyond c s := beyondDrives_raiseHold s c
  drains c s := by
    simp only [raiseHold]
    repeat' split
    · exact (Drains.refl s).setAct c _
    · exact Drains.refl s
    · exact Drains.refl s

/-! ### The millisecond that ends at the tick -/

/-- A drive that has been charged for a millisecond ending at the tick (R28; log entry 6). -/
def countedAt (t : Nat) (d : Drive) : Drive := if d.nextMs = t then d.counted else d

/-- An activity after the tick's charge. -/
def countedBy (t : Nat) : Activity → Activity
  | .kicking d n ends => .kicking (countedAt t d) n ends
  | .holding d e => .holding (countedAt t d) e
  | a => a

/-- An account after the tick's charge. -/
def chargedBy (t : Nat) (k : Coil) (x : Heat) : Activity → Heat
  | .kicking d _ _ => if d.nextMs = t then kickCharged k x else x
  | .holding d e => if d.nextMs = t then holdCharged k x e else x
  | _ => x

/-- The charge at the tick is no heat cutoff (R27, R36). -/
def ChargeFits (t : Nat) (c : Chan) (s : State) : Prop :=
  ∀ d e, s.chans[c].act = .holding d e → d.nextMs = t → s.coils[c].l = 0 ∨ holdSum s.coils[c] s.heat[c] e ≤ s.coils[c].l

section
variable {c : Chan} {s : State}

theorem ChargeFits.same {t : Nat} {u : State} (h : ChargeFits t c s) (same : SameAt c s u) (hc : u.coils = s.coils) :
    ChargeFits t c u := by
  obtain ⟨hx, hq⟩ := same
  intro d e
  rw [hx, hq, hc]
  exact h d e

theorem chan_eta {x : Channel} {a : Activity} (h : x.act = a) : { x with act := a } = x := by rw [← h]

/-- What the tick's charge makes of a channel: nothing but the account, the count and the HeatAlert latch. -/
theorem chargeBefore_at {t : Nat} (h : ChargeFits t c s) :
    (chargeBefore t c s).chans[c] = { s.chans[c] with act := countedBy t s.chans[c].act } ∧
      (chargeBefore t c s).heat[c] = chargedBy t s.coils[c] s.heat[c] s.chans[c].act ∧
      (chargeBefore t c s).inUse = s.inUse := by
  have charges : ∀ x a, (chargedMs c x a s).chans[c] = { s.chans[c] with act := a } ∧ (chargedMs c x a s).heat[c] = x ∧
      (chargedMs c x a s).inUse = s.inUse := fun x a => ⟨getElem_set_same _ _ _, getElem_set_same _ _ _, rfl⟩
  cases ha : s.chans[c].act with
  | kicking d n ends =>
    rw [countedBy, countedAt, chargedBy]
    by_cases hd : d.nextMs = t
    · have run : chargeBefore t c s = kickMs c s := by simp only [chargeBefore, ha, if_pos hd]
      rw [run, kickMs_of_kicking ha, if_pos hd, if_pos hd]
      exact charges _ _
    · have run : chargeBefore t c s = s := by simp only [chargeBefore, ha, if_neg hd]
      rw [run, if_neg hd, if_neg hd]
      exact ⟨(chan_eta ha).symm, rfl, rfl⟩
  | holding d e =>
    rw [countedBy, countedAt, chargedBy]
    by_cases hd : d.nextMs = t
    · have run : chargeBefore t c s = holdMs c s := by simp only [chargeBefore, ha, if_pos hd]
      rw [run, holdMs_of_holding ha, holdOverflows_eq_false_iff.mpr (h d e ha hd), if_pos hd, if_pos hd]
      exact charges _ _
    · have run : chargeBefore t c s = s := by simp only [chargeBefore, ha, if_neg hd]
      rw [run, if_neg hd, if_neg hd]
      exact ⟨(chan_eta ha).symm, rfl, rfl⟩
  | _ =>
    have run : chargeBefore t c s = s := by simp only [chargeBefore, ha]
    rw [run]
    exact ⟨(chan_eta ha).symm, rfl, rfl⟩

theorem chargeBefore_of_not_driven (t : Nat) (h : s.chans[c].driven = false) : chargeBefore t c s = s := by
  rw [chargeBefore]
  split
  · rename_i ha
    rw [driven_of_kicking ha] at h
    cases h
  · rename_i ha
    rw [driven_of_holding ha] at h
    cases h
  · rfl

theorem countedBy_of_not_driven (t : Nat) {x : Channel} (h : x.driven = false) : x.act = countedBy t x.act := by
  rw [countedBy.eq_def]
  split
  · rename_i ha
    rw [driven_of_kicking ha] at h
    cases h
  · rename_i ha
    rw [driven_of_holding ha] at h
    cases h
  · rfl

/-! ### The duty -/

theorem not_holding_of_not_driven {x : Channel} (h : x.driven = false) : x.isHolding = false := (Bool.or_eq_false_iff.mp h).2

theorem not_holding_of_kicking {x : Channel} {d : Drive} {n ends : Nat} (h : x.act = .kicking d n ends) :
    x.isHolding = false := by
  rw [Channel.isHolding, h]

theorem lowerHold_of_not_holding (h : s.chans[c].isHolding = false) : lowerHold c s = s := by
  rw [lowerHold]
  split
  · rename_i ha
    rw [Channel.isHolding, ha] at h
    cases h
  · rfl

theorem raiseHold_of_not_holding (h : s.chans[c].isHolding = false) : raiseHold c s = s := by
  rw [raiseHold]
  split
  · rename_i ha
    rw [Channel.isHolding, ha] at h
    cases h
  · rfl

theorem enterRecovery_inUse : (enterRecovery c s).inUse = s.inUse - actDraw s.coils[c] s.chans[c].act := by
  rw [enterRecovery]
  split
  · exact setAct_inUse c .idle s
  · exact setAct_inUse c _ s

theorem restOf_not_holding (x : Channel) : Channel.isHolding { x with act := restOf c s } = false := by
  rw [restOf]
  split <;> rfl

variable {d : Drive} {e : Nat}

theorem endHold_inUse (ha : s.chans[c].act = .holding d e) : (endHold c s).inUse = s.inUse - drawFor s.coils[c] e := by
  have withdrawn : ∀ t, (withdrawRekick c t).inUse = t.inUse := fun t =>
    (congrArg State.inUse (show (withdrawRekick c t).beyondTrains = t.beyondTrains by simp) :)
  rw [endHold_of_holding c ha, withdrawn]
  change (enterRecovery c (finalCharge c s)).inUse = _
  rw [enterRecovery_inUse, finalCharge_inUse, finalCharge_coils, finalCharge_chans, ha]
  rfl

theorem lowerHold_cuts (ha : s.chans[c].act = .holding d e) (hn : heffNow s c = 0) :
    (lowerHold c s).chans[c] = { s.chans[c] with act := restOf c s } ∧ (lowerHold c s).latches.getLsbD 4 = true ∧
      (lowerHold c s).inUse = s.inUse - drawFor s.coils[c] e := by
  have run : lowerHold c s = endHold c (setLatch .heatCutoff s) := by simp only [lowerHold, ha, if_pos hn]
  have latched : (setLatch .heatCutoff s).latches.getLsbD 4 = true := by
    change (s.latches ||| 0x10).getLsbD 4 = true
    simp
  have ended := (Drains.refl (setLatch .heatCutoff s)).endHold c
  rw [run]
  refine ⟨?_, ended.latches 4 latched, endHold_inUse (s := setLatch .heatCutoff s) ha⟩
  rw [endHold_chans c (s := setLatch .heatCutoff s) ha, getElem_set_same]
  rfl

theorem lowerHold_lowers (ha : s.chans[c].act = .holding d e) (h0 : 0 < heffNow s c) (hn : heffNow s c < e) :
    lowerHold c s = (setAct c (.holding d (heffNow s c)) s).callPass := by
  simp only [lowerHold, ha, if_neg (Nat.pos_iff_ne_zero.mp h0), if_pos hn]

theorem lowerHold_stays (ha : s.chans[c].act = .holding d e) (h0 : 0 < heffNow s c) (hn : e ≤ heffNow s c) :
    lowerHold c s = s := by
  simp only [lowerHold, ha, if_neg (Nat.pos_iff_ne_zero.mp h0), if_neg (Nat.not_lt.mpr hn)]

theorem raiseHold_raises (ha : s.chans[c].act = .holding d e) (hn : e < heffNow s c)
    (hb : s.inUse - drawFor s.coils[c] e + drawFor s.coils[c] (heffNow s c) ≤ budgetInForce s) :
    raiseHold c s = setAct c (.holding d (heffNow s c)) s := by
  rw [← drawFor_eq, ← drawFor_eq] at hb
  simp only [raiseHold, ha, if_pos (And.intro hn hb)]

theorem raiseHold_stays (ha : s.chans[c].act = .holding d e) (hn : e < heffNow s c →
    budgetInForce s < s.inUse - drawFor s.coils[c] e + drawFor s.coils[c] (heffNow s c)) : raiseHold c s = s := by
  have stays : ¬ (e < heffNow s c ∧
      s.inUse - holdDraw s.coils[c] e + holdDraw s.coils[c] (heffNow s c) ≤ budgetInForce s) := fun ⟨hlt, hb⟩ =>
    Nat.not_lt.mpr hb (hn hlt)
  simp only [raiseHold, ha, if_neg stays]

theorem lowerHold_heat (h0 : 0 < heffNow s c) : (lowerHold c s).heat = s.heat := by
  simp only [lowerHold, if_neg (Nat.pos_iff_ne_zero.mp h0)]
  repeat' split
  · exact setAct_heat c _ s
  · rfl
  · rfl

theorem raiseHold_heat : (raiseHold c s).heat = s.heat := by
  simp only [raiseHold]
  repeat' split
  · exact setAct_heat c _ s
  · rfl
  · rfl

/-- A hold at a new duty: the budget in use changes by the difference of the draws (R51). -/
theorem setAct_holding_inUse (ha : s.chans[c].act = .holding d e) (d' : Drive) (n : Nat) :
    (setAct c (.holding d' n) s).inUse = s.inUse - drawFor s.coils[c] e + drawFor s.coils[c] n := by
  rw [setAct_inUse, ha]
  rfl

theorem setAct_chan (x : Activity) : (setAct c x s).chans[c] = { s.chans[c] with act := x } := by
  rw [setAct_chans, getElem_set_same]

end

end Sys2Proof.Machine
end

section
/-! SUPPORT. The cooling tick on all channels: the accounts, the falls and then the rises in channel order (R28, R35). -/

namespace Sys2Proof.Machine

set_option Elab.async false

/-! ### The stages of the tick -/

/-- The clock and the next tick's time, as the tick begins. -/
def tickStart (s : State) : State :=
  (s.reach s.clocks.cooling).setClocks { s.clocks with cooling := s.clocks.cooling + 16 * Config.msTime }

/-- After the charges and the decay (R28). -/
def tickCooled (s : State) : State := forChans coolChannel (forChans (chargeBefore s.clocks.cooling) (tickStart s))

/-- After the falls of the channels below `n` (R35). -/
@[irreducible] def lowered (n : Nat) (s : State) : State := upTo lowerHold n (tickCooled s)

/-- After all the falls and the rises of the channels below `n` (R35). -/
@[irreducible] def raised (n : Nat) (s : State) : State := upTo raiseHold n (lowered 24 s)

/-- The account after the charge and the decay. -/
def cooledTo (c : Chan) (s : State) : Nat :=
  decayed s.coils[c] (chargedBy s.clocks.cooling s.coils[c] s.heat[c] s.chans[c].act).q

theorem raised_all (s : State) : raised 24 s = forChans raiseHold (forChans lowerHold (tickCooled s)) := by
  rw [raised, lowered, upTo_all, upTo_all]

theorem cool_eq (s : State) :
    cool s = arbitrate (if (raised 24 s).queue.any (·.wait == .heatWait) then (raised 24 s).callPass else raised 24 s) := by
  rw [raised_all, tickCooled, cool]
  rfl

theorem lowered_zero (s : State) : lowered 0 s = tickCooled s := by rw [lowered, upTo_zero]

theorem raised_zero (s : State) : raised 0 s = lowered 24 s := by rw [raised, upTo_zero]

theorem lowered_succ (c : Chan) (s : State) : lowered (c.val + 1) s = lowerHold c (lowered c.val s) := by
  rw [lowered, lowered, upTo_succ]

theorem raised_succ (c : Chan) (s : State) : raised (c.val + 1) s = raiseHold c (raised c.val s) := by
  rw [raised, raised, upTo_succ]

theorem tickCooled_drains (s : State) : Drains s (tickCooled s) := by
  have start : Drains s (tickStart s) := (Drains.refl s).keep rfl rfl rfl rfl (fun _ => .inl rfl) fun _ h => h
  rw [tickCooled]
  exact (start.trans ((apart_chargeBefore _).forChans_drains _)).trans (apart_coolChannel.forChans_drains _)

theorem lowered_drains {n : Nat} (s : State) (h : n ≤ 24) : Drains (lowered n s) (raised 24 s) := by
  rw [raised]
  refine Drains.trans ?_ (apart_raiseHold.upTo_drains_start (lowered 24 s) (Nat.le_refl 24))
  rw [lowered, lowered]
  exact apart_lowerHold.upTo_drains (tickCooled s) h (Nat.le_refl 24)

/-- With nothing waiting, the pass at the end of the tick grants nothing (R55). -/
theorem coolingTick_calm {s : State} (h : Calm s) : exec .coolingTick s = .next { raised 24 s with passDue := false } := by
  have calm : Calm (raised 24 s) := by
    have drains := lowered_drains s (Nat.zero_le 24)
    rw [lowered_zero] at drains
    exact ((tickCooled_drains s).trans drains).calm h
  have waits : (raised 24 s).queue.any (·.wait == .heatWait) = false := by rw [calm.1]; rfl
  have run : cool s = arbitrate (raised 24 s) := by
    rw [cool_eq, waits]
    rfl
  change Host.Outcome.next (cool s) = _
  rw [run, arbitrate_calm calm]

/-! ### No channel driven -/

/-- Only the accounts differ. -/
def HeatOnly (s t : State) : Prop := ∃ x, t = { s with heat := x }

theorem coolChannels_heatOnly (s : State) : HeatOnly s (forChans coolChannel s) :=
  forChans_invariant (P := HeatOnly s) (fun c t ht => by
    obtain ⟨x, rfl⟩ := ht
    exact ⟨_, rfl⟩) ⟨s.heat, rfl⟩

theorem coolChannels_chans (s : State) : (forChans coolChannel s).chans = s.chans := by
  obtain ⟨x, same⟩ := coolChannels_heatOnly s
  rw [same]

theorem coolChannels_inUse (s : State) : (forChans coolChannel s).inUse = s.inUse := by
  obtain ⟨x, same⟩ := coolChannels_heatOnly s
  rw [same]

theorem coolChannels_heat (c : Chan) (s : State) :
    (forChans coolChannel s).heat[c] = { s.heat[c] with q := decayed s.coils[c] s.heat[c].q } := by
  obtain ⟨-, before⟩ := apart_coolChannel.before s c
  obtain ⟨-, after⟩ := apart_coolChannel.after s c
  have coils := coils_of_beyondDrives (apart_coolChannel.upTo_beyond s (Nat.le_of_lt c.isLt))
  rw [← upTo_all, after, upTo_succ, coolChannel, State.setHeat_heat, getElem_set_same, before, coils]

theorem raised_of_not_driven {s : State} (h : ∀ c : Chan, s.chans[c].driven = false) :
    raised 24 s = forChans coolChannel (tickStart s) := by
  have still : forChans (chargeBefore s.clocks.cooling) (tickStart s) = tickStart s :=
    forChans_id fun c => chargeBefore_of_not_driven (s := tickStart s) _ (h c)
  have cooled : tickCooled s = forChans coolChannel (tickStart s) := by rw [tickCooled, still]
  have quiet : ∀ c : Chan, (forChans coolChannel (tickStart s)).chans[c].isHolding = false := fun c => by
    rw [coolChannels_chans]
    exact not_holding_of_not_driven (h c)
  rw [raised_all, cooled, forChans_id fun c => lowerHold_of_not_holding (quiet c),
    forChans_id fun c => raiseHold_of_not_holding (quiet c)]

/-! ### The accounts after the charges and the decay -/

section
variable {s : State} (fits : ∀ c, ChargeFits s.clocks.cooling c s)
include fits

theorem chargesFit (c : Chan) (n : Nat) (h : n = c.val) :
    ChargeFits s.clocks.cooling c (upTo (chargeBefore s.clocks.cooling) n (tickStart s)) := by
  subst h
  exact ChargeFits.same (s := tickStart s) (fits c) ((apart_chargeBefore _).before _ c)
    (coils_of_beyondDrives ((apart_chargeBefore _).upTo_beyond _ (Nat.le_of_lt c.isLt)) :)

/-- The charges at the tick do not change the budget in use. -/
theorem charges_inUse : (forChans (chargeBefore s.clocks.cooling) (tickStart s)).inUse = s.inUse := by
  have go : ∀ n, n ≤ 24 → (upTo (chargeBefore s.clocks.cooling) n (tickStart s)).inUse = s.inUse := by
    intro n
    induction n with
    | zero =>
      rw [upTo_zero]
      exact fun _ => rfl
    | succ n ih =>
      intro hn
      have turn := upTo_succ (chargeBefore s.clocks.cooling) (tickStart s) ⟨n, hn⟩
      obtain ⟨-, -, same⟩ := chargeBefore_at (chargesFit fits ⟨n, hn⟩ n rfl)
      exact ((congrArg State.inUse turn).trans same).trans (ih (Nat.le_of_succ_le hn))
  exact upTo_all _ _ ▸ go 24 (Nat.le_refl 24)

theorem charges_at (c : Chan) :
    let u := forChans (chargeBefore s.clocks.cooling) (tickStart s)
    u.chans[c] = { s.chans[c] with act := countedBy s.clocks.cooling s.chans[c].act } ∧
      u.heat[c] = chargedBy s.clocks.cooling s.coils[c] s.heat[c] s.chans[c].act := by
  have apart := apart_chargeBefore s.clocks.cooling
  obtain ⟨chan, heat, -⟩ := chargeBefore_at (chargesFit fits c c.val rfl)
  obtain ⟨chan₀, heat₀⟩ := apart.before (tickStart s) c
  obtain ⟨chan₁, heat₁⟩ := apart.after (tickStart s) c
  have coils := coils_of_beyondDrives (apart.upTo_beyond (tickStart s) (Nat.le_of_lt c.isLt))
  have turn := upTo_succ (chargeBefore s.clocks.cooling) (tickStart s) c
  rw [← turn, chan₀] at chan
  rw [← turn, heat₀, chan₀, coils] at heat
  rw [← upTo_all]
  exact ⟨chan₁.trans chan, heat₁.trans heat⟩

theorem tickCooled_inUse : (tickCooled s).inUse = s.inUse := by
  rw [tickCooled, coolChannels_inUse, charges_inUse fits]

theorem tickCooled_chan (c : Chan) :
    (tickCooled s).chans[c] = { s.chans[c] with act := countedBy s.clocks.cooling s.chans[c].act } := by
  obtain ⟨chan, -⟩ := charges_at fits c
  rw [tickCooled, coolChannels_chans, chan]

theorem tickCooled_account (c : Chan) : (tickCooled s).heat[c].q = cooledTo c s := by
  have coils := coils_of_beyondDrives ((apart_chargeBefore s.clocks.cooling).forChans_beyond (tickStart s))
  obtain ⟨-, heat⟩ := charges_at fits c
  rw [tickCooled, coolChannels_heat, heat, coils]
  rfl

end

/-! ### The turn of a channel -/

/-- What a duty is computed from: the tables, the supply and the temperature as the tick finds them, and the cooled account. -/
structure Ready (c : Chan) (s u : State) : Prop where
  beyond : u.beyondDrives = (tickStart s).beyondDrives
  account : u.heat[c].q = cooledTo c s

section
variable {c : Chan} {s u : State}

theorem Ready.coils (h : Ready c s u) : u.coils = s.coils := (coils_of_beyondDrives h.beyond :)

theorem Ready.duty (h : Ready c s u) : heffNow u c = dutyFor s s.coils[c] (cooledTo c s) := by
  have mon : u.mon = s.mon := (mon_of_beyondDrives h.beyond :)
  have settings : u.settings = s.settings := (settings_of_beyondDrives h.beyond :)
  rw [heffNow, heffAt_eq, h.account, h.coils, dutyFor, mon, settings]
  rfl

theorem Ready.budget (h : Ready c s u) : budgetInForce u = budgetInForce s := by
  have mon : u.mon = s.mon := (mon_of_beyondDrives h.beyond :)
  have settings : u.settings = s.settings := (settings_of_beyondDrives h.beyond :)
  rw [budgetInForce, mon, settings]
  rfl

theorem Ready.rest (h : Ready c s u) : restOf c u =
    if s.coils[c].recovery = 0 then .idle else .recovering (max s.now s.clocks.cooling + s.coils[c].recovery * 1000) := by
  have now : u.now = max s.now s.clocks.cooling := (now_of_beyondDrives h.beyond :)
  rw [restOf, h.coils, State.after, now]
  rfl

end

theorem tickCooled_beyond (s : State) : (tickCooled s).beyondDrives = (tickStart s).beyondDrives := by
  rw [tickCooled, apart_coolChannel.forChans_beyond, (apart_chargeBefore _).forChans_beyond]

theorem lowered_beyond {n : Nat} (hn : n ≤ 24) (s : State) : (lowered n s).beyondDrives = (tickStart s).beyondDrives := by
  rw [lowered, apart_lowerHold.upTo_beyond _ hn, tickCooled_beyond]

theorem raised_beyond {n : Nat} (hn : n ≤ 24) (s : State) : (raised n s).beyondDrives = (tickStart s).beyondDrives := by
  rw [raised, apart_raiseHold.upTo_beyond _ hn, lowered_beyond (Nat.le_refl 24)]

/-- Before its fall a channel is as the decay left it. -/
theorem before_turns (c : Chan) (s : State) : SameAt c (tickCooled s) (lowered c.val s) := by
  rw [lowered]
  exact apart_lowerHold.before (tickCooled s) c

/-- Between its fall and its rise a channel stays as its fall left it. -/
theorem between_turns (c : Chan) (s : State) : SameAt c (lowered (c.val + 1) s) (raised c.val s) := by
  have fallen : SameAt c (lowered (c.val + 1) s) (lowered 24 s) := by
    rw [lowered, lowered]
    exact apart_lowerHold.after (tickCooled s) c
  rw [raised]
  exact fallen.trans (apart_raiseHold.before (lowered 24 s) c)

/-- After its rise a channel stays as its rise left it. -/
theorem after_turns (c : Chan) (s : State) : SameAt c (raised (c.val + 1) s) (raised 24 s) := by
  rw [raised, raised]
  exact apart_raiseHold.after (lowered 24 s) c

section
variable {s : State} (fits : ∀ c, ChargeFits s.clocks.cooling c s)
include fits

theorem lowered_chan (c : Chan) :
    (lowered c.val s).chans[c] = { s.chans[c] with act := countedBy s.clocks.cooling s.chans[c].act } :=
  (before_turns c s).1.trans (tickCooled_chan fits c)

theorem lowered_ready (c : Chan) : Ready c s (lowered c.val s) where
  beyond := lowered_beyond (Nat.le_of_lt c.isLt) s
  account := (congrArg Heat.q (before_turns c s).2).trans (tickCooled_account fits c)

/-- A fall that is no cutoff leaves the account alone. -/
theorem raised_ready {c : Chan} (h : (lowered (c.val + 1) s).heat = (lowered c.val s).heat) : Ready c s (raised c.val s) where
  beyond := raised_beyond (Nat.le_of_lt c.isLt) s
  account := by rw [(between_turns c s).2, h, (lowered_ready fits c).account]

/-- A channel that is not HOLDING takes no part in the falls and the rises. -/
theorem turns_of_not_holding {c : Chan} (h : s.chans[c].isHolding = false) :
    lowered (c.val + 1) s = lowered c.val s ∧ raised (c.val + 1) s = raised c.val s ∧
      (raised 24 s).chans[c] = { s.chans[c] with act := countedBy s.clocks.cooling s.chans[c].act } ∧
      (raised 24 s).heat[c].q = cooledTo c s := by
  have quiet : (lowered c.val s).chans[c].isHolding = false := by
    rw [lowered_chan fits]
    cases ha : s.chans[c].act with
    | holding d e => rw [Channel.isHolding, ha] at h; cases h
    | _ => rfl
  have low : lowered (c.val + 1) s = lowered c.val s := by rw [lowered_succ, lowerHold_of_not_holding quiet]
  obtain ⟨chan₁, heat₁⟩ := between_turns c s
  obtain ⟨chan₂, heat₂⟩ := after_turns c s
  rw [low] at chan₁ heat₁
  have high : raised (c.val + 1) s = raised c.val s := by
    rw [raised_succ, raiseHold_of_not_holding]
    rwa [chan₁]
  rw [high] at chan₂ heat₂
  refine ⟨low, high, (chan₂.trans chan₁).trans (lowered_chan fits c), ?_⟩
  rw [heat₂, heat₁, (lowered_ready fits c).account]

/-- A fall that is no cutoff, and every rise, leave the account as the decay left it. -/
theorem turns_account {c : Chan} (h0 : 0 < dutyFor s s.coils[c] (cooledTo c s)) : (raised 24 s).heat[c].q = cooledTo c s := by
  have low := lowered_ready fits c
  have ready := raised_ready fits (by rw [lowered_succ, lowerHold_heat (low.duty ▸ h0)])
  rw [(after_turns c s).2, raised_succ, raiseHold_heat, ready.account]

/-! ### The turns of a hold -/

variable {c : Chan} {d : Drive} {e : Nat} (ha : s.chans[c].act = .holding d e)
include ha

theorem lowered_holding : (lowered c.val s).chans[c] = { s.chans[c] with act := .holding (countedAt s.clocks.cooling d) e } := by
  rw [lowered_chan fits, ha]
  rfl

/-- A duty of 0 is a heat cutoff (R35, R36). -/
theorem turns_cut (h0 : dutyFor s s.coils[c] (cooledTo c s) = 0) :
    (raised 24 s).chans[c].act = (if s.coils[c].recovery = 0 then .idle
        else .recovering (max s.now s.clocks.cooling + s.coils[c].recovery * 1000)) ∧
      (raised 24 s).latches.getLsbD 4 = true ∧
      (lowered (c.val + 1) s).inUse = (lowered c.val s).inUse - drawFor s.coils[c] e ∧
      raised (c.val + 1) s = raised c.val s := by
  have low := lowered_ready fits c
  obtain ⟨chan, latch, inUse⟩ := lowerHold_cuts (congrArg Channel.act (lowered_holding fits ha)) (low.duty.trans h0)
  rw [← lowered_succ] at chan latch inUse
  have high : raised (c.val + 1) s = raised c.val s := by
    rw [raised_succ, raiseHold_of_not_holding]
    rw [(between_turns c s).1, chan]
    exact restOf_not_holding _
  refine ⟨?_, (lowered_drains s c.isLt).latches 4 latch, ?_, high⟩
  · rw [(after_turns c s).1, high, (between_turns c s).1, chan, ← low.rest]
  · rw [inUse, low.coils]

/-- A lower duty is taken at once (R35). -/
theorem turns_lowered (h0 : 0 < dutyFor s s.coils[c] (cooledTo c s)) (h : dutyFor s s.coils[c] (cooledTo c s) < e) :
    (raised 24 s).chans[c] = { s.chans[c] with
        act := .holding (countedAt s.clocks.cooling d) (dutyFor s s.coils[c] (cooledTo c s)) } ∧
      (lowered (c.val + 1) s).inUse = (lowered c.val s).inUse - drawFor s.coils[c] e +
        drawFor s.coils[c] (dutyFor s s.coils[c] (cooledTo c s)) ∧
      raised (c.val + 1) s = raised c.val s := by
  have low := lowered_ready fits c
  have holds := lowered_holding fits ha
  have act := congrArg Channel.act holds
  have fall := (lowered_succ c s).trans (lowerHold_lowers act (low.duty ▸ h0) (low.duty ▸ h))
  rw [low.duty] at fall
  have ready := raised_ready fits (c := c) (by rw [fall, State.callPass_heat, setAct_heat])
  have chan : (raised c.val s).chans[c] = { s.chans[c] with
      act := .holding (countedAt s.clocks.cooling d) (dutyFor s s.coils[c] (cooledTo c s)) } := by
    rw [(between_turns c s).1, fall, State.callPass_chans, setAct_chan, holds]
  have high : raised (c.val + 1) s = raised c.val s := by
    rw [raised_succ]
    exact raiseHold_stays (congrArg Channel.act chan) fun rise => absurd (ready.duty ▸ rise) (Nat.lt_irrefl _)
  refine ⟨by rw [(after_turns c s).1, high, chan], ?_, high⟩
  rw [fall, State.callPass_inUse, setAct_holding_inUse act, low.coils]

section
variable (h0 : 0 < dutyFor s s.coils[c] (cooledTo c s)) (h : e ≤ dutyFor s s.coils[c] (cooledTo c s))
include h0 h

theorem lowered_stays : lowered (c.val + 1) s = lowered c.val s := by
  have low := lowered_ready fits c
  rw [lowered_succ]
  exact lowerHold_stays (congrArg Channel.act (lowered_holding fits ha)) (low.duty ▸ h0) (low.duty ▸ h)

theorem raised_holding : (raised c.val s).chans[c] = { s.chans[c] with act := .holding (countedAt s.clocks.cooling d) e } := by
  rw [(between_turns c s).1, lowered_stays fits ha h0 h, lowered_holding fits ha]

theorem raised_ready_of_stays : Ready c s (raised c.val s) := raised_ready fits (by rw [lowered_stays fits ha h0 h])

/-- The same duty, or a higher one that the budget does not allow, changes nothing (R35). -/
theorem turns_kept (hb : e < dutyFor s s.coils[c] (cooledTo c s) → budgetInForce s <
      (raised c.val s).inUse - drawFor s.coils[c] e + drawFor s.coils[c] (dutyFor s s.coils[c] (cooledTo c s))) :
    (raised 24 s).chans[c] = { s.chans[c] with act := .holding (countedAt s.clocks.cooling d) e } ∧
      raised (c.val + 1) s = raised c.val s := by
  have ready := raised_ready_of_stays fits ha h0 h
  have chan := raised_holding fits ha h0 h
  have high : raised (c.val + 1) s = raised c.val s := by
    rw [raised_succ]
    refine raiseHold_stays (congrArg Channel.act chan) ?_
    rwa [ready.duty, ready.budget, ready.coils]
  exact ⟨by rw [(after_turns c s).1, high, chan], high⟩

/-- A higher duty is taken where the budget allows it (R35). -/
theorem turns_raised (hn : e < dutyFor s s.coils[c] (cooledTo c s))
    (hb : (raised c.val s).inUse - drawFor s.coils[c] e + drawFor s.coils[c] (dutyFor s s.coils[c] (cooledTo c s)) ≤
      budgetInForce s) :
    (raised 24 s).chans[c] = { s.chans[c] with
        act := .holding (countedAt s.clocks.cooling d) (dutyFor s s.coils[c] (cooledTo c s)) } ∧
      (raised (c.val + 1) s).inUse = (raised c.val s).inUse - drawFor s.coils[c] e +
        drawFor s.coils[c] (dutyFor s s.coils[c] (cooledTo c s)) := by
  have ready := raised_ready_of_stays fits ha h0 h
  have chan := raised_holding fits ha h0 h
  have act := congrArg Channel.act chan
  have rise := (raised_succ c s).trans (raiseHold_raises act (ready.duty ▸ hn) (by rwa [ready.duty, ready.budget, ready.coils]))
  rw [ready.duty] at rise
  refine ⟨?_, ?_⟩
  · rw [(after_turns c s).1, rise, setAct_chan, chan]
  · rw [rise, setAct_holding_inUse act, ready.coils]

end

end

/-! ### The figures of the statement -/

theorem chargedBy_q {s : State} {c : Chan} (fits : ChargeFits s.clocks.cooling c s) :
    (chargedBy s.clocks.cooling s.coils[c] s.heat[c] s.chans[c].act).q =
      if s.coils[c].l = 0 then s.heat[c].q
      else match s.chans[c].act with
        | .kicking d _ _ => if d.nextMs = s.clocks.cooling then min s.coils[c].l (s.heat[c].q + s.coils[c].ck) else s.heat[c].q
        | .holding d e => if d.nextMs = s.clocks.cooling then holdSum s.coils[c] s.heat[c] e else s.heat[c].q
        | _ => s.heat[c].q := by
  cases ha : s.chans[c].act with
  | kicking d n ends =>
    simp only [chargedBy, kickCharged]
    repeat' split
    all_goals rfl
  | holding d e =>
    simp only [chargedBy, holdCharged]
    by_cases hl : s.coils[c].l = 0
    · simp only [if_pos hl, ite_self]
    · by_cases hd : d.nextMs = s.clocks.cooling
      · have fit := (fits d e ha hd).resolve_left hl
        simp only [if_neg hl, if_pos hd, Nat.min_eq_right fit]
      · simp only [if_neg hl, if_neg hd]
  | _ => exact (ite_self _).symm

/-- Settles O53: the tick's three stages, each taken channel by channel. -/
theorem coolingTicksDecayAndDerate : Obligations.CoolingTicksDecayAndDerate := by
  unfold Obligations.CoolingTicksDecayAndDerate
  refine ⟨fun s hd hcalm hp => ?_, ?_⟩
  · refine ⟨_, coolingTick_calm hcalm, ?_, fun c => ?_⟩
    · obtain ⟨x, same⟩ := coolChannels_heatOnly (tickStart s)
      rw [raised_of_not_driven hd, same]
      simp only [tickStart, State.reach, State.setClocks, hp]
      rfl
    · rw [raised_of_not_driven hd]
      exact coolChannels_heat c (tickStart s)
  intro s hcalm ending sum charged cooled counted duty hfit
  have fits : ∀ c, ChargeFits s.clocks.cooling c s := fun c d e ha hd => hfit c d e ha (decide_eq_true hd)
  have counts : ∀ d, counted d = countedAt s.clocks.cooling d := fun d => by
    simp only [counted, ending, decide_eq_true_eq, countedAt]
    rfl
  have accounts : ∀ c, cooled c = cooledTo c s := fun c => by
    have charge : charged c = _ := Eq.trans (by simp only [charged, ending, decide_eq_true_eq]; rfl) (chargedBy_q (fits c)).symm
    simp only [cooled, charge]
    rfl
  have duties : ∀ c, duty c = dutyFor s s.coils[c] (cooledTo c s) := fun c => by simp only [duty, accounts]
  refine ⟨_, fun n => (lowered n s).inUse, fun n => (raised n s).inUse, coolingTick_calm hcalm, fun c hc => ?_,
    fun c d g ends ha => ?_, ?_, congrArg State.inUse (raised_zero s), rfl, fun c hc => ?_, fun c d heff ha => ?_⟩
  · obtain ⟨-, -, chan, account⟩ := turns_of_not_holding fits (not_holding_of_not_driven hc)
    exact ⟨chan.trans (chan_eta (countedBy_of_not_driven _ hc)), account.trans (accounts c).symm⟩
  · obtain ⟨-, -, chan, account⟩ := turns_of_not_holding fits (not_holding_of_kicking ha)
    rw [ha, countedBy, ← counts] at chan
    exact ⟨chan, account.trans (accounts c).symm⟩
  · exact (congrArg State.inUse (lowered_zero s)).trans (tickCooled_inUse fits)
  · obtain ⟨low, high, -⟩ := turns_of_not_holding fits hc
    exact ⟨congrArg State.inUse low, congrArg State.inUse high⟩
  · intro k holds risen
    simp only [holds, risen, k, counts, accounts, duties]
    refine ⟨turns_account fits, fun h0 => ?_, fun h0 h => ?_, fun h h0 => ?_, fun h => ?_⟩
    · obtain ⟨rest, latch, low, high⟩ := turns_cut fits ha h0
      exact ⟨rest, latch, low, congrArg State.inUse high⟩
    · obtain ⟨chan, low, high⟩ := turns_lowered fits ha h0 h
      exact ⟨chan, low, congrArg State.inUse high⟩
    · have pos := h ▸ h0
      have low := lowered_stays fits ha pos (Nat.le_of_eq h.symm)
      obtain ⟨chan, high⟩ := turns_kept fits ha pos (Nat.le_of_eq h.symm) fun hn => absurd h (Nat.ne_of_gt hn)
      exact ⟨chan, congrArg State.inUse low, congrArg State.inUse high⟩
    · have pos := Nat.zero_lt_of_lt h
      have low := lowered_stays fits ha pos (Nat.le_of_lt h)
      refine ⟨congrArg State.inUse low, fun hb => turns_raised fits ha pos (Nat.le_of_lt h) h hb, fun hb => ?_⟩
      obtain ⟨chan, high⟩ := turns_kept fits ha pos (Nat.le_of_lt h) fun _ => hb
      exact ⟨chan, congrArg State.inUse high⟩

end Sys2Proof.Machine
end

section
/-! SUPPORT. The budget in use is the sum of the draws (R51): what each piece of work on a channel makes of the draws. -/

namespace Sys2Proof.Machine

set_option Elab.async false

/-! ### The sum of the draws -/

/-- The budget units a channel draws (R51). -/
def State.drawOf (s : State) (c : Chan) : Nat := actDraw s.coils[c] s.chans[c].act

theorem budgetIsDraws_iff {s : State} : BudgetIsDraws s ↔ s.inUse = ∑ c, s.drawOf c := by
  rw [BudgetIsDraws, Fin.sum_univ_def]
  rfl

/-- A sum that changes in one term changes by the difference of the terms. -/
theorem sum_of_changed_at {f g : Chan → Nat} (c : Chan) (h : ∀ c', c' ≠ c → g c' = f c') : ∑ x, g x = ∑ x, f x - f c + g c := by
  have rest : ∑ x ∈ Finset.univ.erase c, g x = ∑ x ∈ Finset.univ.erase c, f x :=
    Finset.sum_congr rfl fun x hx => h x (Finset.ne_of_mem_erase hx)
  have before := Finset.add_sum_erase Finset.univ f (Finset.mem_univ c)
  have now := Finset.add_sum_erase Finset.univ g (Finset.mem_univ c)
  omega

section
variable {c : Chan} {s t : State}

/-- Where no channel draws anything else and the budget in use is as it was, the two still agree. -/
theorem BudgetIsDraws.of_draws (h : BudgetIsDraws s) (hu : t.inUse = s.inUse) (hd : ∀ c, t.drawOf c = s.drawOf c) :
    BudgetIsDraws t := by
  rw [budgetIsDraws_iff] at h ⊢
  rw [hu, h]
  exact Finset.sum_congr rfl fun c _ => (hd c).symm

theorem BudgetIsDraws.same (h : BudgetIsDraws s) (hc : t.coils = s.coils) (hx : t.chans = s.chans) (hu : t.inUse = s.inUse) :
    BudgetIsDraws t :=
  h.of_draws hu fun c => by rw [State.drawOf, hc, hx]; rfl

theorem BudgetIsDraws.drives (h : BudgetIsDraws s) (e : t.drives = s.drives) : BudgetIsDraws t :=
  h.same (congrArg Prod.fst e :) (congrArg (fun x => x.2.1) e :) (congrArg (fun x => x.2.2.2.2) e :)

theorem BudgetIsDraws.trains (h : BudgetIsDraws s) (e : t.beyondTrains = s.beyondTrains) : BudgetIsDraws t :=
  h.drives (drives_of_beyondTrains e)

theorem BudgetIsDraws.setLatch (h : BudgetIsDraws s) (x : Latch) : BudgetIsDraws (setLatch x s) := h.same rfl rfl rfl
theorem BudgetIsDraws.callPass (h : BudgetIsDraws s) : BudgetIsDraws s.callPass := h.same rfl rfl rfl
theorem BudgetIsDraws.setGuard (h : BudgetIsDraws s) (g : Guard) : BudgetIsDraws (s.setGuard c g) := h.same rfl rfl rfl
theorem BudgetIsDraws.setHeat (h : BudgetIsDraws s) (x : Heat) : BudgetIsDraws (s.setHeat c x) := h.same rfl rfl rfl
theorem BudgetIsDraws.withdraw (h : BudgetIsDraws s) (p : Entry → Bool) : BudgetIsDraws (withdraw p s) := h.trains (by simp)

/-- A channel's new figures draw what its old ones drew. -/
theorem BudgetIsDraws.setChan (h : BudgetIsDraws s) {x : Channel} (hx : actDraw s.coils[c] x.act = s.drawOf c) :
    BudgetIsDraws (s.setChan c x) := by
  refine h.of_draws rfl fun c' => ?_
  rw [State.drawOf, State.setChan_chans]
  by_cases e : c' = c
  · subst e
    rwa [getElem_set_same]
  · rw [getElem_set_other _ _ e]
    rfl

theorem BudgetIsDraws.setWaiting (h : BudgetIsDraws s) (x : Option FlipContext) : BudgetIsDraws (setWaiting c x s) := h.setChan rfl

/-- A change of a channel's state changes the sum and the budget in use by the difference of its draws (R51). -/
theorem BudgetIsDraws.setAct (h : BudgetIsDraws s) (x : Activity) : BudgetIsDraws (setAct c x s) := by
  have coils := (kept_setAct c x s).coils
  have here : (Machine.setAct c x s).drawOf c = actDraw s.coils[c] x := by
    rw [State.drawOf, coils, setAct_chans, getElem_set_same]
  have others : ∀ c', c' ≠ c → (Machine.setAct c x s).drawOf c' = s.drawOf c' := fun c' e => by
    rw [State.drawOf, coils, setAct_chans, getElem_set_other _ _ e]
    rfl
  rw [budgetIsDraws_iff] at h ⊢
  rw [setAct_inUse, sum_of_changed_at c others, here, h]
  rfl

/-- A new record of a channel that draws nothing, whatever the record. -/
theorem BudgetIsDraws.setCoil (h : BudgetIsDraws s) {k : Coil} (rest : s.chans[c].atRest = true) (hc : t.coils = s.coils.set c k)
    (hx : ∀ c' : Chan, t.chans[c'].act = s.chans[c'].act) (hu : t.inUse = s.inUse) : BudgetIsDraws t := by
  refine h.of_draws hu fun c' => ?_
  rw [State.drawOf, hc, hx]
  by_cases e : c' = c
  · subst e
    rcases atRest_iff.mp rest with idle | locked
    · simp only [State.drawOf, idle, actDraw]
    · simp only [State.drawOf, locked, actDraw]
  · rw [getElem_set_other _ _ e]
    rfl

/-! ### Drives and locks -/

theorem BudgetIsDraws.finalCharge (h : BudgetIsDraws s) : BudgetIsDraws (finalCharge c s) := h.same (by simp) (by simp) (by simp)

theorem BudgetIsDraws.becomeIdle (h : BudgetIsDraws s) : BudgetIsDraws (becomeIdle c s) := (h.setAct .idle).callPass

theorem BudgetIsDraws.enterRecovery (h : BudgetIsDraws s) : BudgetIsDraws (enterRecovery c s) := by
  simp only [Machine.enterRecovery]; split
  · exact h.becomeIdle
  · exact h.setAct _

theorem BudgetIsDraws.enterHold (h : BudgetIsDraws s) (d : Drive) (x : FlipContext) (n : Nat) (l : Option Nat) (e : Nat) :
    BudgetIsDraws (enterHold c d x n l e s) := (h.setHeat _).setAct _

theorem BudgetIsDraws.endHold (h : BudgetIsDraws s) : BudgetIsDraws (endHold c s) := by
  simp only [Machine.endHold]; split
  · exact h.finalCharge.enterRecovery.callPass.withdraw _
  · exact h

theorem BudgetIsDraws.afterKick (h : BudgetIsDraws s) (done : Bool) (d : Drive) : BudgetIsDraws (afterKick c done d s) := by
  simp only [Machine.afterKick, holdAfterKick]
  repeat' split
  · exact (h.setLatch _).enterRecovery
  · exact h.enterHold _ _ _ _ _
  · exact h.enterRecovery
  · exact h.enterRecovery

theorem BudgetIsDraws.cutAndLock (h : BudgetIsDraws s) : BudgetIsDraws (cutAndLock c s) := by
  simp only [Machine.cutAndLock]; split
  · exact (h.finalCharge.setAct _).callPass
  · exact h.finalCharge.setAct _

theorem BudgetIsDraws.lockChannel (h : BudgetIsDraws s) (cause : LockCause) : BudgetIsDraws (lockChannel c cause s) := by
  cases hl : s.chans[c].isLocked
  · have withdrawn : BudgetIsDraws (withdrawAll c (reportKick c false s.chans[c].isStepping (Machine.cutAndLock c s))) :=
      ((h.cutAndLock.trains (beyondTrains_reportKick _ _ _ _)).withdraw _).setWaiting none
    rw [lockChannel_of_free cause hl]
    exact (((withdrawn.trains (beyondTrains_cancelOf _ _)).trains (beyondTrains_unitsLocked _ c)).setLatch _).setGuard _
  · rwa [lockChannel_of_locked cause hl]

theorem BudgetIsDraws.settleVerdict (h : BudgetIsDraws s) : BudgetIsDraws (settleVerdict c s) := by
  simp only [Machine.settleVerdict]
  repeat' split
  · exact h.setGuard _
  · exact h
  · exact h.setGuard _
  · exact (h.setGuard _).lockChannel _
  · exact (h.setGuard _).setLatch _
  · exact h.setGuard _

theorem BudgetIsDraws.endKick (h : BudgetIsDraws s) (done : Bool) : BudgetIsDraws (endKick c done s) := by
  cases ha : s.chans[c].act with
  | kicking d n ends =>
    rw [endKick_of_kicking done ha]
    exact ((h.finalCharge.callPass.afterKick done d).trains (beyondTrains_reportKick _ _ _ _)).settleVerdict.trains
      (beyondTrains_testAfterKick _ _ _)
  | _ => rwa [endKick_of_not_kicking done (by simp only [Channel.isKicking, ha])]

/-! ### The accrual of heat and the cooling tick -/

theorem BudgetIsDraws.accrueKick (h : BudgetIsDraws s) : BudgetIsDraws (accrueKick c s) :=
  have same := beyondHeat_accrueKick c s
  h.same (congrArg State.coils same :) (congrArg State.chans same :) (congrArg State.inUse same :)

theorem BudgetIsDraws.accrueHold (h : BudgetIsDraws s) (e : Nat) : BudgetIsDraws (accrueHold c e s) :=
  have same := beyondHeat_accrueHold c s e
  h.same (congrArg State.coils same :) (congrArg State.chans same :) (congrArg State.inUse same :)

/-- A charged millisecond leaves the kick a kick. -/
theorem BudgetIsDraws.kickMs (h : BudgetIsDraws s) : BudgetIsDraws (kickMs c s) := by
  simp only [Machine.kickMs]; split
  · rename_i d k ends kicking
    refine h.accrueKick.setChan ?_
    have chans : (Machine.accrueKick c s).chans = s.chans := (congrArg State.chans (beyondHeat_accrueKick c s) :)
    simp only [State.drawOf, chans, kicking, actDraw]
  · exact h

/-- A charged millisecond leaves the hold at its duty. -/
theorem BudgetIsDraws.holdMs (h : BudgetIsDraws s) : BudgetIsDraws (holdMs c s) := by
  simp only [Machine.holdMs]; split
  · rename_i d e holding
    have charged : BudgetIsDraws ((Machine.accrueHold c e s).setChan c { (Machine.accrueHold c e s).chans[c] with
        act := .holding { d with charged := d.charged + 1 } e }) := by
      refine (h.accrueHold e).setChan ?_
      have chans : (Machine.accrueHold c e s).chans = s.chans := (congrArg State.chans (beyondHeat_accrueHold c s e) :)
      simp only [State.drawOf, chans, holding, actDraw]
    split
    · exact (charged.setLatch _).endHold
    · exact charged
  · exact h

theorem BudgetIsDraws.lowerHold (h : BudgetIsDraws s) : BudgetIsDraws (lowerHold c s) := by
  simp only [Machine.lowerHold]
  repeat' split
  · exact (h.setLatch _).endHold
  · exact (h.setAct _).callPass
  · exact h
  · exact h

theorem BudgetIsDraws.raiseHold (h : BudgetIsDraws s) : BudgetIsDraws (raiseHold c s) := by
  simp only [Machine.raiseHold]
  repeat' split
  · exact h.setAct _
  · exact h
  · exact h

/-! ### Grants -/

theorem BudgetIsDraws.beginKick (h : BudgetIsDraws s) (kind : DriveKind) (e : Entry) (n : Nat) :
    BudgetIsDraws (beginKick c kind e n s) := (h.setAct _).setGuard _

theorem BudgetIsDraws.grantKick (h : BudgetIsDraws s) (e : Entry) (n : Nat) : BudgetIsDraws (grantKick e n s) := by
  simp only [Machine.grantKick]
  repeat' split
  · exact (h.setWaiting none).beginKick _ _ _
  · exact h
  · exact h.finalCharge.beginKick _ _ _
  · exact h
  · exact h.beginKick _ _ _
  · exact (h.beginKick .stepPulse e n).trains (beyondTrains_trainGranted _ _)
  · exact h.beginKick _ _ _

theorem BudgetIsDraws.grantHold (h : BudgetIsDraws s) (e : Entry) (n : Nat) (b : Bool) : BudgetIsDraws (grantHold e n b s) := by
  simp only [Machine.grantHold]; split
  · exact ((h.setWaiting none).enterHold _ _ _ _ _).trains (beyondTrains_setLatchIf _ _ _)
  · exact h

theorem BudgetIsDraws.removeAtPass (h : BudgetIsDraws s) (e : Entry) (x y : Bool) : BudgetIsDraws (removeAtPass e x y s) := by
  have marked : BudgetIsDraws (setLatchIf y .heatCutoff (setLatchIf x .eosStuck s)) := h.trains (by simp)
  simp only [Machine.removeAtPass]; split
  · exact marked.setWaiting none
  · exact marked

end

/-! ### The invariant -/

theorem budgetIsDraws_reset : BudgetIsDraws State.reset := by
  rw [budgetIsDraws_iff]
  refine (Finset.sum_eq_zero fun c _ => ?_).symm
  simp only [State.drawOf, State.reset, Fin.getElem_fin, Vector.getElem_replicate, actDraw]

/-- Every piece of work on a channel keeps the budget in use equal to the sum of the draws: it changes a channel's state by `setAct`, which charges
the difference, or leaves the kick a kick and the hold at its duty; and a record is loaded where the channel draws nothing (R2, R51). -/
theorem keptByDrives_budgetIsDraws : KeptByDrives BudgetIsDraws where
  removed e x y s h _ _ := h.removeAtPass e x y
  kick e n _ _ s h _ _ _ _ := h.grantKick e n
  hold e n _ _ x s h _ _ _ _ := h.grantHold e n x
  same h e := h.drives e
  reset := budgetIsDraws_reset
  waiting _ x _ h := h.setWaiting x
  endKick _ done _ h := h.endKick done
  endHold _ _ h := h.endHold
  lock _ cause _ h := h.lockChannel cause
  unlock c s h := by
    simp only [unlockChannel]; split
    · exact (h.setGuard _).becomeIdle
    · exact h
  recover _ _ _ _ h := h.becomeIdle
  kickMs _ _ h := h.kickMs
  holdMs _ _ h := h.holdMs
  cool _ _ h := h.setHeat _
  lower _ _ h := h.lowerHold
  raise _ _ h := h.raiseHold
  openTest c v s h := by
    simp only [openTest]
    split
    · exact KeptByDrives.ite _ h (KeptByDrives.ite _ (h.setGuard _) (h.setGuard _))
    · exact h
  shortTest c v s h := by
    simp only [shortTest]; split
    · exact (h.setGuard _).lockChannel _
    · exact h.setGuard _
  leakRun _ _ _ h := h.setGuard _
  load c k s rest h := by
    have withdrawn : BudgetIsDraws (withdrawAll c s) := (h.withdraw _).setWaiting none
    have still : (withdrawAll c s).chans[c].atRest = true := by
      rw [withdrawAll_chans, getElem_set_same]
      exact rest
    rw [takeCoil_eq]
    exact withdrawn.setCoil still (congrArg (·.set c k) (kept_withdrawAll c s).coils.symm) (fun _ => rfl) rfl

/-- Settles O8: the walk over the commands, for the invariant that every piece of work on a channel keeps. -/
theorem stepsKeepTheBudgetInUse : Obligations.StepsKeepTheBudgetInUse := by
  unfold Obligations.StepsKeepTheBudgetInUse
  exact fun _ _ => keptByDrives_budgetIsDraws.step

end Sys2Proof.Machine
end

section
/-! SUPPORT. Where a request joins the Admission Queue, whose place it takes at a full one, and what it finds there (R41 to R43). -/

namespace Sys2Proof.Machine

set_option Elab.async false

/-! ### Joining -/

/-- `q'` is `q` with `e` behind every entry of its class and of the classes before it, and before all others (R41). -/
def JoinsAt (e : Entry) (q q' : List Entry) : Prop :=
  ∃ q₁ q₂, q = q₁ ++ q₂ ∧ q' = q₁ ++ e :: q₂ ∧
    (∀ x ∈ q₁, clsCode x.cls ≤ clsCode e.cls) ∧ ∀ x ∈ q₂, clsCode e.cls < clsCode x.cls

/-- In an ordered queue every entry behind the first of a later class is of a later class. -/
theorem later_of_mem_dropWhile {n : Nat} {q : List Entry} (h : q.Pairwise fun x y => clsCode x.cls ≤ clsCode y.cls) :
    ∀ x ∈ q.dropWhile (fun x => clsCode x.cls ≤ n), n < clsCode x.cls := by
  induction q with
  | nil => exact fun _ hx => nomatch hx
  | cons y q ih =>
    obtain ⟨first, rest⟩ := List.pairwise_cons.mp h
    intro x hx
    by_cases hy : clsCode y.cls ≤ n
    · rw [List.dropWhile_cons_of_pos (by simpa using hy)] at hx
      exact ih rest x hx
    · rw [List.dropWhile_cons_of_neg (by simpa using hy)] at hx
      rcases List.mem_cons.mp hx with rfl | hx
      · exact Nat.lt_of_not_le hy
      · exact Nat.lt_of_lt_of_le (Nat.lt_of_not_le hy) (first x hx)

theorem joinsAt_insertEntry (e : Entry) {q : List Entry} (h : q.Pairwise fun x y => clsCode x.cls ≤ clsCode y.cls) :
    JoinsAt e q (insertEntry e q) :=
  ⟨_, _, List.takeWhile_append_dropWhile.symm, rfl, fun _ hx => by simpa using List.mem_takeWhile_imp hx,
    later_of_mem_dropWhile h⟩

/-! ### Eviction -/

/-- The youngest entry of a class stands last in it, and is the one that leaves (R43). -/
theorem dropYoungest_split {k : Cls} {q : List Entry} (h : ∃ x ∈ q, x.cls = k) :
    ∃ q₁ y q₂, q = q₁ ++ y :: q₂ ∧ y.cls = k ∧ (∀ x ∈ q₂, x.cls ≠ k) ∧ dropYoungest k q = q₁ ++ q₂ := by
  obtain ⟨x, hx, hk⟩ := h
  obtain ⟨y, a, b, ha, hy, hq, he⟩ := List.exists_of_eraseP (p := fun x : Entry => x.cls == k) (List.mem_reverse.mpr hx)
    (beq_iff_eq.mpr hk)
  refine ⟨b.reverse, y, a.reverse, ?_, beq_iff_eq.mp hy, fun z hz => ?_, ?_⟩
  · rw [← List.reverse_reverse q, hq]
    simp
  · simpa using ha z (List.mem_reverse.mp hz)
  · rw [dropYoungest, he, List.reverse_append]

theorem any_cls_iff {k : Cls} {q : List Entry} : q.any (·.cls == k) = true ↔ ∃ x ∈ q, x.cls = k := by
  simp only [List.any_eq_true, beq_iff_eq]

theorem evictedClass_eq_some {n k : Cls} {q : List Entry}
    (h : (k = .order ∧ n ≠ .order) ∨ (k = .rule ∧ n = .flip ∧ ∀ x ∈ q, x.cls ≠ .order)) (hk : ∃ x ∈ q, x.cls = k) :
    evictedClass n q = some k := by
  simp only [evictedClass, any_cls_iff]
  rcases h with ⟨rfl, hn⟩ | ⟨rfl, rfl, ho⟩
  · rw [if_pos ⟨hn, hk⟩]
  · rw [if_neg fun ⟨_, x, hx, hc⟩ => ho x hx hc, if_pos ⟨rfl, hk⟩]

theorem evictedClass_eq_none {n : Cls} {q : List Entry} (ho : n = .order ∨ ∀ x ∈ q, x.cls ≠ .order)
    (hr : n ≠ .flip ∨ ∀ x ∈ q, x.cls ≠ .rule) : evictedClass n q = none := by
  simp only [evictedClass, any_cls_iff]
  rw [if_neg fun ⟨hn, x, hx, hc⟩ => ho.elim hn fun h => h x hx hc, if_neg fun ⟨hn, x, hx, hc⟩ => hr.elim (· hn) fun h => h x hx hc]

/-- A class that is evicted from is present (R43). -/
theorem mem_of_evictedClass {n k : Cls} {q : List Entry} (h : evictedClass n q = some k) : ∃ x ∈ q, x.cls = k := by
  simp only [evictedClass, any_cls_iff] at h
  split at h
  · rename_i orders
    cases h
    exact orders.2
  · split at h
    · rename_i rules
      cases h
      exact rules.2
    · cases h

/-! ### The answers to a request -/

theorem matches_iff {x e : Entry} : x.matches e = true ↔ x.channel = e.channel ∧ x.cls = e.cls := by
  rw [Entry.matches, Bool.and_eq_true, beq_iff_eq, beq_iff_eq]

/-- The queue holds an entry of the request's channel and class. -/
theorem any_matches_iff {e : Entry} {q : List Entry} :
    q.any (·.matches e) = true ↔ ∃ x ∈ q, x.channel = e.channel ∧ x.cls = e.cls := by
  simp only [List.any_eq_true, matches_iff]

section
variable {e : Entry} {s : State}

theorem submit_merged (h : ∃ x ∈ s.queue, x.channel = e.channel ∧ x.cls = e.cls) :
    submit e s = (.merged, { s with
      queue := s.queue.map fun x =>
        if x.channel = e.channel ∧ x.cls = e.cls then { x with merged := min 15 (x.merged + 1) } else x }) := by
  rw [submit, if_pos (any_matches_iff.mpr h)]
  simp only [matches_iff]
  rfl

theorem submit_joined (h : ¬ ∃ x ∈ s.queue, x.channel = e.channel ∧ x.cls = e.cls) (hp : s.queue.length < 16) :
    submit e s = (.joined, { s with queue := insertEntry e s.queue, passDue := true }) := by
  have place : s.queue.length < Config.queueSize := hp
  rw [submit, if_neg (mt any_matches_iff.mp h), if_pos place]
  rfl

theorem submit_evicting {k : Cls} (h : ¬ ∃ x ∈ s.queue, x.channel = e.channel ∧ x.cls = e.cls) (hf : 16 ≤ s.queue.length)
    (hk : evictedClass e.cls s.queue = some k) :
    submit e s = (.joined, { s with
      queue := insertEntry e (dropYoungest k s.queue), passDue := true, dropped := min 255 (s.dropped + 1),
      latches := s.latches ||| 4 }) := by
  have full : ¬ s.queue.length < Config.queueSize := Nat.not_lt.mpr hf
  rw [submit, if_neg (mt any_matches_iff.mp h), if_neg full, hk]
  rfl

theorem submit_full (h : ¬ ∃ x ∈ s.queue, x.channel = e.channel ∧ x.cls = e.cls) (hf : 16 ≤ s.queue.length)
    (hk : evictedClass e.cls s.queue = none) : submit e s = (.full, s) := by
  have full : ¬ s.queue.length < Config.queueSize := Nat.not_lt.mpr hf
  rw [submit, if_neg (mt any_matches_iff.mp h), if_neg full, hk]

end

end Sys2Proof.Machine
end

section
/-! SUPPORT. Requests that merge, join, evict, are dropped or held (R41 to R46, R49). -/

namespace Sys2Proof.Machine

set_option Elab.async false

section
variable {s : State}

/-! ### Requests made for a Pulse, a Flip and a re-kick -/

section
variable {c : Chan} {cls : Cls} {who : Source} {p : Bool} {k : Nat}

theorem submitPulse_merged (h : ∃ x ∈ s.queue, x.channel = c ∧ x.cls = cls) :
    submitPulse c cls who p k s = { s with
      queue := s.queue.map fun x =>
        if x.channel = c ∧ x.cls = cls then { x with merged := min 15 (x.merged + 1) } else x } := by
  rw [submitPulse, submit_merged h]
  rfl

theorem submitPulse_full (h : ¬ ∃ x ∈ s.queue, x.channel = c ∧ x.cls = cls) (hf : 16 ≤ s.queue.length)
    (hk : evictedClass cls s.queue = none) : submitPulse c cls who p k s = countDropped s := by
  rw [submitPulse, submit_full h hf hk]

theorem submitFlip_full (x : FlipContext) (h : ¬ ∃ x ∈ s.queue, x.channel = c ∧ x.cls = .flip) (hf : 16 ≤ s.queue.length)
    (hk : evictedClass .flip s.queue = none) : submitFlip c x s = countDropped s := by
  rw [submitFlip, submit_full h hf hk]

theorem submitRekick_full (x : FlipContext) (h : ¬ ∃ x ∈ s.queue, x.channel = c ∧ x.cls = .flip) (hf : 16 ≤ s.queue.length)
    (hk : evictedClass .flip s.queue = none) : submitRekick c x s = countDropped s := by
  rw [submitRekick, submit_full h hf hk]

end

/-- A Pulse order that passes its checks and whose request calls for no pass ends there. -/
theorem execPulse_of_not_due {f : Head} {ch k : Byte} {c : Chan} {t : State} (hf : Heard f s) (hl : s.node.st = .live)
    (hc : ch.toNat = c.val) (hr : driveRefusal s c = none)
    (ht : submitPulse c .order (.order f.tag) false k.toNat (heard (encodeFrame (.pulse f ch k)) s) = t)
    (hp : t.passDue = false) : exec (.pulse f ch k) s = .next t := by
  rw [execPulse_live hf hl hc, hr]
  exact congrArg _ ((congrArg arbitrate ht).trans (arbitrate_of_not_due hp))

/-! ### Requests made for a train -/

/-- A full queue without an ORDER entry, and without the train's own, has no place for a train's request: the train is held (R43, R45). -/
theorem enterWait_held {t : TrainNo} {x : Train} (hf : 16 ≤ s.queue.length)
    (hq : ∀ e ∈ s.queue, e.cls ≠ .order ∧ ¬ (e.channel = x.channel ∧ e.cls = .step)) :
    enterWait t x s = { s with
      trains := s.trains.set t (some { x with state := .wait, held := true }), held := s.held ++ [t] } := by
  let waiting : Train := { x with state := .wait }
  let s' := s.setTrain t (some waiting)
  have context : s'.trains[t] = some waiting := getElem_set_same _ _ _
  have answer : submit (stepEntry s' t waiting) s' = (.full, s') :=
    submit_full (fun ⟨e, he, hm⟩ => (hq e he).2 hm) hf
      (evictedClass_eq_none (.inr fun e he => (hq e he).1) (.inl (by decide : Cls.step ≠ .flip)))
  have again : s'.trains.set t (some { waiting with held := true }) = s.trains.set t (some { waiting with held := true }) :=
    Vector.set_set _ _
  change offer t s' = _
  simp only [offer, context, answer]
  rw [State.setTrain, State.setHeld, again]
  rfl

theorem runOn_started {tag : Byte} {c : Chan} {n : Nat} {p : Profile} {t : TrainNo} (hn : trainOn s c = none)
    (ht : firstFree s = some t) :
    runOn tag c n p s = enterWait t { state := .wait, owner := .bare, channel := c, planned := n, profile := p } s := by
  simp only [runOn, hn, ht]

/-- A Run order that is heard and passes its checks starts a bare train where its channel has none (R103). -/
theorem execRun_started {f : Head} {ch n : Byte} {si fi : Half} {d k : Byte} {c : Chan} {t : TrainNo} (hf : Heard f s)
    (hl : s.node.st = .live) (hc : ch.toNat = c.val) (hr : driveRefusal s c = none) (hn : trainOn s c = none)
    (ht : firstFree s = some t) :
    exec (.run f ch n si fi d k) s = .next (arbitrate (enterWait t
      { state := .wait, owner := .bare, channel := c, planned := max 1 n.toNat, profile := profileOf si fi d k }
      (heard (encodeFrame (.run f ch n si fi d k)) s))) := by
  have live : (heard (encodeFrame (.run f ch n si fi d k)) s).node.st = .live := hl
  have refusal : driveRefusal (heard (encodeFrame (.run f ch n si fi d k)) s) c = none := hr
  change Host.Outcome.next (orderFrame (.run f ch n si fi d k) f (obeyRun f.tag ch n si fi d k) s) = _
  rw [orderFrame_heard hf, obeyRun, inLive, if_pos live, withRef_of_val hc, refusal, clamp_byte]
  exact congrArg (fun a => Host.Outcome.next (arbitrate a)) (runOn_started hn ht)

/-- The last class is the only one behind STEP (R41). -/
theorem eq_order_of_step_lt {k : Cls} (h : clsCode .step < clsCode k) : k = .order := by
  cases k with
  | order => rfl
  | flip | rule | step => exact absurd h (by decide)

/-! ### A free place goes to a held train -/

theorem handOver_full {k : TrainNo} (hh : s.held = [k]) (hf : 16 ≤ s.queue.length) : handOver s = s := by
  have full : ¬ s.queue.length < Config.queueSize := Nat.not_lt.mpr hf
  rw [handOver, hh, handPlaces, if_neg full, State.setHeld, ← hh]

/-- The one held train joins where a place is free (R46). -/
theorem handOver_joined {k : TrainNo} {x : Train} (hh : s.held = [k]) (hx : s.trains[k] = some x) (hp : s.queue.length < 16)
    (hq : ∀ e ∈ s.queue, ¬ (e.channel = x.channel ∧ e.cls = .step)) :
    handOver s = { s with
      held := [], passDue := true, trains := s.trains.set k (some { x with held := false })
      queue := insertEntry (stepEntry s k x) s.queue } := by
  have place : s.queue.length < Config.queueSize := hp
  have joined := submit_joined (e := stepEntry s k x) (s := s.setTrain k (some { x with held := false }))
    (fun ⟨e, he, hm⟩ => hq e he hm) hp
  rw [handOver, hh, handPlaces, if_pos place, handPlaces, joinHeld, hx]
  exact congrArg (fun a => State.setHeld [] a.2) joined

end

/-- Settles O47: the answers of the Drive Scheduler to a request, and what a Pulse, a Flip, a Run and a held train make of them. -/
theorem requestsJoinMergeEvictOrDrop : Obligations.RequestsJoinMergeEvictOrDrop := by
  unfold Obligations.RequestsJoinMergeEvictOrDrop
  refine ⟨?answers, ?pulse, ?flip, ?run, ?held⟩
  case answers =>
    rintro e s ⟨-, ordered, -⟩ same joined
    refine ⟨submit_merged, fun hs hp => ⟨_, joinsAt_insertEntry e ordered, submit_joined hs hp⟩, ?_,
      fun hs hf ho hr => submit_full hs (Nat.le_of_eq hf.symm) (evictedClass_eq_none ho hr)⟩
    intro k hs hf hk present
    obtain ⟨q₁, y, q₂, hq, hy, after, dropped⟩ := dropYoungest_split present
    have rest : (q₁ ++ q₂).Pairwise fun x y => clsCode x.cls ≤ clsCode y.cls :=
      (hq ▸ ordered).sublist ((List.sublist_cons_self y q₂).append_left q₁)
    refine ⟨q₁, y, q₂, _, hq, hy, after, joinsAt_insertEntry e rest, ?_⟩
    rw [submit_evicting hs (Nat.le_of_eq hf.symm) (evictedClass_eq_some hk present), dropped]
  case pulse =>
    intro f ch k c s hf hl hc hcl he ha h
    have free := driveRefusal_none hcl he (isLocked_eq_false_iff.mp ha)
    obtain ⟨-, -, -, -, due⟩ := id hf
    refine ⟨fun same => ?_, fun other full => ?_⟩
    · exact execPulse_of_not_due hf hl hc free (submitPulse_merged (s := h) same) due
    · exact execPulse_of_not_due hf hl hc free (submitPulse_full (s := h) (fun ⟨x, hx, hm⟩ => other x hx hm)
        (Nat.le_of_eq full.symm) (evictedClass_eq_none (.inl rfl) (.inl (by decide)))) due
  case flip =>
    intro c ctx s full hq lost
    have other : ¬ ∃ x ∈ s.queue, x.channel = c ∧ x.cls = .flip := fun ⟨x, hx, hm⟩ => (hq x hx).2.2 hm
    have spared : evictedClass .flip s.queue = none :=
      evictedClass_eq_none (.inr fun x hx => (hq x hx).2.1) (.inr fun x hx => (hq x hx).1)
    exact ⟨submitFlip_full ctx other (Nat.le_of_eq full.symm) spared, submitRekick_full ctx other (Nat.le_of_eq full.symm) spared⟩
  case run =>
    intro f ch n si fi d k c t₀ s hf hl hc hcl he ha hn ht full hq
    have free := driveRefusal_none hcl he (isLocked_eq_false_iff.mp ha)
    obtain ⟨-, -, -, -, due⟩ := id hf
    let x : Train := { state := .wait, owner := .bare, channel := c, planned := max 1 n.toNat, profile := profileOf si fi d k }
    have held := enterWait_held (s := heard (encodeFrame (.run f ch n si fi d k)) s) (t := t₀) (x := x)
      (Nat.le_of_eq full.symm) hq
    refine ⟨{ x with held := true }, rfl, rfl, rfl, rfl, rfl, rfl, ?_⟩
    rw [execRun_started hf hl hc free hn ht, held]
    exact congrArg _ (arbitrate_of_not_due due)
  case held =>
    intro k x s hh hx
    refine ⟨handOver_full hh, ?_⟩
    rintro ⟨-, ordered, -⟩ place other
    obtain ⟨q₁, q₂, hq, joined, before, after⟩ := joinsAt_insertEntry (stepEntry s k x) ordered
    refine ⟨q₁, q₂, hq, fun e he ho => ?_, fun e he => ?_, ?_⟩
    · have early : clsCode e.cls ≤ 2 := before e he
      rw [ho] at early
      exact absurd early (by decide)
    · exact eq_order_of_step_lt (after e he)
    · rw [handOver_joined hh hx place other, joined]
      rfl

end Sys2Proof.Machine
end

section
/-! SUPPORT. What keeps the Admission Queue in order and the counts in range (R41, R49, R71, R127, R132, R136, R155, R160): the updates, the queue's
own operations, and the work on trains and units. -/

namespace Sys2Proof.Machine

set_option Elab.async false

/-! ### The order of the queue -/

/-- What the order of the queue reads of an entry: its channel and its class (R41). -/
def Entry.place (e : Entry) : Chan × Cls := (e.channel, e.cls)

/-- At most 16 places, their classes in order and none of them twice (R41). -/
def InOrder (l : List (Chan × Cls)) : Prop :=
  l.length ≤ 16 ∧ (l.Pairwise fun x y => clsCode x.2 ≤ clsCode y.2) ∧ l.Nodup

theorem queueInOrder_iff {s : State} : QueueInOrder s ↔ InOrder (s.queue.map Entry.place) := by
  simp only [QueueInOrder, InOrder, List.length_map, List.pairwise_map, List.Nodup, Entry.place, ne_eq, Prod.mk.injEq]

theorem InOrder.sublist {l l' : List (Chan × Cls)} (h : InOrder l) (hl : l'.Sublist l) : InOrder l' := by
  obtain ⟨short, classes, once⟩ := h
  exact ⟨hl.length_le.trans short, classes.sublist hl, once.sublist hl⟩

/-- A request for a place that is not taken joins in order where there is room (R41). -/
theorem InOrder.insertEntry {e : Entry} {q : List Entry} (h : InOrder (q.map Entry.place)) (room : q.length < 16)
    (new : ¬ ∃ x ∈ q, x.channel = e.channel ∧ x.cls = e.cls) : InOrder ((insertEntry e q).map Entry.place) := by
  obtain ⟨-, classes, once⟩ := h
  rw [List.pairwise_map] at classes
  have ordered : q.Pairwise fun x y => clsCode x.cls ≤ clsCode y.cls := classes
  have untaken : e.place ∉ q.map Entry.place := fun h => by
    obtain ⟨x, hx, he⟩ := List.mem_map.mp h
    exact new ⟨x, hx, congrArg Prod.fst he, congrArg Prod.snd he⟩
  obtain ⟨q₁, q₂, hq, joined, before, after⟩ := joinsAt_insertEntry e ordered
  have perm : (Machine.insertEntry e q).Perm (e :: q) := by
    rw [joined, hq]
    exact List.perm_middle
  refine ⟨?_, List.pairwise_map.mpr ?_, (perm.map _).nodup_iff.mpr (List.nodup_cons.mpr ⟨untaken, once⟩)⟩
  · rw [List.length_map, insertEntry_length]
    exact room
  · rw [hq, List.pairwise_append] at ordered
    obtain ⟨first, last, across⟩ := ordered
    rw [joined, List.pairwise_append, List.pairwise_cons]
    refine ⟨first, ⟨fun y hy => Nat.le_of_lt (after y hy), last⟩, fun x hx y hy => ?_⟩
    rcases List.mem_cons.mp hy with rfl | hy
    · exact before x hx
    · exact across x hx y hy

/-- An eviction takes one entry and leaves the others in their order (R43). -/
theorem dropYoungest_places {k : Cls} {q : List Entry} (h : ∃ x ∈ q, x.cls = k) :
    (dropYoungest k q).Sublist q ∧ (dropYoungest k q).length + 1 = q.length := by
  obtain ⟨q₁, y, q₂, hq, -, -, dropped⟩ := dropYoungest_split h
  rw [dropped, hq]
  refine ⟨(List.sublist_cons_self y q₂).append_left q₁, ?_⟩
  simp only [List.length_append, List.length_cons]
  omega

/-- Every answer to a request leaves the queue in order (R41 to R43). -/
theorem QueueInOrder.submit {s : State} (h : QueueInOrder s) (e : Entry) : QueueInOrder (submit e s).2 := by
  rw [queueInOrder_iff] at h ⊢
  by_cases same : ∃ x ∈ s.queue, x.channel = e.channel ∧ x.cls = e.cls
  · rw [submit_merged same]
    have places : ∀ x : Entry, Entry.place
        (if x.channel = e.channel ∧ x.cls = e.cls then { x with merged := min 15 (x.merged + 1) } else x) = x.place :=
      fun x => by split <;> rfl
    simpa only [List.map_map, Function.comp_def, places] using h
  · by_cases room : s.queue.length < 16
    · rw [submit_joined same room]
      exact h.insertEntry room same
    · have full := Nat.not_lt.mp room
      cases hk : evictedClass e.cls s.queue with
      | none => rwa [submit_full same full hk]
      | some k =>
        obtain ⟨left, one⟩ := dropYoungest_places (mem_of_evictedClass hk)
        obtain ⟨short, -⟩ := id h
        rw [List.length_map] at short
        rw [submit_evicting same full hk]
        exact (h.sublist (left.map _)).insertEntry (by omega) fun ⟨x, hx, hm⟩ => same ⟨x, left.subset hx, hm⟩

/-- A pass leaves the entries that stay in their order (R56). -/
theorem walk_places (q : List Entry) (s : State) : ((walk q s).1.map Entry.place).Sublist (q.map Entry.place) := by
  induction q generalizing s with
  | nil => exact List.Sublist.refl _
  | cons e q ih =>
    have stopped : (({ e with wait := .budget } :: q.map ({ · with wait := Wait.notReached }) : List Entry).map Entry.place).Sublist
        ((e :: q).map Entry.place) := by
      simp only [List.map_cons, List.map_map]
      exact List.Sublist.refl _
    rw [walk]
    split
    · exact (ih _).cons_cons _
    · exact (ih _).cons _
    · split
      · exact (ih _).cons _
      · exact stopped
    · split
      · exact (ih _).cons _
      · exact stopped

/-! ### The updates -/

/-- Where the queue was in order it is, and where the counts were in range they are. -/
structure Keeps (s t : State) : Prop where
  order : QueueInOrder s → QueueInOrder t
  counts : CountsWithin s → CountsWithin t

/-- What the order and the counts read of a state. -/
def State.tallies (s : State) : List Entry × Nat × Nat × Nat × Nat × Nat × Vector Input 32 × Vector Guard 24 :=
  (s.queue, s.dropped, s.port.damage, s.port.refusals, s.mon.trips, s.mon.hotCount, s.inputs, s.guards)

theorem Keeps.refl (s : State) : Keeps s s := ⟨id, id⟩

section
variable {s₀ s t : State}

theorem Keeps.same (h : Keeps s₀ s) (e : t.tallies = s.tallies) : Keeps s₀ t := by
  simp only [State.tallies, Prod.mk.injEq] at e
  obtain ⟨queue, dropped, damage, refusals, trips, hot, inputs, guards⟩ := e
  refine ⟨fun hs => ?_, fun hs => ?_⟩
  · rw [QueueInOrder, queue]
    exact h.order hs
  · rw [CountsWithin, dropped, damage, refusals, trips, hot, inputs, guards]
    exact h.counts hs

/-- A new queue whose places stand in the old one, in its order. -/
theorem Keeps.setQueue (h : Keeps s₀ s) {q : List Entry} (hq : (q.map Entry.place).Sublist (s.queue.map Entry.place)) :
    Keeps s₀ (s.setQueue q) where
  order hs := queueInOrder_iff.mpr ((queueInOrder_iff.mp (h.order hs)).sublist hq)
  counts := h.counts

/-- An update of the counts that leaves the queue alone. -/
theorem Keeps.recount (h : Keeps s₀ s) (hq : t.queue = s.queue) (hc : CountsWithin s → CountsWithin t) : Keeps s₀ t where
  order hs := by
    rw [QueueInOrder, hq]
    exact h.order hs
  counts hs := hc (h.counts hs)

theorem saturate_le (n : Nat) : saturate n ≤ 255 := Nat.min_le_left _ _

theorem Keeps.countDropped (h : Keeps s₀ s) : Keeps s₀ (countDropped s) :=
  h.recount rfl fun ⟨_, rest⟩ => ⟨saturate_le _, rest⟩

theorem Keeps.refuse (h : Keeps s₀ s) (who : Asker) (why : Reason) : Keeps s₀ (refuse who why s) :=
  h.recount rfl fun ⟨hd, hg, _, rest⟩ => ⟨hd, hg, saturate_le _, rest⟩

theorem Keeps.damageSeen (h : Keeps s₀ s) : Keeps s₀ (damageSeen s) :=
  h.recount rfl fun ⟨hd, _, rest⟩ => ⟨hd, saturate_le _, rest⟩

theorem Keeps.setMon (h : Keeps s₀ s) {x : Monitor} (ht : s.mon.trips ≤ 255 → x.trips ≤ 255)
    (hh : s.mon.hotCount ≤ 255 → x.hotCount ≤ 255) : Keeps s₀ (s.setMon x) :=
  h.recount rfl fun ⟨hd, hg, hr, trips, hot, rest⟩ => ⟨hd, hg, hr, ht trips, hh hot, rest⟩

theorem Keeps.setInput (h : Keeps s₀ s) {i : InputNo} {x : Input} (hx : s.inputs[i].count ≤ 15 → x.count ≤ 15) :
    Keeps s₀ (s.setInput i x) :=
  h.recount rfl fun ⟨hd, hg, hr, ht, hh, inputs, guards⟩ => by
    refine ⟨hd, hg, hr, ht, hh, fun j => ?_, guards⟩
    rw [State.setInput_inputs]
    by_cases e : j = i
    · subst e
      rw [getElem_set_same]
      exact hx (inputs j)
    · rw [getElem_set_other _ _ e]
      exact inputs j

theorem Keeps.setGuard (h : Keeps s₀ s) {c : Chan} {x : Guard} (hx : s.guards[c].strikes ≤ 3 → x.strikes ≤ 3) :
    Keeps s₀ (s.setGuard c x) :=
  h.recount rfl fun ⟨hd, hg, hr, ht, hh, inputs, guards⟩ => by
    refine ⟨hd, hg, hr, ht, hh, inputs, fun c' => ?_⟩
    rw [State.setGuard_guards]
    by_cases e : c' = c
    · subst e
      rw [getElem_set_same]
      exact hx (guards c')
    · rw [getElem_set_other _ _ e]
      exact guards c'

theorem Keeps.setTrain (h : Keeps s₀ s) (k : TrainNo) (x : Option Train) : Keeps s₀ (s.setTrain k x) := h.same rfl
theorem Keeps.setBank (h : Keeps s₀ s) (b : BankNo) (x : Bank) : Keeps s₀ (s.setBank b x) := h.same rfl
theorem Keeps.setUnit (h : Keeps s₀ s) (u : UnitNo) (x : CounterUnit) : Keeps s₀ (s.setUnit u x) := h.same rfl
theorem Keeps.setHeld (h : Keeps s₀ s) (l : List TrainNo) : Keeps s₀ (s.setHeld l) := h.same rfl
theorem Keeps.setChan (h : Keeps s₀ s) (c : Chan) (x : Channel) : Keeps s₀ (s.setChan c x) := h.same rfl
theorem Keeps.setHeat (h : Keeps s₀ s) (c : Chan) (x : Heat) : Keeps s₀ (s.setHeat c x) := h.same rfl
theorem Keeps.setWaiting (h : Keeps s₀ s) (c : Chan) (x : Option FlipContext) : Keeps s₀ (setWaiting c x s) := h.same rfl
theorem Keeps.setNode (h : Keeps s₀ s) (x : Node) : Keeps s₀ (s.setNode x) := h.same rfl
theorem Keeps.callPass (h : Keeps s₀ s) : Keeps s₀ s.callPass := h.same rfl
theorem Keeps.reach (h : Keeps s₀ s) (n : Nat) : Keeps s₀ (s.reach n) := h.same rfl
theorem Keeps.setClocks (h : Keeps s₀ s) (x : Clocks) : Keeps s₀ (s.setClocks x) := h.same rfl
theorem Keeps.setDownstream (h : Keeps s₀ s) (b : List Byte) : Keeps s₀ (s.setDownstream b) := h.same rfl
theorem Keeps.setLatch (h : Keeps s₀ s) (x : Latch) : Keeps s₀ (setLatch x s) := h.same rfl

theorem Keeps.setLatchIf (h : Keeps s₀ s) (b : Bool) (x : Latch) : Keeps s₀ (setLatchIf b x s) := by
  cases b
  · exact h
  · exact h.setLatch x

theorem Keeps.ite (p : Prop) [Decidable p] (hs : Keeps s₀ s) (ht : Keeps s₀ t) : Keeps s₀ (if p then s else t) := by
  split
  · exact hs
  · exact ht

theorem Keeps.foldl {α : Type} {f : State → α → State} (h : Keeps s₀ s) (hf : ∀ s x, Keeps s₀ s → Keeps s₀ (f s x)) (l : List α) :
    Keeps s₀ (l.foldl f s) := foldl_invariant (P := Keeps s₀) hf l h

theorem Keeps.forChans {f : Chan → State → State} (h : Keeps s₀ s) (hf : ∀ c s, Keeps s₀ s → Keeps s₀ (f c s)) :
    Keeps s₀ (forChans f s) := forChans_invariant (P := Keeps s₀) hf h

/-! ### The queue -/

theorem Keeps.filterQueue (h : Keeps s₀ s) (p : Entry → Bool) : Keeps s₀ (s.setQueue (s.queue.filter p)) :=
  h.setQueue (List.filter_sublist.map _)

theorem CountsWithin.submit (h : CountsWithin s) (e : Entry) : CountsWithin (submit e s).2 := by
  rcases submit_cases e s with ⟨-, hs⟩ | ⟨-, -, hs⟩ | ⟨k, -, -, -, hs⟩ | ⟨-, -, -, hs⟩ <;> rw [hs]
  · exact h
  · exact h
  · obtain ⟨-, rest⟩ := h
    exact ⟨saturate_le _, rest⟩
  · exact h

theorem Keeps.submit (h : Keeps s₀ s) (e : Entry) : Keeps s₀ (submit e s).2 where
  order hs := (h.order hs).submit e
  counts hs := (h.counts hs).submit e

theorem Keeps.joinHeld (h : Keeps s₀ s) (k : TrainNo) : Keeps s₀ (joinHeld k s) := by
  simp only [Machine.joinHeld]; split
  · exact (h.setTrain _ _).submit _
  · exact h

theorem Keeps.handOver (h : Keeps s₀ s) : Keeps s₀ (handOver s) :=
  handOver_invariant (P := Keeps s₀) (fun k _ hs _ _ => hs.joinHeld k) (fun l _ hs _ => hs.setHeld l) h

theorem Keeps.withdraw (h : Keeps s₀ s) (p : Entry → Bool) : Keeps s₀ (withdraw p s) :=
  Keeps.ite _ (h.filterQueue _).callPass.handOver h

theorem Keeps.withdrawFlip (h : Keeps s₀ s) (c : Chan) : Keeps s₀ (withdrawFlip c s) := (h.withdraw _).setWaiting c none
theorem Keeps.withdrawAll (h : Keeps s₀ s) (c : Chan) : Keeps s₀ (withdrawAll c s) := (h.withdraw _).setWaiting c none
theorem Keeps.clearClaimed (h : Keeps s₀ s) (c : Chan) : Keeps s₀ (clearClaimed c s) := (h.withdraw _).setWaiting c none

theorem Keeps.emptyQueue (h : Keeps s₀ s) : Keeps s₀ (emptyQueue s) :=
  ((h.setQueue (q := []) (List.nil_sublist _)).setHeld []).forChans fun c _ hs => hs.setWaiting c none

theorem Keeps.reduceQueue (h : Keeps s₀ s) : Keeps s₀ (reduceQueue s) :=
  ((h.filterQueue _).setHeld []).forChans fun c _ hs => Keeps.ite _ hs (hs.setWaiting c none)

/-- A request that finds the queue full is counted as dropped, and that count stops at 255 (R44, R49). -/
theorem Keeps.submitPulse (h : Keeps s₀ s) (c : Chan) (cls : Cls) (who : Source) (p : Bool) (n : Nat) :
    Keeps s₀ (submitPulse c cls who p n s) := by
  have asked := h.submit (newEntry s c cls .pulse who p (pulseKick s.coils[c] n))
  simp only [Machine.submitPulse]
  split <;> rename_i heq <;> rw [heq] at asked
  · exact asked.countDropped
  · exact asked

theorem Keeps.submitFlip (h : Keeps s₀ s) (c : Chan) (x : FlipContext) : Keeps s₀ (submitFlip c x s) := by
  have asked := h.submit (newEntry s c .flip .flip (.rule x.rule) x.persistent s.coils[c].k)
  simp only [Machine.submitFlip]
  split <;> rename_i heq <;> rw [heq] at asked
  · exact asked.countDropped
  · exact asked.setWaiting _ _
  · exact asked

theorem Keeps.submitRekick (h : Keeps s₀ s) (c : Chan) (x : FlipContext) : Keeps s₀ (submitRekick c x s) := by
  have asked := h.submit (newEntry s c .flip .rekick (.rule x.rule) x.persistent s.coils[c].k)
  simp only [Machine.submitRekick]
  split <;> rename_i heq <;> rw [heq] at asked
  · exact asked.countDropped
  · exact asked

/-! ### The trains -/

theorem Keeps.offer (h : Keeps s₀ s) (k : TrainNo) : Keeps s₀ (offer k s) := by
  simp only [Machine.offer]; split
  · exact h
  · rename_i x _
    have asked := h.submit (stepEntry s k x)
    split <;> rename_i heq <;> rw [heq] at asked
    · exact (asked.setHeld _).setTrain _ _
    · exact asked

theorem Keeps.enterWait (h : Keeps s₀ s) (k : TrainNo) (x : Train) : Keeps s₀ (enterWait k x s) := (h.setTrain _ _).offer k

theorem Keeps.trainGranted (h : Keeps s₀ s) (k : TrainNo) : Keeps s₀ (trainGranted k s) := by
  simp only [Machine.trainGranted]; split
  · exact h
  · exact h.setTrain _ _

theorem Keeps.trainKickEnd (h : Keeps s₀ s) (c : Chan) : Keeps s₀ (trainKickEnd c s) := by
  simp only [Machine.trainKickEnd]; split
  · exact h
  · split
    · exact h
    · exact Keeps.ite _ (h.setTrain _ _) h

theorem Keeps.takeBack (h : Keeps s₀ s) (k : TrainNo) : Keeps s₀ (takeBack k s) := (h.setHeld _).withdraw _

theorem Keeps.freeTrain (h : Keeps s₀ s) (k : TrainNo) : Keeps s₀ (freeTrain k s) := (h.setTrain k none).takeBack k

theorem Keeps.startUnit (h : Keeps s₀ s) (k : TrainNo) (u : UnitNo) (d : Dir) (c : Chan) (n : Nat) :
    Keeps s₀ (startUnit k u d c n s) := by
  simp only [Machine.startUnit]; split
  · exact h.setTrain _ _
  · exact h.enterWait _ _

theorem Keeps.recordEnd (h : Keeps s₀ s) (u : UnitNo) (x : Train) : Keeps s₀ (recordEnd u x s) := Keeps.ite _ (h.setUnit _ _) h

theorem Keeps.startOpposite (h : Keeps s₀ s) (u : UnitNo) (d : Dir) : Keeps s₀ (startOpposite u d s) := by
  refine Keeps.ite _ h ?_
  split
  · exact Keeps.ite _ (h.setUnit _ _) ((h.setUnit _ _).startUnit _ _ _ _ _)
  · exact h.setUnit _ _

theorem Keeps.endTrain (h : Keeps s₀ s) (k : TrainNo) : Keeps s₀ (endTrain k s) := by
  simp only [Machine.endTrain]; split
  · exact h
  · split
    · exact ((h.freeTrain k).recordEnd _ _).startOpposite _ _
    · exact h.freeTrain k

theorem Keeps.endAtIssued (h : Keeps s₀ s) (k : TrainNo) : Keeps s₀ (endAtIssued k s) := by
  simp only [Machine.endAtIssued]
  repeat' split
  · exact h
  · exact (h.setTrain _ _).endTrain k
  · exact ((h.setTrain _ _).setTrain _ _).takeBack k
  · exact (h.setTrain _ _).endTrain k
  · exact h.setTrain _ _

theorem Keeps.limitEnd (h : Keeps s₀ s) (k : TrainNo) : Keeps s₀ (limitEnd k s) := by
  simp only [Machine.limitEnd]; split
  · exact h
  · exact Keeps.ite _ h (h.endAtIssued k)

theorem Keeps.extend (h : Keeps s₀ s) {k : TrainNo} {n : Nat} (e : extend k n s = some t) : Keeps s₀ t := by
  simp only [Machine.extend] at e
  repeat' split at e
  · cases e
  · cases e
  · cases e
    exact h.enterWait _ _
  · cases e
    exact h.setTrain _ _

theorem Keeps.extend_getD (h : Keeps s₀ s) (ht : Keeps s₀ t) (k : TrainNo) (n : Nat) :
    Keeps s₀ ((Machine.extend k n s).getD t) := by
  cases e : Machine.extend k n s with
  | none => exact ht
  | some _ => exact h.extend e

theorem Keeps.extended (h : Keeps s₀ s) (k : TrainNo) (n : Nat) : Keeps s₀ (extended k n s) := h.extend_getD h k n

theorem Keeps.netStep (h : Keeps s₀ s) (k : TrainNo) (u : UnitNo) (d : Dir) (n : Nat) : Keeps s₀ (netStep k u d n s) := by
  simp only [Machine.netStep]
  repeat' split
  · exact h
  · exact h.setUnit _ _
  · exact (h.setUnit _ _).extended _ _
  · exact h.setUnit _ _
  · exact h.setTrain _ _
  · exact (h.setUnit _ _).endAtIssued k

/-! ### The units -/

theorem Keeps.setReel (h : Keeps s₀ s) (b : BankNo) (r : Nat) (p : Option (Fin 10)) : Keeps s₀ (setReel b r p s) := by
  simp only [Machine.setReel]; split
  · exact h.setBank _ _
  · exact h

theorem Keeps.mismatch (h : Keeps s₀ s) (b : BankNo) (r : Nat) : Keeps s₀ (mismatch b r s) := by
  refine Keeps.setLatch ?_ .reelMismatch
  split
  · exact (h.setReel _ _ _).limitEnd _
  · exact h.setReel _ _ _

theorem Keeps.carry (h : Keeps s₀ s) (b : BankNo) (r : Nat) : Keeps s₀ (carry b r s) := by
  refine Keeps.ite _ ?_ ((h.setBank _ _).setLatch _)
  split
  · exact h.extend_getD (h.mismatch _ _) _ _
  · exact h

theorem Keeps.reelKickEnd (h : Keeps s₀ s) (b : BankNo) (r : Nat) (done : Bool) : Keeps s₀ (reelKickEnd b r done s) := by
  refine Keeps.ite _ ?_ h
  split
  · exact h
  · exact Keeps.ite _ (h.setReel _ _ _) (Keeps.ite _ ((h.setReel _ _ _).carry _ _) (h.setReel _ _ _))

theorem Keeps.reelCheck (h : Keeps s₀ s) (b : BankNo) (r : Nat) (flying : Bool) : Keeps s₀ (reelCheck b r flying s) := by
  simp only [Machine.reelCheck]; split
  · exact h
  · split
    · exact h
    · exact Keeps.ite _ (h.mismatch _ _) h

theorem Keeps.settleZero (h : Keeps s₀ s) (b : BankNo) (r : Nat) : Keeps s₀ (settleZero b r s) := by
  simp only [Machine.settleZero]
  repeat' split
  · exact h
  · exact h
  · exact (h.setReel _ _ _).setLatch _
  · exact h.setLatch _
  · exact h.setReel _ _ _

theorem Keeps.freeBank (h : Keeps s₀ s) (b : BankNo) : Keeps s₀ (freeBank b s) := h.foldl (fun _ k hs => hs.freeTrain k) _

theorem Keeps.bankTest (h : Keeps s₀ s) (b : BankNo) : Keeps s₀ (bankTest b s) := Keeps.ite _ ((h.freeBank b).setBank _ _) h

theorem Keeps.bankTestOn (h : Keeps s₀ s) (c : Chan) : Keeps s₀ (bankTestOn c s) := by
  simp only [Machine.bankTestOn]; split
  · exact h.bankTest _
  · exact h

theorem Keeps.cancelBank (h : Keeps s₀ s) (b : BankNo) : Keeps s₀ (cancelBank b s) := Keeps.ite _ h ((h.freeBank b).setBank _ _)

theorem Keeps.cancelTrain (h : Keeps s₀ s) (k : TrainNo) : Keeps s₀ (cancelTrain k s) := by
  simp only [Machine.cancelTrain]
  repeat' split
  · exact h
  · exact h.freeTrain k
  · exact h.cancelBank _
  · exact ((h.freeTrain k).recordEnd _ _).setUnit _ _

theorem Keeps.cancelOf (h : Keeps s₀ s) (k : Option TrainNo) : Keeps s₀ (cancelOf k s) := by
  cases k with
  | none => exact h
  | some k => exact h.cancelTrain k

theorem Keeps.cancelAll (h : Keeps s₀ s) : Keeps s₀ (cancelAll s) := h.foldl (fun _ k hs => hs.cancelTrain k) _

theorem Keeps.unitsKickEnd (h : Keeps s₀ s) (c : Chan) (done : Bool) : Keeps s₀ (unitsKickEnd c done s) := by
  simp only [Machine.unitsKickEnd]
  repeat' split
  · exact (h.reelKickEnd _ _ _).setUnit _ _
  · exact h.setUnit _ _
  · exact h.reelKickEnd _ _ _
  · exact h

theorem Keeps.unitsLocked (h : Keeps s₀ s) (c : Chan) : Keeps s₀ (unitsLocked c s) := by
  have reels : Keeps s₀ (match reelOf s c with
      | some (b, r) => if s.banks[b].state = .idle then Machine.setReel b r none s else s
      | none => s) := by
    split
    · exact Keeps.ite _ (h.setReel _ _ _) h
    · exact h
  simp only [Machine.unitsLocked]; split
  · exact reels.setUnit _ _
  · exact reels

theorem Keeps.allocReel (h : Keeps s₀ s) (b : BankNo) (r : Nat) (c : Chan) (n : Nat) : Keeps s₀ (allocReel b r c n s) := by
  simp only [Machine.allocReel]; split
  · exact h
  · exact Keeps.ite _ (h.setTrain _ _) (h.enterWait _ _)

theorem Keeps.allocBank (h : Keeps s₀ s) (b : BankNo) (plan : Nat → Nat) : Keeps s₀ (allocBank b plan s) := by
  refine h.foldl (fun _ r hs => ?_) _
  split
  · exact hs.allocReel _ _ _ _
  · exact hs

theorem Keeps.takeAdd (h : Keeps s₀ s) (b : BankNo) (n : Nat) : Keeps s₀ (takeAdd b n s) := by
  refine Keeps.ite _ ((h.setBank _ _).allocBank _ _) (h.foldl (fun _ r hs => ?_) _)
  split
  · exact Keeps.ite _ hs (hs.extended _ _)
  · exact hs

theorem Keeps.takeZero (h : Keeps s₀ s) (b : BankNo) : Keeps s₀ (takeZero b s) :=
  (((h.freeBank b).setBank _ _).allocBank _ _).bankTest b

theorem Keeps.takeStep (h : Keeps s₀ s) (u : UnitNo) (d : Dir) (n : Nat) : Keeps s₀ (takeStep u d n s) := by
  simp only [Machine.takeStep]
  repeat' split
  · exact h.netStep _ _ _ _
  · exact h.startUnit _ _ _ _ _
  · exact h

theorem Keeps.limitClosed (h : Keeps s₀ s) (u : UnitNo) (d : Dir) : Keeps s₀ (limitClosed u d s) := by
  have read := (h.setUnit u { s.units[u] with position := some (if d = .up then s.units[u].maximum else 0) }).setLatch .atLimit
  simp only [Machine.limitClosed]; split
  · exact Keeps.ite _ (read.limitEnd _) read
  · exact read

theorem Keeps.zeroClosed (h : Keeps s₀ s) (b : BankNo) (r : Nat) : Keeps s₀ (zeroClosed b r s) := by
  simp only [Machine.zeroClosed]; split
  · exact Keeps.ite _ h (((h.setReel _ _ _).limitEnd _).bankTest b)
  · exact h

theorem Keeps.unitsClosed (h : Keeps s₀ s) (i : InputNo) : Keeps s₀ (unitsClosed i s) := by
  have banks := h.foldl (f := fun s b => (List.range s.banks[b].reels.length).foldl (fun s r =>
      if s.banks[b].state = .zeroing ∧ (s.banks[b].reels[r]?).any (·.zero == i) then Machine.zeroClosed b r s else s) s)
    (fun _ b hs => hs.foldl (fun _ r hs => Keeps.ite _ (hs.zeroClosed b r) hs) _) (List.finRange 4)
  refine banks.foldl (fun s u hs => ?_) _
  have top := Keeps.ite (s.units[u].inUse ∧ s.units[u].top.toNat = i.val) (hs.limitClosed u .up) hs
  exact Keeps.ite _ (top.limitClosed u .down) top

theorem Keeps.requestAdd (h : Keeps s₀ s) (who : Asker) (b : BankNo) (n : Nat) : Keeps s₀ (requestAdd who b n s) := by
  simp only [Machine.requestAdd]; split
  · exact h.refuse _ _
  · exact h.takeAdd _ _

theorem Keeps.requestStep (h : Keeps s₀ s) (who : Asker) (u : UnitNo) (n : Int) : Keeps s₀ (requestStep who u n s) := by
  refine Keeps.ite _ (h.refuse _ _) (Keeps.ite _ (((h.setUnit _ _).setLatch _).refuse _ _) ?_)
  split
  · exact h.refuse _ _
  · exact h.takeStep _ _ _

theorem Keeps.intervalCompared (h : Keeps s₀ s) (k : TrainNo) : Keeps s₀ (intervalCompared k s) := by
  simp only [Machine.intervalCompared]
  repeat' split
  · exact h
  · exact h.enterWait _ _
  · exact (h.setTrain _ _).bankTest _
  · exact h.endTrain k

theorem Keeps.verifyReel (h : Keeps s₀ s) (b : BankNo) (r : Nat) (flying : Bool) : Keeps s₀ (verifyReel b r flying s) :=
  Keeps.ite _ (h.settleZero _ _) (h.reelCheck _ _ _)

theorem Keeps.markVerified (h : Keeps s₀ s) (k : TrainNo) : Keeps s₀ (markVerified k s) := by
  simp only [Machine.markVerified]; split
  · exact h.setTrain _ _
  · exact h

end

end Sys2Proof.Machine
end

section
/-! SUPPORT. The order of the queue and the ranges of the counts are kept by the work on the channels, the pass, the node states, the orders and the
loads (R41, R127, R132, R160). -/

namespace Sys2Proof.Machine

set_option Elab.async false

section
variable {s₀ s : State}

/-! ### Drives and locks -/

theorem Keeps.finalCharge (h : Keeps s₀ s) (c : Chan) : Keeps s₀ (finalCharge c s) :=
  h.same (congrArg State.tallies (beyondHeat_finalCharge c s) :)

/-- A channel that joins the driven round has its runs set to 0, and its strikes kept (R129, R130). -/
theorem Keeps.setAct (h : Keeps s₀ s) (c : Chan) (x : Activity) : Keeps s₀ (setAct c x s) := by
  have charged : Keeps s₀ { s with inUse := s.inUse - actDraw s.coils[c] s.chans[c].act + actDraw s.coils[c] x } := h.same rfl
  simp only [Machine.setAct]; split
  · exact (charged.setGuard (x := { s.guards[c] with shortRun := 0, leakRun := 0 }) id).setChan _ _
  · exact charged.setChan _ _

theorem Keeps.becomeIdle (h : Keeps s₀ s) (c : Chan) : Keeps s₀ (becomeIdle c s) := (h.setAct c .idle).callPass

theorem Keeps.enterRecovery (h : Keeps s₀ s) (c : Chan) : Keeps s₀ (enterRecovery c s) := Keeps.ite _ (h.becomeIdle c) (h.setAct _ _)

theorem Keeps.enterHold (h : Keeps s₀ s) (c : Chan) (d : Drive) (x : FlipContext) (n : Nat) (l : Option Nat) (e : Nat) :
    Keeps s₀ (enterHold c d x n l e s) := (h.setHeat _ _).setAct _ _

theorem Keeps.endHold (h : Keeps s₀ s) (c : Chan) : Keeps s₀ (endHold c s) := by
  simp only [Machine.endHold]; split
  · exact ((h.finalCharge c).enterRecovery c).callPass.withdraw _
  · exact h

theorem Keeps.afterKick (h : Keeps s₀ s) (c : Chan) (done : Bool) (d : Drive) : Keeps s₀ (afterKick c done d s) := by
  simp only [Machine.afterKick]; split
  · exact Keeps.ite _ (Keeps.ite _ ((h.setLatch _).enterRecovery c) (h.enterHold _ _ _ _ _ _)) (h.enterRecovery c)
  · exact h.enterRecovery c

theorem Keeps.reportKick (h : Keeps s₀ s) (c : Chan) (done isStep : Bool) : Keeps s₀ (reportKick c done isStep s) :=
  Keeps.ite _ ((h.unitsKickEnd c done).trainKickEnd c) h

theorem Keeps.testAfterKick (h : Keeps s₀ s) (c : Chan) (isStep : Bool) : Keeps s₀ (testAfterKick c isStep s) :=
  Keeps.ite _ (h.bankTestOn c) h

/-- A lock leaves the strikes as they are (R21, R127). -/
theorem Keeps.lockChannel (h : Keeps s₀ s) (c : Chan) (cause : LockCause) : Keeps s₀ (lockChannel c cause s) := by
  cases hl : s.chans[c].isLocked
  · have cut : Keeps s₀ (cutAndLock c s) := Keeps.ite _ ((h.finalCharge c).setAct c .locked).callPass ((h.finalCharge c).setAct c .locked)
    rw [lockChannel_of_free cause hl]
    exact (((((cut.reportKick _ _ _).withdrawAll c).cancelOf _).unitsLocked c).setLatch _).setGuard id
  · rwa [lockChannel_of_locked cause hl]

/-- The strikes stop at 3 (R127, R128). -/
theorem Keeps.settleVerdict (h : Keeps s₀ s) (c : Chan) : Keeps s₀ (settleVerdict c s) := by
  have struck : Keeps s₀ (s.setGuard c { s.guards[c] with verdict := .noneYet, strikes := min 3 (s.guards[c].strikes + 1) }) :=
    h.setGuard fun _ => Nat.min_le_left _ _
  refine Keeps.ite _ (h.setGuard id) ?_
  split
  · exact h
  · exact h.setGuard fun _ => Nat.zero_le _
  · exact Keeps.ite _ (struck.lockChannel _ _) (Keeps.ite _ (struck.setLatch _) struck)

theorem Keeps.endKick (h : Keeps s₀ s) (c : Chan) (done : Bool) : Keeps s₀ (endKick c done s) := by
  cases ha : s.chans[c].act with
  | kicking d n ends =>
    rw [endKick_of_kicking done ha]
    exact ((((h.finalCharge c).callPass.afterKick c done d).reportKick _ _ _).settleVerdict c).testAfterKick _ _
  | _ => rwa [endKick_of_not_kicking done (by simp only [Channel.isKicking, ha])]

theorem Keeps.endDrive (h : Keeps s₀ s) (c : Chan) : Keeps s₀ (endDrive c s) := Keeps.ite _ (h.endKick c _) (h.endHold c)

theorem Keeps.unlockChannel (h : Keeps s₀ s) (c : Chan) : Keeps s₀ (unlockChannel c s) :=
  Keeps.ite _ ((h.setGuard fun _ => Nat.zero_le _).becomeIdle c) h

theorem Keeps.endFlipWork (h : Keeps s₀ s) (p : FlipContext → Bool) : Keeps s₀ (endFlipWork p s) := by
  refine h.forChans fun c t ht => ?_
  have ended : Keeps s₀ (if t.chans[c].running?.any p then Machine.endDrive c t else t) := Keeps.ite _ (ht.endDrive c) ht
  exact Keeps.ite _ (ended.withdrawFlip c) ended

theorem Keeps.edgeOn (h : Keeps s₀ s) (i : InputNo) (close : Bool) (c : Chan) : Keeps s₀ (edgeOn i close c s) := by
  have waiting : Keeps s₀ (edgeOnWaiting i close c s) := Keeps.ite _ (h.withdrawFlip c) h
  rw [edgeOn_eq, edgeOnDrive]
  split
  · exact Keeps.ite _ (waiting.endKick c _) (Keeps.ite _ (waiting.endKick c _) waiting)
  · exact Keeps.ite _ (waiting.endHold c)
      (Keeps.ite _ (Keeps.ite _ (waiting.withdraw _) (Keeps.ite _ (waiting.submitRekick _ _) waiting)) waiting)
  · exact waiting

/-! ### Milliseconds of drive and the cooling tick -/

theorem Keeps.kickMs (h : Keeps s₀ s) (c : Chan) : Keeps s₀ (kickMs c s) := by
  have charged : Keeps s₀ (accrueKick c s) := h.same (congrArg State.tallies (beyondHeat_accrueKick c s) :)
  simp only [Machine.kickMs]; split
  · exact charged.setChan _ _
  · exact h

theorem Keeps.holdMs (h : Keeps s₀ s) (c : Chan) : Keeps s₀ (holdMs c s) := by
  have charged : ∀ e, Keeps s₀ (accrueHold c e s) := fun e => h.same (congrArg State.tallies (beyondHeat_accrueHold c s e) :)
  simp only [Machine.holdMs]; split
  · exact Keeps.ite _ ((((charged _).setChan _ _).setLatch _).endHold c) ((charged _).setChan _ _)
  · exact h

theorem Keeps.chargeBefore (h : Keeps s₀ s) (n : Nat) (c : Chan) : Keeps s₀ (chargeBefore n c s) := by
  simp only [Machine.chargeBefore]; split
  · exact Keeps.ite _ (h.kickMs c) h
  · exact Keeps.ite _ (h.holdMs c) h
  · exact h

theorem Keeps.lowerHold (h : Keeps s₀ s) (c : Chan) : Keeps s₀ (lowerHold c s) := by
  simp only [Machine.lowerHold]; split
  · exact Keeps.ite _ ((h.setLatch _).endHold c) (Keeps.ite _ (h.setAct _ _).callPass h)
  · exact h

theorem Keeps.raiseHold (h : Keeps s₀ s) (c : Chan) : Keeps s₀ (raiseHold c s) := by
  simp only [Machine.raiseHold]; split
  · exact Keeps.ite _ (h.setAct _ _) h
  · exact h

/-! ### The pass -/

theorem Keeps.beginKick (h : Keeps s₀ s) (c : Chan) (kind : DriveKind) (e : Entry) (n : Nat) : Keeps s₀ (beginKick c kind e n s) :=
  (h.setAct _ _).setGuard id

theorem Keeps.grantKick (h : Keeps s₀ s) (e : Entry) (n : Nat) : Keeps s₀ (grantKick e n s) := by
  simp only [Machine.grantKick]
  repeat' split
  · exact (h.setWaiting _ none).beginKick _ _ _ _
  · exact h
  · exact (h.finalCharge _).beginKick _ _ _ _
  · exact h
  · exact h.beginKick _ _ _ _
  · exact (h.beginKick _ _ _ _).trainGranted _
  · exact h.beginKick _ _ _ _

theorem Keeps.grantHold (h : Keeps s₀ s) (e : Entry) (n : Nat) (b : Bool) : Keeps s₀ (grantHold e n b s) := by
  simp only [Machine.grantHold]; split
  · exact ((h.setWaiting _ none).enterHold _ _ _ _ _ _).setLatchIf _ _
  · exact h

theorem Keeps.removeAtPass (h : Keeps s₀ s) (e : Entry) (x y : Bool) : Keeps s₀ (removeAtPass e x y s) :=
  Keeps.ite _ (((h.setLatchIf _ _).setLatchIf _ _).setWaiting _ none) ((h.setLatchIf _ _).setLatchIf _ _)

theorem keptByFindings_keeps (s₀ : State) : KeptByFindings (Keeps s₀) where
  removed e x y _ h _ _ := h.removeAtPass e x y
  kick e n _ _ _ h _ _ _ _ := h.grantKick e n
  hold e n _ _ x _ h _ _ _ _ := h.grantHold e n x

/-- A pass acts on its findings, which leave the queue alone, and leaves those entries waiting that stay (R56). -/
theorem Keeps.pass (h : Keeps s₀ s) : Keeps s₀ (pass s) := by
  rw [Machine.pass]
  split
  · rename_i closed
    obtain ⟨walked, queue⟩ := walk_invariant (keptByFindings_keeps s₀) s.queue s (fun _ he => he) closed h
    refine walked.setQueue ?_
    rw [queue]
    exact walk_places s.queue s
  · exact h

theorem Keeps.passes (h : Keeps s₀ s) (n : Nat) : Keeps s₀ (passes n s) := by
  induction n generalizing s with
  | zero => exact h.same rfl
  | succ n ih =>
    have unmarked : Keeps s₀ { Machine.handOver s with passDue := false } := h.handOver.same rfl
    exact Keeps.ite _ (ih unmarked.pass) h.handOver

theorem Keeps.arbitrate (h : Keeps s₀ s) : Keeps s₀ (arbitrate s) := Keeps.ite _ (h.passes _) h

/-! ### The node states -/

theorem Keeps.endDrives (h : Keeps s₀ s) (keep : Bool) : Keeps s₀ (endDrives keep s) :=
  h.forChans fun c _ hs => Keeps.ite _ hs (hs.endDrive c)

theorem Keeps.stopSilence (h : Keeps s₀ s) : Keeps s₀ (stopSilence s) := h.same rfl
theorem Keeps.restartSilence (h : Keeps s₀ s) : Keeps s₀ (restartSilence s) := h.same rfl
theorem Keeps.enterArming (h : Keeps s₀ s) : Keeps s₀ (enterArming s) := h.same rfl
theorem Keeps.wakeBy (h : Keeps s₀ s) (i : InputNo) : Keeps s₀ (wakeBy i s) := h.same rfl

theorem Keeps.standDown (h : Keeps s₀ s) (st : NodeState) : Keeps s₀ (standDown st s) :=
  have cancelled : Keeps s₀ (Machine.cancelAll (Machine.stopSilence (s.setNode { s.node with st := st, relay := false, settle := none }))) :=
    (h.setNode _).stopSilence.cancelAll
  (cancelled.endDrives false).emptyQueue

theorem Keeps.enterChainLost (h : Keeps s₀ s) : Keeps s₀ (enterChainLost s) :=
  have cancelled : Keeps s₀ (Machine.cancelAll (Machine.stopSilence (s.setNode { s.node with
      st := .chainLost, relay := persistentArmed s, settle := none }))) :=
    (h.setNode _).stopSilence.cancelAll
  (cancelled.endDrives _).reduceQueue

/-- The count of trips stops at 255 (R132). -/
theorem Keeps.trip (h : Keeps s₀ s) (cause : TripCause) (c : Option Chan) : Keeps s₀ (trip cause c s) := by
  have stopped := h.standDown .tripped
  refine Keeps.ite _ h ?_
  generalize Machine.standDown .tripped s = t at stopped ⊢
  exact (stopped.setMon (x := { t.mon with tripCause := some cause, tripChan := c, trips := saturate t.mon.trips })
    (fun _ => saturate_le _) id).setLatch _

theorem Keeps.goodFrameEnd (h : Keeps s₀ s) : Keeps s₀ (goodFrameEnd s) := by
  simp only [Machine.goodFrameEnd]; split
  · exact h.restartSilence
  · exact h.restartSilence
  · exact h.standDown _
  · exact h

theorem Keeps.enterQuiet (h : Keeps s₀ s) (mask : BitVec 32) : Keeps s₀ (enterQuiet mask s) := by
  simp only [Machine.enterQuiet]; split
  · exact ((h.standDown .quiet).setNode _).wakeBy _
  · exact (h.standDown .quiet).setNode _

/-- A Reset order sets the counts to 0 (R165). -/
theorem Keeps.softReset (h : Keeps s₀ s) : Keeps s₀ (softReset s) := by
  have stopped := h.standDown .safe
  rw [Machine.softReset]
  generalize Machine.standDown .safe s = t at stopped ⊢
  exact stopped.recount rfl fun ⟨_, _, _, rest⟩ => ⟨Nat.zero_le _, Nat.zero_le _, Nat.zero_le _, rest⟩

/-! ### The orders -/

theorem Keeps.refuseOrder (h : Keeps s₀ s) (tag : Byte) (why : Reason) : Keeps s₀ (refuseOrder tag why s) := h.refuse _ _

theorem Keeps.inLive (h : Keeps s₀ s) {a : State → State} (ha : ∀ s, Keeps s₀ s → Keeps s₀ (a s)) (tag : Byte) :
    Keeps s₀ (inLive tag a s) :=
  Keeps.ite _ (ha s h) (h.refuseOrder _ _)

theorem Keeps.withRef (h : Keeps s₀ s) {n : Nat} {a : Fin n → State → State} (ha : ∀ i s, Keeps s₀ s → Keeps s₀ (a i s)) (tag b : Byte) :
    Keeps s₀ (withRef tag n b a s) := by
  simp only [Machine.withRef]; split
  · exact ha _ s h
  · exact h.refuseOrder _ _

theorem Keeps.obeyGo (h : Keeps s₀ s) (tag : Byte) : Keeps s₀ (obeyGo tag s) := by
  simp only [Machine.obeyGo]; split
  · exact h.enterArming
  · exact h
  · exact h
  · exact (h.setNode _).enterArming
  · exact h
  · exact h.refuseOrder _ _

theorem Keeps.obeyQuiet (h : Keeps s₀ s) (tag : Byte) (mask : BitVec 32) : Keeps s₀ (obeyQuiet tag mask s) := by
  simp only [Machine.obeyQuiet]; split
  · exact h.enterQuiet _
  · exact h.enterQuiet _
  · exact h.enterQuiet _
  · exact h.setNode _
  · exact h
  · exact h.refuseOrder _ _

theorem Keeps.obeyPulse (h : Keeps s₀ s) (tag c n : Byte) : Keeps s₀ (obeyPulse tag c n s) := by
  refine h.inLive (fun s h => h.withRef (fun c s h => ?_) _ _) _
  split
  · exact h.refuseOrder _ _
  · exact h.submitPulse _ _ _ _ _

theorem Keeps.obeyRelease (h : Keeps s₀ s) (tag c : Byte) : Keeps s₀ (obeyRelease tag c s) :=
  h.withRef (fun c _ h => Keeps.ite _ (h.refuseOrder _ _) ((h.endDrive c).withdraw _)) _ _

theorem Keeps.obeyDisarm (h : Keeps s₀ s) (mask : Byte) : Keeps s₀ (obeyDisarm mask s) := by
  have disarmed : Keeps s₀ { s with armed := s.armed &&& ~~~mask } := h.same rfl
  exact (disarmed.endFlipWork _).withdraw _

theorem Keeps.runOn (h : Keeps s₀ s) (tag : Byte) (c : Chan) (n : Nat) (p : Profile) : Keeps s₀ (runOn tag c n p s) := by
  simp only [Machine.runOn]; split
  · split
    · rename_i extended
      exact h.extend extended
    · exact h.refuseOrder _ _
  · split
    · exact h.enterWait _ _
    · exact h.refuseOrder _ _

theorem Keeps.obeyRun (h : Keeps s₀ s) (tag c n : Byte) (a b : Half) (r i : Byte) : Keeps s₀ (obeyRun tag c n a b r i s) := by
  refine h.inLive (fun s h => h.withRef (fun c s h => ?_) _ _) _
  split
  · exact h.refuseOrder _ _
  · exact h.runOn _ _ _ _

theorem Keeps.obeyCancel (h : Keeps s₀ s) (tag target n : Byte) : Keeps s₀ (obeyCancel tag target n s) := by
  simp only [Machine.obeyCancel]; split
  · exact h.withRef (fun c _ h => Keeps.ite _ (h.refuseOrder _ _) (h.cancelOf _)) _ _
  · exact h.withRef (fun u _ h => h.cancelOf _) _ _
  · exact h.withRef (fun b _ h => h.cancelBank b) _ _
  · exact h.refuseOrder _ _

theorem Keeps.obeyAdd (h : Keeps s₀ s) (tag b : Byte) (v : BitVec 24) : Keeps s₀ (obeyAdd tag b v s) :=
  h.inLive (fun _ h => h.withRef (fun _ _ h => Keeps.ite _ h (h.requestAdd _ _ _)) _ _) _

theorem Keeps.obeyZero (h : Keeps s₀ s) (tag b : Byte) : Keeps s₀ (obeyZero tag b s) := by
  refine h.inLive (fun s h => h.withRef (fun b s h => ?_) _ _) _
  split
  · exact h.refuseOrder _ _
  · exact h.takeZero b

theorem Keeps.obeyStep (h : Keeps s₀ s) (tag u n : Byte) : Keeps s₀ (obeyStep tag u n s) :=
  h.inLive (fun _ h => h.withRef (fun _ _ h => Keeps.ite _ h (h.requestStep _ _ _)) _ _) _

theorem Keeps.obeyUnlock (h : Keeps s₀ s) (tag c : Byte) : Keeps s₀ (obeyUnlock tag c s) :=
  h.withRef (fun c _ h => Keeps.ite _ (h.refuseOrder _ _) (h.unlockChannel c)) _ _

theorem Keeps.changeRun (h : Keeps s₀ s) (first n : Nat) (f : Nat → Lamp → Lamp) : Keeps s₀ (changeRun first n f s) :=
  h.foldl (fun _ _ hs => by split; exacts [hs.same rfl, hs]) _

theorem Keeps.obeySetLamps (h : Keeps s₀ s) (tag first n : Byte) (levels : List Byte) : Keeps s₀ (obeySetLamps tag first n levels s) :=
  Keeps.ite _ (h.refuseOrder _ _) (h.changeRun _ _ _)

theorem Keeps.obeySetModes (h : Keeps s₀ s) (tag first n : Byte) (modes : List Byte) : Keeps s₀ (obeySetModes tag first n modes s) := by
  refine Keeps.ite _ (h.refuseOrder _ _) ?_
  split
  · exact h.changeRun _ _ _
  · exact h.refuseOrder _ _

theorem Keeps.moveRing (h : Keeps s₀ s) (r : RingNo) (n : Int) : Keeps s₀ (moveRing r n s) :=
  Keeps.ite _ h (h.foldl (f := fun s (x : LampNo × Nat) => s.setLamp x.1 { s.lamps[x.1] with level := x.2 })
    (fun _ _ hs => hs.same rfl) _)

theorem Keeps.obeyMove (h : Keeps s₀ s) (tag r n : Byte) : Keeps s₀ (obeyMove tag r n s) :=
  h.withRef (fun r _ h => Keeps.ite _ (h.refuseOrder _ _) (h.moveRing r _)) _ _

theorem Keeps.clearCountsOf (h : Keeps s₀ s) (mask : BitVec 32) : Keeps s₀ (clearCountsOf mask s) :=
  h.foldl (fun _ _ hs => Keeps.ite _ (hs.setInput fun _ => Nat.zero_le _) hs) _

/-! ### The loads -/

/-- A taken coil load may set the strikes to 0 (R127). -/
theorem Keeps.takeCoil (h : Keeps s₀ s) (c : Chan) (k : Coil) : Keeps s₀ (takeCoil c k s) := by
  have stored : Keeps s₀ ((Machine.withdrawAll c s).setCoil c k) := (h.withdrawAll c).same rfl
  have reheated : Keeps s₀ (reheat c s.coils[c] k ((Machine.withdrawAll c s).setCoil c k)) := (stored.setHeat _ _).setLatchIf _ _
  exact Keeps.ite _ (reheated.setGuard fun _ => Nat.zero_le _) reheated

theorem Keeps.storeCoil (h : Keeps s₀ s) (tag : Byte) (r : CoilRec) : Keeps s₀ (storeCoil tag r s) :=
  h.withRef (fun c _ h => Keeps.ite _ (h.refuseOrder _ _) (h.takeCoil c _)) _ _

theorem loaded_count (x : Input) (closedHigh : Bool) (d : Debounce) : (x.loaded closedHigh d).count = x.count := by
  simp only [Input.loaded]
  repeat' split
  · rfl
  · rfl
  · rfl

theorem Keeps.storeInput (h : Keeps s₀ s) (tag : Byte) (r : InputRec) : Keeps s₀ (storeInput tag r s) := by
  refine h.withRef (fun i _ h => ?_) _ _
  split
  · exact Keeps.ite _ (h.refuseOrder _ _) (h.setInput fun hx => (loaded_count _ _ _).trans_le hx)
  · exact h.refuseOrder _ _

theorem Keeps.setHoldoff (h : Keeps s₀ s) (r : RuleNo) (x : Option Nat) : Keeps s₀ (s.setHoldoff r x) := h.same rfl
theorem Keeps.setRule (h : Keeps s₀ s) (r : RuleNo) (x : Rule) : Keeps s₀ (s.setRule r x) := h.same rfl

theorem Keeps.storeRule (h : Keeps s₀ s) (tag : Byte) (r : RuleRec) : Keeps s₀ (storeRule tag r s) := by
  refine h.withRef (fun n _ h => ?_) _ _
  split
  · exact h.refuseOrder _ _
  · exact Keeps.ite _ (h.refuseOrder _ _) (((h.endFlipWork _).withdraw _).setHoldoff _ _ |>.setRule _ _)

theorem Keeps.storeBank (h : Keeps s₀ s) (tag : Byte) (r : BankRec) : Keeps s₀ (storeBank tag r s) := by
  refine h.withRef (fun b s h => ?_) _ _
  refine Keeps.ite _ (h.refuseOrder _ _) ?_
  split
  · exact h.refuseOrder _ _
  · exact Keeps.ite _ (h.refuseOrder _ _) (Keeps.ite _ (h.refuseOrder _ _)
      ((h.foldl (fun _ c hs => hs.clearClaimed c) _).setBank _ _))

theorem Keeps.storeUnit (h : Keeps s₀ s) (tag : Byte) (r : UnitRec) : Keeps s₀ (storeUnit tag r s) := by
  refine h.withRef (fun u s h => ?_) _ _
  refine Keeps.ite _ ?_ (Keeps.ite _ (h.refuseOrder _ _) (h.setUnit _ _))
  split
  · refine Keeps.ite _ (h.refuseOrder _ _) ?_
    split
    · exact h.refuseOrder _ _
    · exact ((h.clearClaimed _).clearClaimed _).setUnit _ _
  · exact h.refuseOrder _ _

theorem Keeps.storeRing (h : Keeps s₀ s) (tag : Byte) (r : RingRec) : Keeps s₀ (storeRing tag r s) := by
  refine h.withRef (fun n s h => ?_) _ _
  refine Keeps.ite _ (h.refuseOrder _ _) ?_
  split
  · exact h.refuseOrder _ _
  · exact Keeps.ite _ (h.refuseOrder _ _) (h.same rfl)

/-- What an order or load does when it is executed. -/
theorem Keeps.act (h : Keeps s₀ s) (i : Instr) : Keeps s₀ (act i s) := by
  cases i with
  | go f => exact h.obeyGo _
  | quiet f m => exact h.obeyQuiet _ _
  | reset f => exact h.softReset
  | pulse f c n => exact h.obeyPulse _ _ _
  | release f c => exact h.obeyRelease _ _
  | arm f m => exact h.same rfl
  | disarm f m => exact h.obeyDisarm _
  | run f c n si fi d i => exact h.obeyRun _ _ _ _ _ _ _
  | cancel f t n => exact h.obeyCancel _ _ _
  | add f b v => exact h.obeyAdd _ _ _
  | zero f b => exact h.obeyZero _ _
  | step f u n => exact h.obeyStep _ _ _
  | lock f c => exact h.withRef (fun c _ h => h.lockChannel c _) _ _
  | unlock f c => exact h.obeyUnlock _ _
  | setLamps f a n ls => exact h.obeySetLamps _ _ _ _
  | setModes f a n ms => exact h.obeySetModes _ _ _ _
  | move f r n => exact h.obeyMove _ _ _
  | acknowledge f m => exact h.same rfl
  | clearCounts f m => exact h.clearCountsOf _
  | loadNodeSettings f r => exact h.same rfl
  | loadCoil f r => exact h.storeCoil _ _
  | loadInput f r => exact h.storeInput _ _
  | loadRule f r => exact h.storeRule _ _
  | loadBank f r => exact h.storeBank _ _
  | loadUnit f r => exact h.storeUnit _ _
  | loadRing f r => exact h.storeRing _ _
  | _ => exact h

end

end Sys2Proof.Machine
end

section
/-! SUPPORT. The order of the queue and the ranges of the counts are kept by the frames, the samples, the timers and the readings, and so by every
command (R71, R72, R136, R155). -/

namespace Sys2Proof.Machine

set_option Elab.async false

section
variable {s₀ s : State}

/-! ### Frames -/

theorem Keeps.plainFrame (h : Keeps s₀ s) {a : State → State} (ha : ∀ s, Keeps s₀ s → Keeps s₀ (a s)) (bytes : List Byte)
    (f : Head) : Keeps s₀ (plainFrame bytes f a s) := by
  have sent := h.setDownstream bytes
  exact Keeps.ite _ sent (Keeps.ite _ (ha _ sent.goodFrameEnd).arbitrate sent.damageSeen)

theorem Keeps.orderFrame (h : Keeps s₀ s) {a : State → State} (ha : ∀ s, Keeps s₀ s → Keeps s₀ (a s)) (i : Instr) (f : Head) :
    Keeps s₀ (orderFrame i f a s) := by
  refine h.plainFrame (fun t ht => ?_) _ _
  split
  · exact ha t ht
  · exact ht

theorem Keeps.queryFrame (h : Keeps s₀ s) (f : Head) (p : List Byte) (a : Option Answerer) : Keeps s₀ (queryFrame f p a s) :=
  h.plainFrame (fun _ hs => hs) _ _

/-- The counts moved to the pending record leave 0 behind (R72). -/
theorem Keeps.moveToPending (h : Keeps s₀ s) : Keeps s₀ (moveToPending s) :=
  h.recount rfl fun ⟨hd, hg, hr, ht, hh, _, guards⟩ => by
    refine ⟨hd, hg, hr, ht, hh, fun i => ?_, guards⟩
    simp only [Machine.moveToPending, Fin.getElem_fin, Vector.getElem_map]
    exact Nat.zero_le _

/-- A returned count stops at 15 (R72). -/
theorem Keeps.settlePending (h : Keeps s₀ s) (ok : Bool) : Keeps s₀ (settlePending ok s) := by
  simp only [Machine.settlePending]
  split
  · exact h
  · rename_i r _
    have kept : Keeps s₀ { s with reported := none } := h.same rfl
    exact Keeps.ite _ kept (kept.foldl (f := fun s i => s.setInput i (s.inputs[i].returned r[i]))
      (fun _ _ hs => hs.setInput fun _ => Nat.min_le_left _ _) _)

theorem Keeps.abandonedFrame (h : Keeps s₀ s) (bytes : List Byte) : Keeps s₀ (abandonedFrame bytes s) := by
  have sent := h.setDownstream (abandonedSent s bytes)
  exact Keeps.ite _ sent (Keeps.ite _ (sent.moveToPending.settlePending false) sent).damageSeen

theorem Keeps.badHeaderFrame (h : Keeps s₀ s) (bytes : List Byte) : Keeps s₀ (badHeaderFrame bytes s) :=
  Keeps.ite _ (h.setDownstream _) (h.setDownstream _).damageSeen

/-! ### Samples and edges -/

theorem sample_count (x : Input) (high : Bool) (n : Nat) : (x.sample high n).2.count = x.count := by
  simp only [Input.sample]
  repeat' split
  · rfl
  · rfl
  · rfl
  · rfl

/-- A closure count stops at 15 (R71). -/
theorem edge_count_le {x : Input} (h : x.count ≤ 15) : x.edge.count ≤ 15 := by
  rw [Input.edge]
  split
  · exact h
  · exact Nat.min_le_left _ _

theorem Keeps.makeRequest (h : Keeps s₀ s) (n : RuleNo) : Keeps s₀ (makeRequest n s) := by
  simp only [Machine.makeRequest]; split
  · exact h
  · split
    · exact h.refuse _ _
    · exact h.submitPulse _ _ _ _ _
  · split
    · exact h.refuse _ _
    · exact h.submitFlip _ _
  · exact Keeps.ite _ h (h.requestStep _ _ _)
  · exact Keeps.ite _ h (h.requestAdd _ _ _)

theorem Keeps.fireRule (h : Keeps s₀ s) (n : RuleNo) : Keeps s₀ (fireRule n s) :=
  ((Keeps.ite (s.rules[n].holdoff = 0) h (h.setHoldoff _ _)).makeRequest n).arbitrate

theorem Keeps.deliver (h : Keeps s₀ s) (i : InputNo) (close : Bool) (x : Consumer) : Keeps s₀ (deliver i close x s) := by
  cases x with
  | ruleEngine => exact h.foldl (fun _ n hs => Keeps.ite _ (hs.fireRule n) hs) _
  | channelDrivers => exact (h.forChans fun c _ hs => hs.edgeOn i close c).arbitrate
  | unitLogic => exact (Keeps.ite _ (h.unitsClosed i) h).arbitrate
  | nodeState => exact (Keeps.ite _ (Keeps.ite _ (h.wakeBy i) h) h).arbitrate

theorem Keeps.deliverEdge (h : Keeps s₀ s) (levels : BitVec 32) (d : InputNo × Consumer) : Keeps s₀ (deliverEdge levels d s) :=
  (Keeps.ite (s.inputs[d.1].closed = _) h (h.setInput edge_count_le)).deliver _ _ _

theorem Keeps.sampleInputs (h : Keeps s₀ s) (x : Sample) : Keeps s₀ (sampleInputs x s) := by
  have ticked := (h.reach s.clocks.sample).setClocks { s.clocks with sample := s.clocks.sample + 250 }
  have debounced := ticked.foldl
    (f := fun t i => t.setInput i (t.inputs[i].sample (x.levels.getLsbD i.val) s.clocks.sample).2)
    (fun _ _ hs => hs.setInput fun hx => (sample_count _ _ _).trans_le hx) (List.finRange 32)
  exact debounced.foldl (fun _ d hs => hs.deliverEdge _ d) _

theorem Keeps.sweepFrame (h : Keeps s₀ s) (f : Head) (first n : Byte) (slots : List Byte) (xs : List Sample) :
    Keeps s₀ (sweepFrame f first n slots xs s) := by
  have sampled := (Keeps.ite (writesSlot s f first n slots = true) h.moveToPending h).foldl
    (fun _ x hs => hs.sampleInputs x) xs
  exact (Keeps.ite _ (sampled.settlePending _) sampled).plainFrame (fun _ hs => hs) _ _

theorem Keeps.actOn (h : Keeps s₀ s) (tag : Byte) (read : Except Misread Instr) (heard : Bool) :
    Keeps s₀ ((if heard then actOn tag read else id) s) := by
  cases heard
  · exact h
  · cases read with
    | ok i => exact h.act i
    | error e => exact h.refuseOrder _ _

theorem Keeps.wholeFrame (h : Keeps s₀ s) (kind : Byte) (f : Head) (p : List Byte) : Keeps s₀ (wholeFrame kind f p s) := by
  simp only [Machine.wholeFrame]; split
  · exact h.plainFrame (fun _ hs => hs.actOn _ _ _) _ _
  · exact h.plainFrame (fun _ hs => hs.actOn _ _ _) _ _
  · exact h.queryFrame _ _ _
  · split
    · exact h.sweepFrame _ _ _ _ _
    · exact h.plainFrame (fun _ hs => hs) _ _
  · exact h.plainFrame (fun _ hs => hs) _ _

theorem Keeps.portFrame (h : Keeps s₀ s) (bytes : List Byte) : Keeps s₀ (portFrame bytes s) := by
  simp only [Machine.portFrame]; split
  · exact h.setDownstream _
  · exact h.abandonedFrame _
  · exact h.badHeaderFrame _
  · exact (h.wholeFrame _ _ _).setDownstream _

/-! ### Timers -/

theorem Keeps.silenceOver (h : Keeps s₀ s) : Keeps s₀ (silenceOver s) := by
  simp only [Machine.silenceOver]; split
  · exact h
  · exact (h.reach _).enterChainLost.arbitrate

theorem Keeps.settleOver (h : Keeps s₀ s) : Keeps s₀ (settleOver s) := by
  simp only [Machine.settleOver]; split
  · exact h
  · exact Keeps.ite _ ((h.reach _).setNode _) ((h.reach _).trip _ _).arbitrate

theorem Keeps.kickOver (h : Keeps s₀ s) (c : Chan) : Keeps s₀ (kickOver c s) := by
  simp only [Machine.kickOver]; split
  · exact ((h.reach _).endKick c true).arbitrate
  · exact h

theorem Keeps.holdLimitOver (h : Keeps s₀ s) (c : Chan) : Keeps s₀ (holdLimitOver c s) := by
  simp only [Machine.holdLimitOver]; split
  · exact h
  · exact ((h.reach _).endDrive c).arbitrate

theorem Keeps.recoveryOver (h : Keeps s₀ s) (c : Chan) : Keeps s₀ (recoveryOver c s) := by
  simp only [Machine.recoveryOver]; split
  · exact ((h.reach _).becomeIdle c).arbitrate
  · exact h

theorem Keeps.kickAccrualDue (h : Keeps s₀ s) (c : Chan) : Keeps s₀ (kickAccrualDue c s) := by
  simp only [Machine.kickAccrualDue]; split
  · exact Keeps.ite _ ((h.reach _).kickMs c) h
  · exact h

theorem Keeps.holdAccrualDue (h : Keeps s₀ s) (c : Chan) : Keeps s₀ (holdAccrualDue c s) := by
  simp only [Machine.holdAccrualDue]; split
  · exact ((h.reach _).holdMs c).arbitrate
  · exact h

theorem Keeps.coolingTick (h : Keeps s₀ s) : Keeps s₀ (cool s) := by
  have ticked := (h.reach s.clocks.cooling).setClocks { s.clocks with cooling := s.clocks.cooling + 16 * Config.msTime }
  have cooled := (ticked.forChans fun c _ hs => hs.chargeBefore s.clocks.cooling c).forChans (f := coolChannel)
    fun c _ hs => hs.setHeat c _
  have derated := (cooled.forChans fun c _ hs => hs.lowerHold c).forChans fun c _ hs => hs.raiseHold c
  exact (Keeps.ite _ derated.callPass derated).arbitrate

theorem Keeps.staleOver (h : Keeps s₀ s) (c : Chan) (k : Cls) : Keeps s₀ (staleOver c k s) := by
  simp only [Machine.staleOver]; split
  · exact h
  · split
    · exact h
    · rename_i e _ _ ends _
      have left : Keeps s₀ (withoutStale e (s.reach ends)) := ((h.reach _).filterQueue _).countDropped
      exact (Keeps.ite _ (left.setWaiting _ none) left).callPass.handOver.arbitrate

theorem Keeps.intervalOver (h : Keeps s₀ s) (k : TrainNo) : Keeps s₀ (intervalOver k s) := by
  simp only [Machine.intervalOver]; split
  · exact h
  · split
    · exact h
    · refine (Keeps.intervalCompared ?_ k).arbitrate
      split
      · exact ((h.reach _).setTrain _ _).reelCheck _ _ _
      · exact (h.reach _).setTrain _ _

theorem Keeps.verifyOver (h : Keeps s₀ s) (k : TrainNo) : Keeps s₀ (verifyOver k s) := by
  simp only [Machine.verifyOver]; split
  · exact h
  · split
    · exact ((((h.reach _).verifyReel _ _ _).markVerified k).bankTest _).arbitrate
    · exact h

theorem Keeps.trainSettleOver (h : Keeps s₀ s) (k : TrainNo) : Keeps s₀ (trainSettleOver k s) := by
  simp only [Machine.trainSettleOver]; split
  · exact h
  · split
    · exact h
    · exact ((h.reach _).enterWait _ _).arbitrate

theorem Keeps.holdoffOver (h : Keeps s₀ s) (r : RuleNo) : Keeps s₀ (holdoffOver r s) := by
  simp only [Machine.holdoffOver]; split
  · exact h
  · exact (h.reach _).setHoldoff _ _

/-! ### Samples and readings of the coils and the node -/

theorem Keeps.openTest (h : Keeps s₀ s) (c : Chan) (v : Byte) : Keeps s₀ (openTest c v s) := by
  simp only [Machine.openTest]; split
  · exact Keeps.ite _ h (Keeps.ite _ (h.setGuard id) (h.setGuard id))
  · exact h

theorem Keeps.shortTest (h : Keeps s₀ s) (c : Chan) (v : Byte) : Keeps s₀ (shortTest c v s) := by
  have run : Keeps s₀ (s.setGuard c { s.guards[c] with shortRun := shortRunAfter s c v }) := h.setGuard id
  exact Keeps.ite _ (run.lockChannel _ _) run

theorem Keeps.takeDriveSample (h : Keeps s₀ s) (v : Byte) : Keeps s₀ (takeDriveSample v s) := by
  simp only [Machine.takeDriveSample]; split
  · exact h
  · rename_i c _
    have turn : Keeps s₀ (takeTurn c s) := h.same rfl
    exact ((turn.openTest _ v).shortTest _ v).arbitrate

theorem Keeps.takeUndrivenSample (h : Keeps s₀ s) (c : Chan) (v : Byte) : Keeps s₀ (takeUndrivenSample c v s) := by
  have turn := (h.reach (undrivenTime s c)).setClocks { s.clocks with undriven := undrivenTime s c + 1 }
  have run := turn.setGuard (c := c) (x := { s.guards[c] with leakRun := leakRunAfter s c v }) id
  exact Keeps.ite _ h (Keeps.ite _ (run.trip _ _).arbitrate run)

theorem Keeps.takeSupply (h : Keeps s₀ s) (v : Byte) : Keeps s₀ (takeSupply v s) := by
  have read : ∀ (n : Nat) (x : Clocks) (y : Monitor) (b : Bool), y.trips = s.mon.trips → y.hotCount = s.mon.hotCount →
      Keeps s₀ (Machine.setLatchIf b .sag (((s.reach n).setClocks x).setMon y)) := fun n x y b ht hh =>
    (((h.reach n).setClocks x).setMon (x := y) ht.trans_le hh.trans_le).setLatchIf b .sag
  refine Keeps.arbitrate (Keeps.ite _ (Keeps.trip ?called _ _) ?called)
  exact Keeps.ite _ (Keeps.callPass (read _ _ _ _ rfl rfl)) (read _ _ _ _ rfl rfl)

/-- The trip-temperature count stops at 255 (R136). -/
theorem hotCountAfter_le (s : State) (v : Byte) : hotCountAfter s v ≤ 255 := by
  rw [hotCountAfter]
  split
  · exact saturate_le _
  · exact Nat.zero_le _

theorem Keeps.takeTemperature (h : Keeps s₀ s) (v : Byte) : Keeps s₀ (takeTemperature v s) := by
  have read : ∀ (n : Nat) (x : Clocks) (y : Monitor) (b : Bool), y.trips = s.mon.trips → y.hotCount = hotCountAfter s v →
      Keeps s₀ (Machine.setLatchIf b .warm (((s.reach n).setClocks x).setMon y)) := fun n x y b ht hh =>
    (((h.reach n).setClocks x).setMon (x := y) ht.trans_le fun _ => hh.trans_le (hotCountAfter_le s v)).setLatchIf b .warm
  refine Keeps.ite _ (Keeps.arbitrate (Keeps.trip ?taken _ _)) ?taken
  exact read _ _ _ _ rfl rfl

/-! ### Power-on and the lamp clocks -/

theorem queueInOrder_reset : QueueInOrder State.reset := ⟨Nat.zero_le _, List.Pairwise.nil, List.Pairwise.nil⟩

theorem countsWithin_reset : CountsWithin State.reset := by
  refine ⟨Nat.zero_le _, Nat.zero_le _, Nat.zero_le _, Nat.zero_le _, Nat.zero_le _, fun i => ?_, fun c => ?_⟩
  all_goals
    simp only [State.reset, Fin.getElem_fin, Vector.getElem_replicate]
    exact Nat.zero_le _

theorem keeps_powerOn (straps : BitVec 4) (levels : BitVec 32) (s₀ s : State) : Keeps s₀ (powerOn straps levels s) := by
  have reset : Keeps s₀ State.reset := ⟨fun _ => queueInOrder_reset, fun _ => countsWithin_reset⟩
  have strapped : Keeps s₀ (State.reset.setPort { State.reset.port with address := straps }) := reset.same rfl
  have sampled := strapped.foldl (f := fun r i => r.setInput i (firstInput levels i.val))
    (fun _ _ hs => hs.setInput fun _ => Nat.zero_le _) (List.finRange 32)
  have queued : ∀ t : State, Keeps s₀ t → Keeps s₀ { t with pending := s.pending } := fun _ ht => ht.same rfl
  exact queued _ sampled

theorem Keeps.chase (h : Keeps s₀ s) (r : RingNo) : Keeps s₀ (chase r s) := by
  have restarted : ∀ (t : State) (x : Ring), Keeps s₀ t → Keeps s₀ (t.setRing r x) := fun _ _ ht => ht.same rfl
  simp only [Machine.chase]; split
  · exact h
  · exact restarted _ _ ((h.reach _).moveRing r 1)

theorem Keeps.changeHalf (h : Keeps s₀ s) : Keeps s₀ (changeHalf s) := by
  have reached := h.reach s.blink.ends
  exact Keeps.ite _ (reached.same rfl) (reached.same rfl)

/-! ### The commands -/

/-- Every command keeps the queue in order and the counts in range. -/
theorem Keeps.exec (h : Keeps s₀ s) (i : Instr) : ∃ t, exec i s = .next t ∧ Keeps s₀ t := by
  have order : ∀ f : Head, Keeps s₀ (Machine.orderFrame i f (Machine.act i) s) := h.orderFrame (fun _ hs => hs.act i) i
  cases i
  case powerOnReset => exact ⟨_, rfl, keeps_powerOn _ _ s₀ s⟩
  case frame => exact ⟨_, rfl, h.portFrame _⟩
  case frameAbandoned =>
    refine ⟨_, rfl, ?_⟩
    split
    · exact h.abandonedFrame _
    · exact h
    · exact h
    · exact h
  case sweep => exact ⟨_, rfl, h.sweepFrame _ _ _ _ _⟩
  case silenceExpiry => exact ⟨_, rfl, h.silenceOver⟩
  case settleExpiry => exact ⟨_, rfl, h.settleOver⟩
  case inputSample => exact ⟨_, rfl, h.sampleInputs _⟩
  case kickTimerExpiry => exact ⟨_, rfl, h.kickOver _⟩
  case holdLimitExpiry => exact ⟨_, rfl, h.holdLimitOver _⟩
  case recoveryExpiry => exact ⟨_, rfl, h.recoveryOver _⟩
  case kickAccrual => exact ⟨_, rfl, h.kickAccrualDue _⟩
  case holdAccrual => exact ⟨_, rfl, h.holdAccrualDue _⟩
  case coolingTick => exact ⟨_, rfl, h.coolingTick⟩
  case staleTimerExpiry => exact ⟨_, rfl, h.staleOver _ _⟩
  case intervalExpiry => exact ⟨_, rfl, h.intervalOver _⟩
  case verifyExpiry => exact ⟨_, rfl, h.verifyOver _⟩
  case trainSettleExpiry => exact ⟨_, rfl, h.trainSettleOver _⟩
  case holdoffExpiry => exact ⟨_, rfl, h.holdoffOver _⟩
  case driveSample => exact ⟨_, rfl, h.takeDriveSample _⟩
  case shortLock => exact ⟨_, rfl, Keeps.ite _ (h.takeDriveSample _) h⟩
  case openLock => exact ⟨_, rfl, Keeps.ite _ (h.kickOver _) h⟩
  case undrivenSample => exact ⟨_, rfl, h.takeUndrivenSample _ _⟩
  case leakTrip => exact ⟨_, rfl, Keeps.ite _ (h.takeUndrivenSample _ _) h⟩
  case supplyReading => exact ⟨_, rfl, h.takeSupply _⟩
  case sagSet => exact ⟨_, rfl, Keeps.ite _ (h.takeSupply _) h⟩
  case sagClear => exact ⟨_, rfl, Keeps.ite _ (h.takeSupply _) h⟩
  case supplyFloorTrip => exact ⟨_, rfl, Keeps.ite _ (h.takeSupply _) h⟩
  case temperatureReading => exact ⟨_, rfl, h.takeTemperature _⟩
  case heatTrip => exact ⟨_, rfl, Keeps.ite _ (h.takeTemperature _) h⟩
  case strobeSlot => exact ⟨_, rfl, h.same rfl⟩
  case blinkHalfChange => exact ⟨_, rfl, h.changeHalf⟩
  case chaseExpiry => exact ⟨_, rfl, h.chase _⟩
  case queryNodeSettings | queryCoil | queryInput | queryRule | queryBank | queryCounterUnit | queryRing | queryChannelStatus |
      queryQueueSnapshot | queryTrainStatus | queryBankStatus | queryCounterStatus | queryIdentity | queryMonitor | queryLampImage =>
    exact ⟨_, rfl, h.queryFrame _ _ _⟩
  all_goals exact ⟨_, rfl, order _⟩

end

/-- Every step, a command or an idle microsecond, keeps the queue in order and the counts in range. -/
theorem step_keeps {s t : State} (hs : step s = .next t) : Keeps s t := by
  rw [step] at hs
  split at hs
  · cases hs
    exact (Keeps.refl s).same rfl
  · rename_i c rest _
    have front : Keeps s { s with pending := rest } := (Keeps.refl s).same rfl
    obtain ⟨u, hu, kept⟩ := front.exec c
    obtain rfl : u = t := by
      rw [hu] at hs
      exact Host.Outcome.next.inj hs
    exact kept

/-- Settles O9: the walk over the commands for the order of the queue and the ranges of the counts together. -/
theorem stepsKeepTheQueueAndTheCounts : Obligations.StepsKeepTheQueueAndTheCounts := by
  unfold Obligations.StepsKeepTheQueueAndTheCounts
  exact ⟨fun _ _ hs h => (step_keeps h).order hs, fun _ _ hs h => (step_keeps h).counts hs⟩

end Sys2Proof.Machine
end

section
/-! SUPPORT. Work on every input in turn, and what a sample makes of each input (R65, R66, R69, R71). -/

namespace Sys2Proof.Machine

set_option Elab.async false

/-! ### Work on every input -/

/-- Every input changed by its number and by what it was. -/
def State.mapInputs (g : InputNo → Input → Input) (s : State) : State :=
  { s with inputs := Vector.ofFn fun i : InputNo => g i s.inputs[i] }

section
variable {g : InputNo → Input → Input} {s : State}

theorem mapInputs_get (g : InputNo → Input → Input) (s : State) (i : InputNo) :
    (s.mapInputs g).inputs[i] = g i s.inputs[i] := by
  simp [State.mapInputs]

/-- Changing the inputs in turn, each by what it then is, changes each by what it was at first. -/
theorem foldl_changeInput (g : InputNo → Input → Input) (s : State) :
    (List.finRange 32).foldl (fun s i => s.setInput i (g i s.inputs[i])) s = s.mapInputs g := by
  have first : ∀ (l : List InputNo) (t : State), l.Nodup → (∀ i ∈ l, t.inputs[i] = s.inputs[i]) →
      l.foldl (fun s i => s.setInput i (g i s.inputs[i])) t = l.foldl (fun t i => t.setInput i (g i s.inputs[i])) t := by
    intro l
    induction l with
    | nil => exact fun _ _ _ => rfl
    | cons i l ih =>
      intro t hd ht
      obtain ⟨hi, hl⟩ := List.nodup_cons.mp hd
      rw [List.foldl_cons, List.foldl_cons, ht i List.mem_cons_self]
      refine ih _ hl fun j hj => ?_
      have apart : j ≠ i := fun e => hi (e ▸ hj)
      rw [State.setInput_inputs, getElem_set_other _ _ apart]
      exact ht j (List.mem_cons_of_mem _ hj)
  rw [first _ s (List.nodup_finRange 32) fun _ _ => rfl, foldl_setInput]
  rfl

end

/-! ### One input at a sample -/

theorem classTime_eq (x : Input) : classTime x.debounce = timeFor x := by
  rw [timeFor]
  cases x.debounce <;> rfl

section
variable {x : Input} {high : Bool} {first t : Nat}

/-- An input whose reading is its level is settled (R65). -/
theorem sample_of_agreeing (h : (high == x.closedHigh) = x.closed) : x.sample high t = (false, { x with raw := high, since := none }) := by
  exact if_pos h

/-- A settled input that reads otherwise begins a run (R65). -/
theorem sample_of_settled (h : (high == x.closedHigh) ≠ x.closed) (hs : x.since = none) :
    x.sample high t = (false, { x with raw := high, since := some t }) := by
  refine (if_neg h).trans ?_
  simp only [hs]

/-- A run shorter than the class time goes on (R66). -/
theorem sample_of_short_run (h : (high == x.closedHigh) ≠ x.closed) (hs : x.since = some first) (ht : t - first < timeFor x) :
    x.sample high t = (false, { x with raw := high }) := by
  refine (if_neg h).trans ?_
  simp only [hs, classTime_eq, if_pos ht]

/-- A run that has lasted the class time makes the edge (R66). -/
theorem sample_of_long_run (h : (high == x.closedHigh) ≠ x.closed) (hs : x.since = some first) (ht : timeFor x ≤ t - first) :
    x.sample high t = (true, { x with raw := high, since := none }) := by
  refine (if_neg h).trans ?_
  simp only [hs, classTime_eq, if_neg (Nat.not_lt.mpr ht)]

/-- An input makes no edge where it reads its level or its run is shorter than the class time. -/
theorem sample_no_edge (h : (high == x.closedHigh) = x.closed ∨ ∀ first, x.since = some first → t - first < timeFor x) :
    (x.sample high t).1 = false := by
  by_cases agrees : (high == x.closedHigh) = x.closed
  · rw [sample_of_agreeing agrees]
  · have short := h.resolve_left agrees
    cases hs : x.since with
    | none => rw [sample_of_settled agrees hs]
    | some first => rw [sample_of_short_run agrees hs (short first hs)]

end

/-! ### The edge of an input as its consumers take it -/

/-- An input made to agree with its reading: its edge is made where it does not agree already. -/
def Input.follow (x : Input) (high : Bool) : Input := if x.closed = x.reading high then x else x.edge

theorem edge_of_open {x : Input} (h : x.closed = false) :
    x.edge = { x with closed := true, count := min 15 (x.count + 1), closeLatch := true } := by
  simp only [Input.edge, h, Bool.false_eq_true, if_false]

theorem edge_of_closed {x : Input} (h : x.closed = true) : x.edge = { x with closed := false, openLatch := true } := if_pos h

theorem edge_closed (x : Input) : x.edge.closed = !x.closed := by
  rw [Input.edge]
  cases x.closed <;> rfl

theorem edge_reading (x : Input) (high : Bool) : x.edge.reading high = x.reading high := by
  rw [Input.edge]
  cases x.closed <;> rfl

theorem follow_reading (x : Input) (high : Bool) : (x.follow high).reading high = x.reading high := by
  rw [Input.follow]
  split
  · rfl
  · exact edge_reading x high

theorem follow_closed (x : Input) (high : Bool) : (x.follow high).closed = x.reading high := by
  rw [Input.follow]
  split
  · assumption
  · rename_i h
    rw [edge_closed]
    exact Bool.not_eq.mpr h

theorem follow_of_closed {x : Input} {high : Bool} (h : x.closed = x.reading high) : x.follow high = x := if_pos h

theorem follow_of_not_closed {x : Input} {high : Bool} (h : x.closed ≠ x.reading high) : x.follow high = x.edge := if_neg h

theorem follow_follow (x : Input) (high : Bool) : (x.follow high).follow high = x.follow high :=
  follow_of_closed ((follow_closed x high).trans (follow_reading x high).symm)

section
variable (levels : BitVec 32)

/-- A delivery: the input follows its reading, and the consumer takes the edge to that level (R69). -/
theorem deliverEdge_eq (d : InputNo × Consumer) (s : State) :
    deliverEdge levels d s = deliver d.1 (s.inputs[d.1].reading (levels.getLsbD d.1.val)) d.2
      (s.setInput d.1 (s.inputs[d.1].follow (levels.getLsbD d.1.val))) := by
  simp only [deliverEdge, Input.follow]
  split
  · rw [State.setInput, set_self]
  · rfl

theorem deliver_inputs (i : InputNo) (close : Bool) (y : Consumer) (s : State) : (deliver i close y s).inputs = s.inputs :=
  congrArg Loaded.inputs (loaded_deliver s i close y)

theorem deliverEdge_input (d : InputNo × Consumer) (s : State) (i : InputNo) :
    (deliverEdge levels d s).inputs[i] = if d.1 = i then s.inputs[i].follow (levels.getLsbD i.val) else s.inputs[i] := by
  rw [deliverEdge_eq, deliver_inputs, State.setInput_inputs]
  by_cases h : d.1 = i
  · subst h
    rw [if_pos rfl, getElem_set_same]
  · rw [if_neg h, getElem_set_other _ _ fun e => h e.symm]

theorem foldl_deliverEdge_input (l : List (InputNo × Consumer)) (s : State) (i : InputNo) :
    (l.foldl (fun s d => deliverEdge levels d s) s).inputs[i] =
      if i ∈ l.map Prod.fst then s.inputs[i].follow (levels.getLsbD i.val) else s.inputs[i] := by
  induction l generalizing s with
  | nil => simp
  | cons d l ih =>
    rw [List.foldl_cons, ih, deliverEdge_input, List.map_cons]
    by_cases here : d.1 = i
    · have named : i ∈ d.1 :: l.map Prod.fst := here ▸ List.mem_cons_self
      rw [if_pos here, if_pos named, follow_follow, ite_self]
    · have same : i ∈ d.1 :: l.map Prod.fst ↔ i ∈ l.map Prod.fst := List.mem_cons.trans (or_iff_right fun e => here e.symm)
      simp only [if_neg here, same]

end

theorem mem_consumers (y : Consumer) : y ∈ consumers := by cases y <;> decide

/-- The deliveries name an input exactly where it makes an edge. -/
theorem mem_map_deliveries {edges : List InputNo} {order : List (InputNo × Consumer)} {i : InputNo} :
    i ∈ (deliveries edges order).map Prod.fst ↔ i ∈ edges := by
  have each : ∀ d : InputNo × Consumer, d ∈ edges.flatMap (fun i => consumers.map fun x => (i, x)) ↔ d.1 ∈ edges := by
    rintro ⟨j, y⟩
    simp [mem_consumers]
  have all : ∀ d : InputNo × Consumer, d ∈ deliveries edges order ↔ d.1 ∈ edges := by
    intro d
    simp only [deliveries, List.mem_append, List.mem_filter, List.contains_iff_mem, Bool.not_eq_true', ← Bool.not_eq_true, each]
    tauto
  rw [List.mem_map]
  constructor
  · rintro ⟨d, hd, rfl⟩
    exact (all d).mp hd
  · exact fun h => ⟨(i, .ruleEngine), (all _).mpr h, rfl⟩

/-! ### The sample of all inputs -/

/-- The clock and the sampling timer at a sample (R65, R66). -/
def State.sampling (s : State) : State :=
  { s with now := max s.now s.clocks.sample, clocks := { s.clocks with sample := s.clocks.sample + 250 } }

/-- A sample once every input is debounced and before an edge is made. -/
def State.debounced (levels : BitVec 32) (s : State) : State :=
  s.sampling.mapInputs fun i x => (x.sample (levels.getLsbD i.val) s.clocks.sample).2

section
variable (x : Sample) (s : State)

theorem sampleInputs_eq :
    sampleInputs x s = (deliveries (edgesAt x.levels s.clocks.sample s) x.order).foldl (fun s d => deliverEdge x.levels d s)
      (s.debounced x.levels) :=
  congrArg (List.foldl _ · _)
    (foldl_changeInput (fun i y => (y.sample (x.levels.getLsbD i.val) s.clocks.sample).2) s.sampling)

theorem debounced_input (levels : BitVec 32) (i : InputNo) :
    (s.debounced levels).inputs[i] = (s.inputs[i].sample (levels.getLsbD i.val) s.clocks.sample).2 :=
  mapInputs_get _ s.sampling i

theorem mem_edgesAt {levels : BitVec 32} {t : Nat} {i : InputNo} :
    i ∈ edgesAt levels t s ↔ (s.inputs[i].sample (levels.getLsbD i.val) t).1 = true := by
  simp [edgesAt]

/-- What a sample makes of an input: its debounce, and its edge where it makes one (R66). -/
theorem sampleInputs_input {i : InputNo} {edge : Bool} {y : Input}
    (h : s.inputs[i].sample (x.levels.getLsbD i.val) s.clocks.sample = (edge, y)) :
    (sampleInputs x s).inputs[i] = if edge = true then y.follow (x.levels.getLsbD i.val) else y := by
  rw [sampleInputs_eq, foldl_deliverEdge_input, debounced_input]
  simp only [mem_map_deliveries, mem_edgesAt, h]

theorem sampleInputs_input_of_long_run {i : InputNo} {first : Nat}
    (h : (x.levels.getLsbD i.val == s.inputs[i].closedHigh) ≠ s.inputs[i].closed) (hs : s.inputs[i].since = some first)
    (ht : timeFor s.inputs[i] ≤ s.clocks.sample - first) :
    (sampleInputs x s).inputs[i] = Input.edge { s.inputs[i] with raw := x.levels.getLsbD i.val, since := none } :=
  (sampleInputs_input x s (sample_of_long_run h hs ht)).trans (follow_of_not_closed fun e => h e.symm)

theorem edgesAt_of_none {levels : BitVec 32} {t : Nat}
    (h : ∀ i : InputNo, (s.inputs[i].sample (levels.getLsbD i.val) t).1 = false) : edgesAt levels t s = [] :=
  List.filter_eq_nil_iff.mpr fun i _ => by rw [h i]; exact Bool.false_ne_true

/-- A sample at which no input makes an edge is debounce alone. -/
theorem sampleInputs_of_no_edge (h : edgesAt x.levels s.clocks.sample s = []) : sampleInputs x s = s.debounced x.levels := by
  have none : deliveries [] x.order = [] := by simp [deliveries]
  rw [sampleInputs_eq, h, none]
  rfl

end

/-- Settles O44: the five cases of the debounce of one input, and the edge that the last two make. -/
theorem samplesDebounceEveryInput : Obligations.SamplesDebounceEveryInput := by
  unfold Obligations.SamplesDebounceEveryInput
  intro x s
  refine ⟨sampleInputs x s, rfl, fun i => ?_, fun still => ?_⟩
  · intro u high reads
    refine ⟨fun h => sampleInputs_input x s (sample_of_agreeing h), fun h hs => sampleInputs_input x s (sample_of_settled h hs),
      fun first h hs ht => sampleInputs_input x s (sample_of_short_run h hs ht), fun first h hs ht hr => ?_,
      fun first h hs ht hr => ?_⟩
    · have wasOpen : u.closed = false := Bool.eq_false_iff.mpr fun hc => h (hr.trans hc.symm)
      exact (sampleInputs_input_of_long_run x s h hs ht).trans (edge_of_open wasOpen)
    · have wasClosed : u.closed = true := Bool.eq_true_of_not_eq_false fun hc => h (hr.trans hc.symm)
      exact (sampleInputs_input_of_long_run x s h hs ht).trans (edge_of_closed wasClosed)
  · rw [sampleInputs_of_no_edge x s (edgesAt_of_none s fun i => sample_no_edge (still i))]
    rfl

end Sys2Proof.Machine
end

section
/-! SUPPORT. The frames that carry the inputs: ClearCounts, the input query, damaged and abandoned frames and the sweep (R72 to R74, R153 to R158). -/

namespace Sys2Proof.Machine

set_option Elab.async false

/-! ### The end of a good frame, in every node state -/

section
variable {s : State} {f : Head}

/-- A good frame end changes nothing of the port but the silence timer (R156, R159, R167). -/
theorem goodFrameEnd_port (s : State) : ∃ silence, (goodFrameEnd s).port = { s.port with silence := silence } := by
  rw [goodFrameEnd]
  cases s.node.st with
  | chainLost => exact ⟨none, (port_of_beyondDrives (beyondDrives_standDown .safe s) :)⟩
  | arming | live => exact ⟨_, rfl⟩
  | safe | quiet | tripped => exact ⟨s.port.silence, rfl⟩

/-- A frame in good order is acted on after what its end does, at a node with an address (R156). -/
theorem plainFrame_good {bytes : List Byte} {act : State → State} (hd : f.damage = 0) (ha : s.port.address ≠ 0) :
    plainFrame bytes f act s = arbitrate (act (goodFrameEnd (s.setDownstream bytes))) := by
  have named : (s.setDownstream bytes).port.address ≠ 0 := ha
  simp only [plainFrame, frameEnd, if_neg named, if_pos hd]

theorem addressed_of_dest (ha : s.port.address ≠ 0) (hto : f.dest = 0 ∨ f.dest = s.port.address.setWidth 8) :
    addressed s f = true := by
  rw [addressed, bne_iff_ne.mpr ha, Bool.true_and, Bool.or_eq_true, beq_iff_eq, beq_iff_eq]
  exact hto

/-- A good frame that asks for nothing goes downstream and leaves the inputs alone. -/
theorem plainFrame_downstream {bytes : List Byte} (hd : f.damage = 0) (ha : s.port.address ≠ 0) :
    (plainFrame bytes f id s).port.downstream = bytes := by
  obtain ⟨silence, hp⟩ := goodFrameEnd_port (s.setDownstream bytes)
  rw [plainFrame_good hd ha, (kept_arbitrate _).port, id, hp]
  rfl

end

/-! ### ClearCounts (R73) -/

theorem clearCountsOf_eq (mask : BitVec 32) (s : State) :
    clearCountsOf mask s = s.mapInputs fun i x => if inMask mask i then x.cleared else x := by
  have each : (fun (s : State) (i : InputNo) => if inMask mask i then s.setInput i s.inputs[i].cleared else s) =
      fun s i => s.setInput i (if inMask mask i then s.inputs[i].cleared else s.inputs[i]) := by
    funext s i
    split
    · rfl
    · rw [State.setInput, set_self]
  rw [clearCountsOf, each]
  exact foldl_changeInput (fun i x => if inMask mask i then x.cleared else x) s

/-- Settles O30: the inputs of the mask are cleared one by one, after the end of a good frame, which no input notices. -/
theorem clearCountsClearsItsInputs : Obligations.ClearCountsClearsItsInputs := by
  unfold Obligations.ClearCountsClearsItsInputs
  intro f mask s hd ha hto
  have run : exec (.clearCounts f mask) s =
      .next (arbitrate (clearCountsOf mask (goodFrameEnd (s.setDownstream (encodeFrame (.clearCounts f mask)))))) := by
    change Host.Outcome.next (orderFrame (.clearCounts f mask) f (clearCountsOf mask) s) = _
    rw [orderFrame, addressed_of_dest ha hto, if_pos rfl, plainFrame_good hd ha]
  have inputs : (goodFrameEnd (s.setDownstream (encodeFrame (.clearCounts f mask)))).inputs = s.inputs :=
    congrArg Loaded.inputs (loaded_goodFrameEnd _)
  refine ⟨_, run, fun i => ?_, ?_, fun hs hp => ?_⟩
  · rw [(kept_arbitrate _).inputs, clearCountsOf_eq, mapInputs_get, inputs]
    rfl
  · obtain ⟨silence, hport⟩ := goodFrameEnd_port (s.setDownstream (encodeFrame (.clearCounts f mask)))
    rw [(kept_arbitrate _).port, clearCountsOf_eq, State.mapInputs, hport]
    rfl
  · have due : (clearCountsOf mask (heard (encodeFrame (.clearCounts f mask)) s)).passDue = false := by
      rw [clearCountsOf_eq]; exact hp
    rw [goodFrameEnd_eq _ s hs, arbitrate_of_not_due due, clearCountsOf_eq]
    rfl

/-! ### The input query (R74, R157) -/

/-- What is written within the length of a payload replaces what stood there. -/
theorem overwrite_of_le {at_ : Nat} {new old : List Byte} (h : at_ + new.length ≤ old.length) :
    overwrite at_ new old = old.take at_ ++ new ++ old.drop (at_ + new.length) := by
  refine List.take_of_length_le ?_
  simp only [List.length_append, List.length_take, List.length_drop]
  omega

/-- A query to the node's own address, answered within its payload. -/
theorem querySent_own {f : Head} {k n : Byte} {rest written : List Byte} {answer : Answerer} {s : State} (hd : f.damage = 0)
    (ha : s.port.address ≠ 0) (hto : f.dest = s.port.address.setWidth 8) (hr : rest ≠ [])
    (hw : answerBytes (some answer) s n (rest.length + 2) = written) (hl : written.length ≤ rest.length) :
    let head := [0xD2, f.dest, 4, f.tag, BitVec.ofNat 8 (rest.length + 2)]
    let payload := [k, n] ++ (written ++ rest.drop written.length)
    querySent f (k :: n :: rest) (some answer) s = head ++ [crc8 head] ++ payload ++ halfBytes (crc16 payload) := by
  intro head payload
  have own : answersQuery s f = true := by rw [answersQuery, bne_iff_ne.mpr ha, ownAddress, hto, beq_self_eq_true]; rfl
  have answered : answeredPayload (some answer) s (k :: n :: rest).length (k :: n :: rest) = payload := by
    have fits : 2 + written.length ≤ (k :: n :: rest).length := by simp only [List.length_cons]; omega
    have after : (k :: n :: rest).drop (2 + written.length) = rest.drop written.length := by
      rw [Nat.add_comm]; rfl
    change overwrite 2 (answerBytes (some answer) s n (rest.length + 2)) (k :: n :: rest) = payload
    rw [hw, overwrite_of_le fits, after]
    rfl
  have wrote : decide (3 ≤ (k :: n :: rest).length) = true := by
    have := List.length_pos_iff.mpr hr
    simp only [List.length_cons, decide_eq_true_eq]
    omega
  rw [querySent, if_pos own, answered, wrote, sentFrame, sentCheck, if_pos hd]
  rfl

theorem answerInput_of_val {n : Byte} {i : InputNo} (h : n.toNat = i.val) (s : State) :
    let x := s.inputs[i]
    answerInput s n = .ok [n, if x.closedHigh then 1 else 0, debounceCode x.debounce, if x.closed then 1 else 0,
      if x.since.isSome then 1 else 0, BitVec.ofNat 8 x.count, if x.closeLatch then 1 else 0, if x.openLatch then 1 else 0] := by
  intro x
  rw [answerInput, numbered_of_val h, inputAnswer, inputRec, byteOf_of_val h]
  rfl

theorem answerBytes_of_ok {answer : Answerer} {s : State} {n : Byte} {record : List Byte} {len : Nat} (h : answer s n = .ok record)
    (hl : 3 + record.length ≤ len) : answerBytes (some answer) s n len = 0 :: record := by
  have room : ¬ len < 3 := by omega
  simp only [answerBytes, if_neg room, h, if_pos hl]

theorem answerBytes_of_error {answer : Answerer} {s : State} {n : Byte} {why : Reason} {len : Nat} (h : answer s n = .error why)
    (hl : 3 ≤ len) : answerBytes (some answer) s n len = [reasonCode why] := by
  simp only [answerBytes, if_neg (Nat.not_lt.mpr hl), h]

/-- Settles O38: the record of an input that exists, Range for any other, and the frame that carries either. -/
theorem inputQueriesReportAndClearNothing : Obligations.InputQueriesReportAndClearNothing := by
  unfold Obligations.InputQueriesReportAndClearNothing
  refine ⟨rfl, rfl, rfl, fun n s => ⟨fun h => numbered_of_ge h s, fun i h => answerInput_of_val h s, fun f rest => ?_, ?_⟩⟩
  · exact ⟨_, rfl, congrArg Loaded.inputs (loaded_queryFrame s f (3 :: n :: rest) (some answerInput))⟩
  · intro f _ _ rest hd ha hto hlen
    have asks : rest ≠ [] := fun h => by rw [h] at hlen; cases hlen
    have sent : ∀ written, answerBytes (some answerInput) s n (rest.length + 2) = written → written.length ≤ 9 →
        (queryFrame f (3 :: n :: rest) (some answerInput) s).port.downstream = _ := fun written hw hl =>
      (plainFrame_downstream hd ha).trans (querySent_own (k := 3) hd ha hto asks hw (hlen ▸ hl))
    let check := crc8 [0xD2, f.dest, 4, f.tag, 11]
    by_cases hn : n.toNat ≤ 31
    · obtain ⟨record, answer, size⟩ : ∃ record, answerInput s n = .ok record ∧ record.length = 8 :=
        ⟨_, answerInput_of_val (i := ⟨n.toNat, by omega⟩) rfl s, rfl⟩
      have written := answerBytes_of_ok (len := rest.length + 2) answer (by omega)
      have filled : rest.drop (0 :: record).length = [] := List.drop_eq_nil_of_le (by simp [size, hlen])
      refine ⟨_, record, check, rfl, by rw [if_pos hn]; exact answer, (sent _ written (by simp [size])).trans ?_⟩
      rw [if_pos hn, hlen, filled, List.append_nil]
      rfl
    · have answer : answerInput s n = .error .range := numbered_of_ge (by omega) s
      have written := answerBytes_of_error (len := rest.length + 2) answer (by omega)
      refine ⟨_, [], check, rfl, by rw [if_neg hn]; exact answer, (sent _ written (by decide)).trans ?_⟩
      rw [if_neg hn, hlen]
      rfl

end Sys2Proof.Machine
end

section
/-! SUPPORT. The pending record of a sweep, abandoned and damaged frames, and the sweep itself (R72, R153 to R155, R158). -/

namespace Sys2Proof.Machine

set_option Elab.async false

/-! ### The pending record (R72) -/

theorem getElem_map {α β : Type} {n : Nat} (v : Vector α n) (g : α → β) (i : Fin n) : (v.map g)[i] = g v[i] := by
  simp

section
variable {s : State}

theorem settlePending_passed {r : Vector Report 32} (h : s.reported = some r) :
    settlePending true s = { s with reported := none } := by
  simp only [settlePending, h, if_true]

theorem settlePending_failed {r : Vector Report 32} (h : s.reported = some r) :
    settlePending false s = State.mapInputs (fun i x => x.returned r[i]) { s with reported := none } := by
  simp only [settlePending, h, Bool.false_eq_true, if_false]
  exact foldl_changeInput (fun i x => x.returned r[i]) { s with reported := none }

theorem returned_cleared {x : Input} (h : x.count ≤ 15) : x.cleared.returned x.report = x := by
  have count : min 15 (x.count + 0) = x.count := by omega
  simp only [Input.returned, Input.cleared, Input.report, count, Bool.or_false]

/-- A record that is returned as it was taken leaves the inputs as they were. -/
theorem settlePending_moveToPending (h : ∀ i : InputNo, s.inputs[i].count ≤ 15) :
    settlePending false (moveToPending s) = { s with reported := none } := by
  have back : ∀ i : InputNo, (s.inputs.map Input.cleared)[i].returned (s.inputs.map Input.report)[i] = s.inputs[i] := fun i => by
    rw [getElem_map, getElem_map, returned_cleared (h i)]
  have inputs : (settlePending false (moveToPending s)).inputs = s.inputs := by
    rw [settlePending_failed rfl]
    exact Vector.ext fun i hi => (mapInputs_get _ _ ⟨i, hi⟩).trans (back ⟨i, hi⟩)
  have rest : settlePending false (moveToPending s) =
      { s with reported := none, inputs := (settlePending false (moveToPending s)).inputs } := by
    rw [settlePending_failed rfl]
    rfl
  rw [rest, inputs]

end

/-! ### Frames that fail (R154, R155) -/

section
variable {s : State}

theorem arrival_badHeader {dest kind tag len check : Byte} (rest : List Byte)
    (h : check ≠ crc8 [0xD2, dest, kind, tag, len] ∨ 240 < len.toNat) :
    arrival ([0xD2, dest, kind, tag, len, check] ++ rest) = .badHeader :=
  if_pos h

theorem arrival_cut {dest kind tag len : Byte} {body : List Byte} (hl : len.toNat ≤ 240) (hb : body.length < len.toNat + 2) :
    arrival ([0xD2, dest, kind, tag, len, crc8 [0xD2, dest, kind, tag, len]] ++ body) = .cut := by
  have good : ¬ (crc8 [0xD2, dest, kind, tag, len] ≠ crc8 [0xD2, dest, kind, tag, len] ∨ 240 < len.toNat) := by
    rintro (h | h)
    · exact h rfl
    · omega
  have short : (body.drop len.toNat).length < 2 := by rw [List.length_drop]; omega
  refine (if_neg good).trans ?_
  match body.drop len.toNat, short with
  | [], _ => rfl
  | [_], _ => rfl
  | _ :: _ :: _, h => simp only [List.length_cons] at h; omega

theorem badHeaderFrame_eq {bytes : List Byte} (ha : s.port.address ≠ 0) :
    badHeaderFrame bytes s = damaged (badHeaderSent s bytes) s := if_neg ha

theorem badHeaderSent_eq {dest kind tag len check : Byte} (rest : List Byte) (ha : s.port.address ≠ 0) :
    badHeaderSent s ([0xD2, dest, kind, tag, len, check] ++ rest) =
      if kind = 3 ∧ dest = s.port.address.setWidth 8 then
        [0xD2, dest, 4, tag, len, ~~~(crc8 [0xD2, dest, 4, tag, len])] ++ rest
      else [0xD2, dest, kind, tag, len, check] ++ rest := by
  have own : (kind = 3 ∧ s.port.address ≠ 0 ∧ dest = ownAddress s) ↔ (kind = 3 ∧ dest = s.port.address.setWidth 8) := by
    simp only [ne_eq, ha, not_false_eq_true, true_and, ownAddress]
  simp only [badHeaderSent, List.cons_append, List.nil_append, own]

/-- What was received of a frame that is no query and no sweep goes downstream as it came (R153). -/
theorem abandonedSent_eq {dest kind tag len check : Byte} (body : List Byte) (hq : kind ≠ 3) (hs : kind ≠ 5) :
    abandonedSent s ([0xD2, dest, kind, tag, len, check] ++ body) = [0xD2, dest, kind, tag, len, check] ++ body := by
  have own : (kind == 3) = false := beq_eq_false_iff_ne.mpr hq
  simp only [abandonedSent, List.cons_append, List.nil_append, own, abandonedPayload, if_neg hq, if_neg hs, Bool.false_and,
    Bool.false_eq_true, if_false, List.take_append_drop]

theorem slotBegun_of_kind {dest kind tag len check : Byte} {body : List Byte} (hs : kind ≠ 5) :
    slotBegun s ([0xD2, dest, kind, tag, len, check] ++ body) = false := by
  have other : (kind == 5) = false := beq_eq_false_iff_ne.mpr hs
  simp only [slotBegun, List.cons_append, List.nil_append, other, Bool.false_and]

theorem execFrameAbandoned_of_cut {bytes : List Byte} (h : arrival bytes = .cut) :
    exec (.frameAbandoned bytes) s = .next (abandonedFrame bytes s) := by
  change Host.Outcome.next _ = _
  rw [h]

/-- An abandoned frame without a slot begun is damage alone (R155). -/
theorem abandonedFrame_without_slot {bytes : List Byte} (ha : s.port.address ≠ 0) (hs : slotBegun s bytes = false) :
    abandonedFrame bytes s = damaged (abandonedSent s bytes) s := by
  simp only [abandonedFrame, if_neg ha, hs, Bool.false_eq_true, if_false]
  rfl

/-- One with a slot begun has its pending record returned besides (R72). -/
theorem abandonedFrame_with_slot {bytes : List Byte} (ha : s.port.address ≠ 0) (hs : slotBegun s bytes = true)
    (hr : s.reported = none) (hc : ∀ i : InputNo, s.inputs[i].count ≤ 15) :
    abandonedFrame bytes s = damaged (abandonedSent s bytes) s := by
  have back : settlePending false (moveToPending (s.setDownstream (abandonedSent s bytes))) =
      s.setDownstream (abandonedSent s bytes) := by
    rw [settlePending_moveToPending (s := s.setDownstream (abandonedSent s bytes)) hc, ← hr]
    rfl
  simp only [abandonedFrame, if_neg ha, hs, if_true, back]
  rfl

/-- Settles O13: what goes downstream of each frame that fails, and the damage that is all it leaves. -/
theorem badAndAbandonedFramesAreCounted : Obligations.BadAndAbandonedFramesAreCounted := by
  unfold Obligations.BadAndAbandonedFramesAreCounted
  refine ⟨?_, ?_, ?_⟩
  · intro dest kind tag len check rest s ha h
    change Host.Outcome.next (portFrame _ s) = _
    rw [portFrame, arrival_badHeader rest h]
    exact congrArg _ ((badHeaderFrame_eq ha).trans (congrArg (damaged · s) (badHeaderSent_eq rest ha)))
  · intro dest kind tag len body s ha hq hs hl hb bytes
    rw [execFrameAbandoned_of_cut (arrival_cut hl hb), abandonedFrame_without_slot ha (slotBegun_of_kind hs),
      abandonedSent_eq body hq hs]
  · intro bytes s hcut ha hr hc
    refine ⟨_, execFrameAbandoned_of_cut hcut, ?_⟩
    cases hs : slotBegun s bytes with
    | false => rw [abandonedFrame_without_slot ha hs]; rfl
    | true => rw [abandonedFrame_with_slot ha hs hr hc]; rfl

end

end Sys2Proof.Machine
end

section
/-! SUPPORT. What the delivery of an edge leaves alone, and the sweep with the samples that fall within it (R69, R72, R84 to R88, R158). -/

namespace Sys2Proof.Machine

set_option Elab.async false

/-! ### The requests of the rules -/

/-- What the requests of rules leave alone: what lies beyond the drives, the refusal record apart. -/
def State.beyondRequests (s : State) : State := { s.beyondDrives with port := {} }

theorem beyondRequests_of_beyondDrives {s t : State} (h : t.beyondDrives = s.beyondDrives) : t.beyondRequests = s.beyondRequests := by
  simp only [State.beyondRequests, h]

theorem beyondRequests_of_beyondTrains {s t : State} (h : t.beyondTrains = s.beyondTrains) : t.beyondRequests = s.beyondRequests :=
  beyondRequests_of_beyondDrives (beyondDrives_of_beyondTrains h)

/-- The holdoff that a rule starts as it fires (R82). -/
def startHoldoff (n : RuleNo) (s : State) : State :=
  if s.rules[n].holdoff = 0 then s else s.setHoldoff n (some (s.now + s.rules[n].holdoff * 1000))

theorem reported_of_beyondRequests {s t : State} (h : t.beyondRequests = s.beyondRequests) : t.reported = s.reported :=
  (congrArg State.reported h :)

/-- The direction of a step. -/
def stepDir (count : Int) : Dir := if 0 < count then .up else .down

section
variable {who : Asker} {u : UnitNo} {count : Int} {s : State}

theorem limit_eq (x : CounterUnit) (d : Dir) : (if d = .up then x.top else x.zero) = x.limit d := by cases d <;> rfl

/-- A step away from a limit that reads open: refused, or handed to the Train Engine (R120, R121). -/
def stepFromLimit (who : Asker) (u : UnitNo) (d : Dir) (m : Nat) (s : State) : State :=
  match stepRefusal s u d m with
  | some why => refuse who why s
  | none => takeStep u d m s

theorem requestStep_eq (who : Asker) (u : UnitNo) (count : Int) (s : State) :
    requestStep who u count s =
      if (!s.units[u].inUse) = true then refuse who .range s
      else if s.closedByte (s.units[u].limit (stepDir count)) = true then refuse who .atLimit (atLimit u (stepDir count) s)
      else stepFromLimit who u (stepDir count) count.natAbs s := by
  rw [← limit_eq]
  rfl

theorem requestStep_unused (hu : s.units[u].inUse = false) : requestStep who u count s = refuse who .range s := by
  rw [requestStep_eq, hu]
  rfl

theorem requestStep_at_limit (hu : s.units[u].inUse = true) (hl : s.closedByte (s.units[u].limit (stepDir count)) = true) :
    requestStep who u count s = refuse who .atLimit (atLimit u (stepDir count) s) := by
  rw [requestStep_eq, hu, hl]
  rfl

theorem requestStep_from_limit (hu : s.units[u].inUse = true) (hl : s.closedByte (s.units[u].limit (stepDir count)) = false) :
    requestStep who u count s = stepFromLimit who u (stepDir count) count.natAbs s := by
  rw [requestStep_eq, hu, hl]
  rfl

end

section
variable (n : RuleNo) (s : State)

theorem beyondRequests_requestStep (who : Asker) (u : UnitNo) (count : Int) :
    (requestStep who u count s).beyondRequests = s.beyondRequests := by
  rw [requestStep_eq, stepFromLimit]
  repeat' split
  · rfl
  · rfl
  · rfl
  · exact beyondRequests_of_beyondTrains (beyondTrains_takeStep s _ _ _)

theorem beyondRequests_requestAdd (who : Asker) (b : BankNo) (v : Nat) :
    (requestAdd who b v s).beyondRequests = s.beyondRequests := by
  simp only [requestAdd]
  split
  · rfl
  · exact beyondRequests_of_beyondTrains (beyondTrains_takeAdd s b v)

theorem beyondRequests_makeRequest : (makeRequest n s).beyondRequests = s.beyondRequests := by
  simp only [makeRequest]
  repeat' split
  · rfl
  · rfl
  · exact beyondRequests_of_beyondTrains (beyondTrains_submitPulse s _ _ _ _ _)
  · rfl
  · exact beyondRequests_of_beyondDrives (beyondDrives_submitFlip s _ _)
  · rfl
  · exact beyondRequests_requestStep s _ _ _
  · rfl
  · exact beyondRequests_requestAdd s _ _ _

theorem fireRule_eq : fireRule n s = arbitrate (makeRequest n (startHoldoff n s)) := rfl

theorem beyondRequests_fireRule : (fireRule n s).beyondRequests = (startHoldoff n s).beyondRequests := by
  rw [fireRule_eq, beyondRequests_of_beyondDrives (beyondDrives_arbitrate _), beyondRequests_makeRequest]

end

/-! ### The pending record and the address while samples are taken -/

theorem fireRule_reported (n : RuleNo) (s : State) : (fireRule n s).reported = s.reported := by
  rw [reported_of_beyondRequests (beyondRequests_fireRule n s), startHoldoff]
  split <;> rfl

theorem deliver_reported (i : InputNo) (close : Bool) (y : Consumer) (s : State) : (deliver i close y s).reported = s.reported := by
  cases y with
  | ruleEngine =>
    refine foldl_view (v := State.reported) (fun t n => ?_) _ s
    split
    · exact fireRule_reported n t
    · rfl
  | channelDrivers =>
    simp only [deliver]
    rw [(kept_arbitrate _).reported]
    exact reported_of_beyondRequests (beyondRequests_of_beyondDrives (beyondDrives_channelsEdge s i close))
  | unitLogic =>
    simp only [deliver]
    rw [(kept_arbitrate _).reported]
    split
    · exact reported_of_beyondRequests (beyondRequests_of_beyondTrains (beyondTrains_unitsClosed s i))
    · rfl
  | nodeState =>
    simp only [deliver, nodeClosed]
    rw [(kept_arbitrate _).reported]
    split
    · split <;> rfl
    · rfl

theorem sampleInputs_reported (x : Sample) (s : State) : (sampleInputs x s).reported = s.reported := by
  rw [sampleInputs_eq]
  refine foldl_view (fun t d => ?_) _ (s.debounced x.levels)
  rw [deliverEdge_eq, deliver_reported]
  rfl

theorem sampleInputs_address (x : Sample) (s : State) : (sampleInputs x s).port.address = s.port.address := by
  obtain ⟨inputs, h⟩ := loaded_sampleInputs s x
  exact congrArg Loaded.address h

/-- The samples that fall within a frame. -/
def State.sampled (during : List Sample) (s : State) : State := during.foldl (fun v x => sampleInputs x v) s

theorem sampled_reported (during : List Sample) (s : State) : (s.sampled during).reported = s.reported :=
  foldl_view (fun t x => sampleInputs_reported x t) during s

theorem sampled_address (during : List Sample) (s : State) : (s.sampled during).port.address = s.port.address :=
  foldl_view (v := fun t => t.port.address) (fun t x => sampleInputs_address x t) during s

/-! ### The sweep (R158) -/

theorem sweepSlot_length (s : State) : (sweepSlot s).length = 32 := by
  simp [sweepSlot, halfBytes, mask32Bytes, countBytes]

section
variable {f : Head} {a c : Byte} {slots : List Byte} {s : State}

/-- The node's slot stands within the slots of a well-formed sweep whose range takes in its address. -/
theorem slot_fits (hs : slots.length = 32 * c.toNat)
    (hm : a.toNat ≤ s.port.address.toNat ∧ s.port.address.toNat < a.toNat + c.toNat) : slotPlace s a + 32 ≤ slots.length := by
  rw [slotPlace, hs]
  omega

theorem writesSlot_iff (hd : f.dest = 0) (ha : s.port.address ≠ 0) (h₁ : 1 ≤ c.toNat) (h₂ : c.toNat ≤ 7)
    (hs : slots.length = 32 * c.toNat) :
    writesSlot s f a c slots = true ↔ a.toNat ≤ s.port.address.toNat ∧ s.port.address.toNat < a.toNat + c.toNat := by
  have shape : sweepShape f c slots = true := by simp [sweepShape, hd, h₁, h₂, hs]
  rw [writesSlot, bne_iff_ne.mpr ha, shape, Bool.true_and, Bool.true_and, Bool.and_eq_true, decide_eq_true_eq, decide_eq_true_eq]

/-- The bytes of a sweep that carries the node's slot, its payload check right or wrong. -/
def slotFrame (f : Head) (a c : Byte) (slots : List Byte) (s : State) : List Byte :=
  let payload := [a, c] ++ slots.take (slotPlace s a) ++ sweepSlot s ++ slots.drop (slotPlace s a + 32)
  let head := [0xD2, 0, 5, f.tag, BitVec.ofNat 8 (slots.length + 2)]
  head ++ [crc8 head] ++ payload ++ halfBytes (if f.damage = 0 then crc16 payload else ~~~(crc16 payload))

theorem sweepSent_of_writes (hd : f.dest = 0) (hw : writesSlot s f a c slots = true) (hfit : slotPlace s a + 32 ≤ slots.length) :
    sweepSent f a c slots s = slotFrame f a c slots s := by
  have written : overwrite (slotPlace s a) (sweepSlot s) slots =
      slots.take (slotPlace s a) ++ sweepSlot s ++ slots.drop (slotPlace s a + 32) := by
    rw [overwrite_of_le (by rw [sweepSlot_length]; exact hfit), sweepSlot_length]
  have header : headerBytes 5 f ([a, c] ++ slots) = [0xD2, 0, 5, f.tag, BitVec.ofNat 8 (slots.length + 2)] := by
    rw [headerBytes, hd]; rfl
  rw [sweepSent, if_pos hw, sentFrame, header, written, if_pos rfl, slotFrame, sentCheck]
  simp only [List.append_assoc]

theorem sweepSent_of_not_writes (hw : ¬ writesSlot s f a c slots = true) :
    sweepSent f a c slots s = encodeFrame (.sweep f a c slots []) := if_neg hw

/-- A sweep that is not for the node is a frame that asks for nothing, after the samples that fall within it. -/
theorem execSweep_of_not_writes (during : List Sample) (hw : ¬ writesSlot s f a c slots = true) :
    exec (.sweep f a c slots during) s =
      .next (plainFrame (encodeFrame (.sweep f a c slots [])) f id (s.sampled during)) := by
  change Host.Outcome.next (sweepFrame f a c slots during s) = _
  simp only [sweepFrame, sweepSent_of_not_writes hw, if_neg hw]
  rfl

theorem execSweep_of_writes (during : List Sample) (hd : f.dest = 0) (hw : writesSlot s f a c slots = true)
    (hfit : slotPlace s a + 32 ≤ slots.length) :
    exec (.sweep f a c slots during) s =
      .next (plainFrame (slotFrame f a c slots s) f id (settlePending (f.damage == 0) ((moveToPending s).sampled during))) := by
  change Host.Outcome.next (sweepFrame f a c slots during s) = _
  simp only [sweepFrame, sweepSent_of_writes hd hw hfit, hw, if_true]
  rfl

theorem slotFrame_good (hg : f.damage = 0) :
    let head := [0xD2, 0, 5, f.tag, BitVec.ofNat 8 (slots.length + 2)]
    let payload := [a, c] ++ slots.take (slotPlace s a) ++ sweepSlot s ++ slots.drop (slotPlace s a + 32)
    slotFrame f a c slots s = head ++ [crc8 head] ++ payload ++ halfBytes (crc16 payload) := by
  simp only [slotFrame, if_pos hg]

theorem slotFrame_bad (hb : f.damage ≠ 0) :
    let head := [0xD2, 0, 5, f.tag, BitVec.ofNat 8 (slots.length + 2)]
    let payload := [a, c] ++ slots.take (slotPlace s a) ++ sweepSlot s ++ slots.drop (slotPlace s a + 32)
    slotFrame f a c slots s = head ++ [crc8 head] ++ payload ++ halfBytes (~~~(crc16 payload)) := by
  simp only [slotFrame, if_neg hb]

end

section
variable {f : Head} {w : State} {r : Vector Report 32}

/-- At a good end the record is discarded, and the edges of the samples within the frame are left (R72). -/
theorem sweep_good_end (bytes : List Byte) (hr : w.reported = some r) (ha : w.port.address ≠ 0) (hg : f.damage = 0)
    (hc : w.node.st ≠ .chainLost) (hp : w.passDue = false) :
    plainFrame bytes f id (settlePending (f.damage == 0) w) = { heard bytes w with reported := none } := by
  rw [beq_iff_eq.mpr hg, settlePending_passed hr]
  exact plainFrame_id hg ha hc hp

theorem mapInputs_discard (g : InputNo → Input → Input) (w : State) :
    State.mapInputs g { w with reported := none } = { w with inputs := (w.mapInputs g).inputs, reported := none } := rfl

/-- At a damaged one it is returned, and added to the edges of the samples within the frame (R72). -/
theorem sweep_damaged_end (bytes : List Byte) (hr : w.reported = some r) (ha : w.port.address ≠ 0) (hb : f.damage ≠ 0) :
    ∃ t, plainFrame bytes f id (settlePending (f.damage == 0) w) = t ∧
      t = { damaged bytes w with inputs := t.inputs, reported := none } ∧ ∀ i : InputNo, t.inputs[i] = w.inputs[i].returned r[i] := by
  have run : plainFrame bytes f id (settlePending (f.damage == 0) w) =
      { damaged bytes w with inputs := (w.mapInputs fun i x => x.returned r[i]).inputs, reported := none } := by
    rw [beq_eq_false_iff_ne.mpr hb, settlePending_failed hr, mapInputs_discard]
    exact plainFrame_damaged hb ha
  exact ⟨_, run, rfl, fun i => mapInputs_get (fun i x => x.returned r[i]) w i⟩

end

/-- Settles O41: the bytes of a sweep with and without the node's slot, and its end, good or damaged, after the samples within it. -/
theorem sweepsCarryTheSlot : Obligations.SweepsCarryTheSlot := by
  unfold Obligations.SweepsCarryTheSlot
  intro f a c slots s hd ha h₁ h₂ hs place head payload good bad mine
  have writes : writesSlot s f a c slots = true ↔ mine := writesSlot_iff hd ha h₁ h₂ hs
  have carried : ∀ (during : List Sample), mine → exec (.sweep f a c slots during) s = _ := fun during hm =>
    execSweep_of_writes during hd (writes.mpr hm) (slot_fits hs hm)
  have forwarded : ∀ (during : List Sample), ¬ mine → exec (.sweep f a c slots during) s = _ := fun during hm =>
    execSweep_of_not_writes during (mt writes.mp hm)
  have goodBytes : f.damage = 0 → slotFrame f a c slots s = good := slotFrame_good
  have badBytes : f.damage ≠ 0 → slotFrame f a c slots s = bad := slotFrame_bad
  have pending : ∀ during, ((moveToPending s).sampled during).reported = some (s.inputs.map Input.report) := fun during =>
    sampled_reported during (moveToPending s)
  have address : ∀ during, ((moveToPending s).sampled during).port.address ≠ 0 := fun during =>
    (sampled_address during (moveToPending s)).trans_ne ha
  refine ⟨fun hm hg hc hp => ?_, fun hm hb hcount => ?_, ?_⟩
  · refine ⟨_, (carried [] hm).trans (congrArg _ (sweep_good_end _ (pending []) (address []) hg hc hp)), ?_,
      fun i => getElem_map _ Input.cleared i⟩
    rw [goodBytes hg]
    rfl
  · rw [carried [] hm, badBytes hb, beq_eq_false_iff_ne.mpr hb]
    have back : settlePending false ((moveToPending s).sampled []) = { s with reported := none } :=
      settlePending_moveToPending hcount
    rw [back]
    exact congrArg _ (plainFrame_damaged hb ha)
  · intro during sampled moved u v
    refine ⟨fun hm hg hc hp => ?_, fun hm hb => ?_, fun hm hg hc hp => ?_, fun hm hb => ?_⟩
    · rw [carried during hm, goodBytes hg]
      exact congrArg _ (sweep_good_end good (pending during) (address during) hg hc hp)
    · obtain ⟨t, run, rest, inputs⟩ := sweep_damaged_end bad (pending during) (address during) hb
      refine ⟨t, ?_, rest, fun i => (inputs i).trans ?_⟩
      · rw [carried during hm, badBytes hb]
        exact congrArg _ run
      · rw [getElem_map]
        rfl
    · rw [forwarded during hm]
      exact congrArg _ (plainFrame_id hg ((sampled_address during s).trans_ne ha) hc hp)
    · rw [forwarded during hm]
      exact congrArg _ (plainFrame_damaged hb ((sampled_address during s).trans_ne ha))

end Sys2Proof.Machine
end

section
/-! SUPPORT. The delivery of a sample's only edge, and the Rule Engine's taking of an edge rule by rule (R66, R69, R80 to R83). -/

namespace Sys2Proof.Machine

set_option Elab.async false

/-! ### The only edge of a sample -/

/-- Four consumers without doubles are all of them. -/
theorem perm_consumers {order : List Consumer} (hd : order.Nodup) (hl : order.length = 4) : order.Perm consumers :=
  (hd.subperm fun y _ => mem_consumers y).perm_of_length_le hl.ge

/-- The deliveries of one edge are those the sample names where it names all four. -/
theorem deliveries_single {i : InputNo} {order : List Consumer} (hd : order.Nodup) (hl : order.length = 4) :
    deliveries [i] (order.map fun y => (i, y)) = order.map fun y => (i, y) := by
  have all : [i].flatMap (fun i => consumers.map fun y => (i, y)) = consumers.map fun y => (i, y) := List.append_nil _
  have same := (perm_consumers hd hl).map fun y => (i, y)
  have named : (order.map fun y => (i, y)).filter (fun d => (consumers.map fun y => (i, y)).contains d) = order.map fun y => (i, y) :=
    List.filter_eq_self.mpr fun d h => List.contains_iff_mem.mpr (same.mem_iff.mp h)
  have rest : (consumers.map fun y => (i, y)).filter (fun d => !(order.map fun y => (i, y)).contains d) = [] :=
    List.filter_eq_nil_iff.mpr fun d h => by rw [List.contains_iff_mem.mpr (same.mem_iff.mpr h)]; exact Bool.false_ne_true
  rw [deliveries, all, named, rest, List.append_nil]

theorem edgesAt_single {levels : BitVec 32} {t : Nat} {i : InputNo} {s : State}
    (here : (s.inputs[i].sample (levels.getLsbD i.val) t).1 = true)
    (others : ∀ j : InputNo, j ≠ i → (s.inputs[j].sample (levels.getLsbD j.val) t).1 = false) : edgesAt levels t s = [i] := by
  refine List.perm_singleton.mp ((List.perm_ext_iff_of_nodup ((List.nodup_finRange 32).filter _) (List.nodup_singleton i)).mpr ?_)
  intro j
  rw [List.mem_singleton]
  refine (mem_edgesAt s).trans ⟨fun h => ?_, fun h => h ▸ here⟩
  by_contra hj
  rw [others j hj] at h
  cases h

section
variable {levels : BitVec 32} {i : InputNo} {s : State}

/-- A delivery of an input that agrees with its reading is the taking of the edge alone. -/
theorem deliverEdge_made (y : Consumer) (h : s.inputs[i].closed = s.inputs[i].reading (levels.getLsbD i.val)) :
    deliverEdge levels (i, y) s = deliver i (s.inputs[i].reading (levels.getLsbD i.val)) y s := by
  rw [deliverEdge_eq]
  simp only [follow_of_closed h]
  rw [State.setInput, set_self]

theorem foldl_deliverEdge_made (order : List Consumer) (h : s.inputs[i].closed = s.inputs[i].reading (levels.getLsbD i.val)) :
    (order.map fun y => (i, y)).foldl (fun s d => deliverEdge levels d s) s =
      order.foldl (fun t y => deliver i (s.inputs[i].reading (levels.getLsbD i.val)) y t) s := by
  induction order generalizing s with
  | nil => rfl
  | cons y order ih =>
    have same : (deliver i (s.inputs[i].reading (levels.getLsbD i.val)) y s).inputs = s.inputs := deliver_inputs i _ y s
    rw [List.map_cons, List.foldl_cons, List.foldl_cons, deliverEdge_made y h]
    refine (ih ?_).trans ?_
    · rw [same]; exact h
    · rw [same]

/-- The state a sample hands to the consumers of its only edge. -/
def edgeMade (levels : BitVec 32) (i : InputNo) (s : State) : State := s.setInput i (s.inputs[i].follow (levels.getLsbD i.val))

theorem edgeMade_input : (edgeMade levels i s).inputs[i] = s.inputs[i].follow (levels.getLsbD i.val) := getElem_set_same _ _ _

theorem edgeMade_made : (edgeMade levels i s).inputs[i].closed = (edgeMade levels i s).inputs[i].reading (levels.getLsbD i.val) := by
  rw [edgeMade_input, follow_closed, follow_reading]

/-- The edge is made before the first consumer takes it (R69). -/
theorem deliverEdge_first (y : Consumer) : deliverEdge levels (i, y) s = deliverEdge levels (i, y) (edgeMade levels i s) := by
  rw [deliverEdge_made y edgeMade_made, edgeMade_input, follow_reading]
  exact deliverEdge_eq levels (i, y) s

/-- The consumers of a sample's only edge take it in the order the sample names, each finding the new level (R69). -/
theorem foldl_deliverEdge_single {order : List Consumer} (hl : order.length = 4) :
    (order.map fun y => (i, y)).foldl (fun s d => deliverEdge levels d s) s =
      order.foldl (fun t y => deliver i (s.inputs[i].reading (levels.getLsbD i.val)) y t) (edgeMade levels i s) := by
  have reads : (edgeMade levels i s).inputs[i].reading (levels.getLsbD i.val) = s.inputs[i].reading (levels.getLsbD i.val) := by
    rw [edgeMade_input, follow_reading]
  rw [← reads, ← foldl_deliverEdge_made order edgeMade_made]
  cases order with
  | nil => cases hl
  | cons y order => rw [List.map_cons, List.foldl_cons, List.foldl_cons, deliverEdge_first]

end

theorem sampleInputs_of_single {x : Sample} {i : InputNo} {order : List Consumer} {s : State}
    (he : edgesAt x.levels s.clocks.sample s = [i]) (hd : order.Nodup) (hl : order.length = 4)
    (ho : x.order = order.map fun y => (i, y)) :
    sampleInputs x s =
      order.foldl (fun t y => deliver i ((s.debounced x.levels).inputs[i].reading (x.levels.getLsbD i.val)) y t)
        (edgeMade x.levels i (s.debounced x.levels)) := by
  rw [sampleInputs_eq, he, ho, deliveries_single hd hl, foldl_deliverEdge_single hl]

theorem edgeMade_rest (levels : BitVec 32) (i : InputNo) (s : State) :
    edgeMade levels i s = { s with inputs := (edgeMade levels i s).inputs } := rfl

theorem debounced_rest (levels : BitVec 32) (s : State) :
    s.debounced levels = { s with inputs := (s.debounced levels).inputs, now := max s.now s.clocks.sample,
                                  clocks := { s.clocks with sample := s.clocks.sample + 250 } } := rfl

/-- The sample and the edge change the inputs, the clock and the sampling timer alone (R65, R66). -/
theorem edgeMade_debounced (levels : BitVec 32) (i : InputNo) (s : State) :
    edgeMade levels i (s.debounced levels) =
      { s with inputs := (edgeMade levels i (s.debounced levels)).inputs, now := max s.now s.clocks.sample,
               clocks := { s.clocks with sample := s.clocks.sample + 250 } } := by
  refine (edgeMade_rest levels i _).trans ?_
  generalize (edgeMade levels i (s.debounced levels)).inputs = inputs
  rw [debounced_rest]

section
variable {x : Sample} {i : InputNo} {first : Nat} {s : State}

/-- An input that has read otherwise for the class time is debounced to its new reading, its edge still to be made (R66). -/
theorem debounced_reading (h : (x.levels.getLsbD i.val == s.inputs[i].closedHigh) ≠ s.inputs[i].closed) (hs : s.inputs[i].since = some first)
    (ht : timeFor s.inputs[i] ≤ s.clocks.sample - first) :
    (s.debounced x.levels).inputs[i].reading (x.levels.getLsbD i.val) = (x.levels.getLsbD i.val == s.inputs[i].closedHigh) := by
  rw [debounced_input, sample_of_long_run h hs ht]
  rfl

/-- Where no other input makes an edge it is the sample's only one. -/
theorem edgesAt_of_long_run (h : (x.levels.getLsbD i.val == s.inputs[i].closedHigh) ≠ s.inputs[i].closed)
    (hs : s.inputs[i].since = some first) (ht : timeFor s.inputs[i] ≤ s.clocks.sample - first)
    (others : ∀ j : InputNo, j ≠ i → (x.levels.getLsbD j.val == s.inputs[j].closedHigh) = s.inputs[j].closed ∨
      ∀ f, s.inputs[j].since = some f → s.clocks.sample - f < timeFor s.inputs[j]) :
    edgesAt x.levels s.clocks.sample s = [i] := by
  refine edgesAt_single ?_ fun j hj => sample_no_edge (others j hj)
  rw [sample_of_long_run h hs ht]

end

/-! ### The rules that fire -/

/-- That a rule fires on an edge, as the manual has it (R80 to R82). -/
def FiresOn (s : State) (i : InputNo) (close : Bool) (n : RuleNo) : Prop :=
  s.rules[n].trigger = i ∧ s.rules[n].onClose = close ∧ s.rules[n].action ≠ .inert ∧
    (s.node.st = .live ∨ (s.node.st = .chainLost ∧ s.rules[n].persistent = true)) ∧
    s.armed.getLsbD s.rules[n].group.val = true ∧ s.holdoffs[n] = none

theorem evaluated_iff {s : State} {r : Rule} (h : r.action ≠ .inert) :
    evaluated s r = true ↔ s.node.st = .live ∨ (s.node.st = .chainLost ∧ r.persistent = true) := by
  cases hs : s.node.st <;> simp [evaluated, hs, h]

theorem fires_iff {s : State} {n : RuleNo} {i : InputNo} {close : Bool} : fires s n i close = true ↔ FiresOn s i close n := by
  have parts : fires s n i close = true ↔
      s.rules[n].trigger = i ∧ s.rules[n].onClose = close ∧ s.rules[n].action ≠ .inert ∧ evaluated s s.rules[n] = true ∧
        s.armed.getLsbD s.rules[n].group.val = true ∧ s.holdoffs[n] = none := by
    simp only [fires, Bool.and_eq_true, beq_iff_eq, bne_iff_ne, Option.isNone_iff_eq_none, and_assoc]
  rw [parts, FiresOn]
  constructor
  · rintro ⟨trigger, edge, live, eval, rest⟩
    exact ⟨trigger, edge, live, (evaluated_iff live).mp eval, rest⟩
  · rintro ⟨trigger, edge, live, eval, rest⟩
    exact ⟨trigger, edge, live, (evaluated_iff live).mpr eval, rest⟩

/-! ### The Rule Engine takes the rules in turn -/

/-- A rule considered at an edge (R83). -/
def considerRule (i : InputNo) (close : Bool) (s : State) (n : RuleNo) : State := if fires s n i close then fireRule n s else s

theorem rulesEdge_eq (i : InputNo) (close : Bool) (s : State) :
    rulesEdge i close s = (List.finRange 32).foldl (considerRule i close) s := rfl

/-- The rules and what decides which of them fire are the same, the holdoffs apart. -/
def SameRules (s t : State) : Prop := { t.beyondRequests with holdoffs := s.holdoffs } = s.beyondRequests

section
variable {i : InputNo} {close : Bool} {s t u : State} {n m : RuleNo}

theorem SameRules.refl (s : State) : SameRules s s := rfl

theorem SameRules.trans (a : SameRules s t) (b : SameRules t u) : SameRules s u := by
  have c := congrArg (fun v : State => { v with holdoffs := s.holdoffs }) b
  exact Eq.trans c a

theorem SameRules.rules (h : SameRules s t) : t.rules = s.rules := (congrArg State.rules h :)

theorem SameRules.node (h : SameRules s t) : t.node = s.node := (congrArg State.node h :)

theorem SameRules.armed (h : SameRules s t) : t.armed = s.armed := (congrArg State.armed h :)

theorem SameRules.now (h : SameRules s t) : t.now = s.now := (congrArg State.now h :)

theorem fires_congr (h : SameRules s t) (hn : t.holdoffs[n] = s.holdoffs[n]) : fires t n i close = fires s n i close := by
  simp only [fires, evaluated, h.rules, h.node, h.armed, hn]

theorem startHoldoff_holdoffs :
    (startHoldoff n s).holdoffs =
      if s.rules[n].holdoff = 0 then s.holdoffs else s.holdoffs.set n (some (s.now + s.rules[n].holdoff * 1000)) := by
  rw [startHoldoff]
  split <;> rfl

theorem startHoldoff_eq (n : RuleNo) (s : State) : startHoldoff n s = { s with holdoffs := (startHoldoff n s).holdoffs } := by
  rw [startHoldoff]
  split <;> rfl

theorem fireRule_holdoffs : (fireRule n s).holdoffs = (startHoldoff n s).holdoffs :=
  (congrArg State.holdoffs (beyondRequests_fireRule n s) :)

theorem sameRules_fireRule (n : RuleNo) (s : State) : SameRules s (fireRule n s) := by
  rw [SameRules, beyondRequests_fireRule, startHoldoff_eq]
  rfl

theorem fireRule_holdoff_other (h : m ≠ n) : (fireRule n s).holdoffs[m] = s.holdoffs[m] := by
  rw [fireRule_holdoffs, startHoldoff_holdoffs]
  split
  · rfl
  · exact getElem_set_other _ _ h

theorem considerRule_fires (h : FiresOn s i close n) : considerRule i close s n = fireRule n s := if_pos (fires_iff.mpr h)

theorem considerRule_not (h : ¬ FiresOn s i close n) : considerRule i close s n = s := if_neg (mt fires_iff.mp h)

theorem sameRules_considerRule (i : InputNo) (close : Bool) (s : State) (n : RuleNo) : SameRules s (considerRule i close s n) := by
  rw [considerRule]
  split
  · exact sameRules_fireRule n s
  · rfl

theorem considerRule_holdoff_other (h : m ≠ n) : (considerRule i close s n).holdoffs[m] = s.holdoffs[m] := by
  rw [considerRule]
  split
  · exact fireRule_holdoff_other h
  · rfl

theorem firesOn_congr (h : SameRules s t) (hn : t.holdoffs[n] = s.holdoffs[n]) : FiresOn t i close n ↔ FiresOn s i close n := by
  rw [← fires_iff, ← fires_iff, fires_congr h hn]

/-- The other rules' turns leave what decides whether a rule fires. -/
theorem turns_of_others {l : List RuleNo} (hl : ∀ m ∈ l, m ≠ n) (s : State) :
    SameRules s (l.foldl (considerRule i close) s) ∧ (l.foldl (considerRule i close) s).holdoffs[n] = s.holdoffs[n] :=
  foldl_mem_invariant (P := fun t => SameRules s t ∧ t.holdoffs[n] = s.holdoffs[n])
    (fun t m hm ⟨same, kept⟩ => ⟨same.trans (sameRules_considerRule i close t m),
      (considerRule_holdoff_other (hl m hm).symm).trans kept⟩) ⟨.refl s, rfl⟩

/-- The turn of one rule among those of the others. -/
theorem rulesEdge_at (i : InputNo) (close : Bool) (n : RuleNo) (s : State) :
    ∃ a b : List RuleNo, (∀ m ∈ a, m ≠ n) ∧ (∀ m ∈ b, m ≠ n) ∧
      rulesEdge i close s = b.foldl (considerRule i close) (considerRule i close (a.foldl (considerRule i close) s) n) := by
  obtain ⟨a, b, all, before, after⟩ := cut_at (List.mem_finRange n) (List.nodup_finRange 32)
  exact ⟨a, b, before, after, by rw [rulesEdge_eq, all, List.foldl_append, List.foldl_cons]⟩

/-- A rule that fires starts its holdoff (R82). -/
theorem rulesEdge_holdoff (h : FiresOn s i close n) (hr : s.rules[n].holdoff ≠ 0) :
    (rulesEdge i close s).holdoffs[n] = some (s.now + s.rules[n].holdoff * 1000) := by
  obtain ⟨a, b, ha, hb, run⟩ := rulesEdge_at i close n s
  obtain ⟨same, kept⟩ := turns_of_others (i := i) (close := close) ha s
  generalize a.foldl (considerRule i close) s = t at run same kept
  rw [run, (turns_of_others hb _).2, considerRule_fires ((firesOn_congr same kept).mpr h), fireRule_holdoffs, startHoldoff_holdoffs,
    same.rules, same.now, if_neg hr, getElem_set_same]

/-- Any other rule's holdoff stays (R82). -/
theorem rulesEdge_holdoff_kept (h : ¬ FiresOn s i close n ∨ s.rules[n].holdoff = 0) :
    (rulesEdge i close s).holdoffs[n] = s.holdoffs[n] := by
  obtain ⟨a, b, ha, hb, run⟩ := rulesEdge_at i close n s
  obtain ⟨same, kept⟩ := turns_of_others (i := i) (close := close) ha s
  generalize a.foldl (considerRule i close) s = t at run same kept
  rw [run, (turns_of_others hb _).2, ← kept]
  rcases h with h | h
  · rw [considerRule_not (mt (firesOn_congr same kept).mp h)]
  · by_cases hf : FiresOn t i close n
    · rw [considerRule_fires hf, fireRule_holdoffs, startHoldoff_holdoffs, same.rules, if_pos h]
    · rw [considerRule_not hf]

theorem rulesEdge_of_none (h : ∀ n : RuleNo, ¬ FiresOn s i close n) : rulesEdge i close s = s :=
  foldl_unchanged fun n _ => considerRule_not (h n)

/-- Where one rule alone fires the Rule Engine makes its request and no other (R81, R83). -/
theorem rulesEdge_of_alone (h : FiresOn s i close n) (ho : ∀ m : RuleNo, m ≠ n → ¬ FiresOn s i close m) :
    rulesEdge i close s = fireRule n s := by
  obtain ⟨a, b, ha, hb, run⟩ := rulesEdge_at i close n s
  have before : a.foldl (considerRule i close) s = s := foldl_unchanged fun m hm => considerRule_not (ho m (ha m hm))
  rw [run, before, considerRule_fires h]
  refine foldl_unchanged fun m hm => considerRule_not ?_
  exact mt (firesOn_congr (sameRules_fireRule n s) (fireRule_holdoff_other (hb m hm))).mp (ho m (hb m hm))

end

end Sys2Proof.Machine
end

section
/-! SUPPORT. The Pulse, Flip and Step requests of a rule that fires alone, to the end of the event (R56, R58, R84 to R86, R88). -/

namespace Sys2Proof.Machine

set_option Elab.async false

/-! ### The firing of a rule alone -/

/-- The state with the holdoff of a firing rule started (R82). -/
def heldOff (n : RuleNo) (s : State) : State :=
  { s with holdoffs := if s.rules[n].holdoff = 0 then s.holdoffs else s.holdoffs.set n (some (s.now + s.rules[n].holdoff * 1000)) }

theorem startHoldoff_heldOff (n : RuleNo) (s : State) : startHoldoff n s = heldOff n s := by
  rw [startHoldoff_eq, startHoldoff_holdoffs]
  rfl

/-- What a rule that fires alone makes of the edge: its request, and the end of the event (R81, R83). -/
theorem deliver_of_alone {i : InputNo} {close : Bool} {n : RuleNo} {s : State} (h : FiresOn s i close n)
    (ho : ∀ m : RuleNo, m ≠ n → ¬ FiresOn s i close m) :
    deliver i close .ruleEngine s = arbitrate (makeRequest n (heldOff n s)) := by
  change rulesEdge i close s = _
  rw [rulesEdge_of_alone h ho, fireRule_eq, startHoldoff_heldOff]

/-! ### Refusals -/

theorem arbitrate_refuse_rule {n : RuleNo} {why : Reason} {s : State} (hp : s.passDue = false) :
    arbitrate (refuse (.rule n) why s) = ruleRefused n why s := arbitrate_of_not_due hp

/-! ### A request alone in the queue -/

section
variable {e : Entry} {s : State} (hc : Calm s) (hp : s.passDue = false) (hr : s.node.relay = true)
include hc hp hr

/-- In a calm state a request that joins is the one entry that the end of the event walks (R55). -/
theorem arbitrate_alone :
    arbitrate (s.setQueue [e]).callPass = (walk [e] (s.setQueue [e])).2.setQueue (walk [e] (s.setQueue [e])).1 := by
  obtain ⟨-, hh⟩ := hc
  have unmarked : { (s.setQueue [e]).callPass with passDue := false } = s.setQueue [e] := clear_passDue (s := s.setQueue [e]) hp
  rw [arbitrate_walk (s := (s.setQueue [e]).callPass) hh rfl hr, unmarked]
  rfl

theorem alone_waits {w : Wait} (hf : find (s.setQueue [e]) e = .ineligible w) :
    arbitrate (s.setQueue [e]).callPass = { s with queue := [{ e with wait := w }] } := by
  rw [arbitrate_alone hc hp hr, walk_of_ineligible [] hf]
  rfl

theorem alone_over {k draw limit : Nat} (hf : find (s.setQueue [e]) e = .kick k draw limit) (hd : limit < draw) :
    arbitrate (s.setQueue [e]).callPass = { s with queue := [{ e with wait := .budget }] } := by
  rw [arbitrate_alone hc hp hr, walk_of_kick_over [] hf hd]
  rfl

theorem alone_granted {k draw limit : Nat} (hf : find (s.setQueue [e]) e = .kick k draw limit) (hd : draw ≤ limit) :
    arbitrate (s.setQueue [e]).callPass = (grantKick e k (s.setQueue [e])).setQueue [] := by
  rw [arbitrate_alone hc hp hr, walk_of_kick [] hf hd]
  rfl

end

/-! ### The Pulse of a rule (R84) -/

/-- The entry of a rule's request as it joins. -/
def ruleJoins (n : RuleNo) (c : Chan) (cls : Cls) (kind : EntryKind) (asked : Nat) (s : State) : Entry :=
  newEntry s c cls kind (.rule n) s.rules[n].persistent asked

section
variable {n : RuleNo} {c : Chan} {kick : Nat} {s : State} (ha : s.rules[n].action = .pulse c kick)
include ha

theorem rulePulse_refused {why : Reason} (hp : s.passDue = false) (hw : driveRefusal s c = some why) :
    arbitrate (makeRequest n s) = ruleRefused n why s := by
  have refused : makeRequest n s = refuse (.rule n) why s := by simp only [makeRequest, ha, hw]
  rw [refused, arbitrate_refuse_rule hp]

theorem rulePulse_joins (hw : driveRefusal s c = none) (hq : s.queue = []) :
    makeRequest n s = (s.setQueue [ruleJoins n c .rule .pulse (pulseKick s.coils[c] kick) s]).callPass := by
  simp only [makeRequest, ha, hw, submitPulse, submit, hq]
  rfl

section
variable (hw : driveRefusal s c = none) (hc : Calm s) (hp : s.passDue = false) (hr : s.node.relay = true)
include hw hc hp hr

theorem rulePulse_busy (hi : s.chans[c].act ≠ .idle) :
    arbitrate (makeRequest n s) =
      { s with queue := [{ ruleJoins n c .rule .pulse (pulseKick s.coils[c] kick) s with wait := .channelBusy }] } := by
  rw [rulePulse_joins ha hw hc.1]
  exact alone_waits hc hp hr (find_busy hi)

variable (hi : s.chans[c].act = .idle)
include hi

theorem rulePulse_weak
    (hk : kickFor s.coils[c] s.heat[c].q (pulseKick s.coils[c] kick) < min s.coils[c].kMin (pulseKick s.coils[c] kick)) :
    arbitrate (makeRequest n s) =
      { s with queue := [{ ruleJoins n c .rule .pulse (pulseKick s.coils[c] kick) s with wait := .heatWait }] } := by
  rw [rulePulse_joins ha hw hc.1]
  exact alone_waits hc hp hr ((find_pulse rfl hi).trans (if_neg (Nat.not_le.mpr hk)))

variable (hk : min s.coils[c].kMin (pulseKick s.coils[c] kick) ≤ kickFor s.coils[c] s.heat[c].q (pulseKick s.coils[c] kick))
include hk

theorem rulePulse_over (hb : budgetInForce s - s.settings.reserve < s.inUse + s.coils[c].p) :
    arbitrate (makeRequest n s) =
      { s with queue := [{ ruleJoins n c .rule .pulse (pulseKick s.coils[c] kick) s with wait := .budget }] } := by
  rw [rulePulse_joins ha hw hc.1]
  exact alone_over hc hp hr ((find_pulse rfl hi).trans (if_pos hk)) hb

theorem rulePulse_granted (hb : s.inUse + s.coils[c].p ≤ budgetInForce s - s.settings.reserve) :
    let given := kickFor s.coils[c] s.heat[c].q (pulseKick s.coils[c] kick)
    arbitrate (makeRequest n s) = { s with
      chans := s.chans.set c { s.chans[c] with
        act := .kicking { kind := .pulse, source := .rule n, persistent := s.rules[n].persistent, began := s.now, charged := 0 } given
          (s.now + given * 1000) }
      guards := s.guards.set c { s.guards[c] with verdict := .noneYet, shortRun := 0, leakRun := 0 }
      inUse := s.inUse + s.coils[c].p } := by
  intro given
  let e := ruleJoins n c .rule .pulse (pulseKick s.coils[c] kick) s
  have idle : (s.setQueue [e]).chans[c].driven = false := not_driven_of_idle hi
  have found : find (s.setQueue [e]) e = .kick given (s.inUse + s.coils[c].p) (budgetInForce s - s.settings.reserve) :=
    (find_pulse rfl hi).trans (if_pos hk)
  rw [rulePulse_joins ha hw hc.1, alone_granted hc hp hr found hb]
  change (beginKick c .pulse e given (s.setQueue [e])).setQueue [] = _
  rw [beginKick_starts idle]
  obtain ⟨hq, -⟩ := hc
  obtain ⟨⟩ := s
  subst hq
  rfl

end

end

/-! ### The Flip of a rule (R85) -/

section
variable {n : RuleNo} {c : Chan} {eos : Option InputNo} {mode : EosMode} {allowance : Nat} {s : State}

theorem flipRefusal_of_drive {why : Reason} (h : driveRefusal s c = some why) : flipRefusal s c = some why := by
  simp only [flipRefusal, h]

theorem flipRefusal_none (h : driveRefusal s c = none) (hr : s.chans[c].running? = none) : flipRefusal s c = none := by
  simp only [flipRefusal, h, hr]
  rfl

theorem flipRefusal_busy (h : driveRefusal s c = none) (hr : s.chans[c].running? ≠ none) : flipRefusal s c = some .busy := by
  simp only [flipRefusal, h, if_pos (Option.isSome_iff_ne_none.mpr hr)]

theorem running_of_idle {x : Channel} (h : x.act = .idle) : x.running? = none := by
  simp only [Channel.running?, Channel.drive?, h, Option.bind_none]

/-- A channel that a Flip drives is not LOCKED. -/
theorem not_locked_of_running {x : Channel} (h : x.running? ≠ none) : x.act ≠ .locked := fun hl =>
  h (by simp only [Channel.running?, Channel.drive?, hl, Option.bind_none])

theorem grantKick_flip {e : Entry} {ctx : FlipContext} {k : Nat} (he : e.kind = .flip)
    (hw : s.chans[e.channel].waiting = some ctx) : grantKick e k s = grantFlipKick e.channel ctx e k s := by
  simp only [grantKick, he, hw]

/-- What a pass finds for a rule's Flip on an IDLE channel whose end of stroke stands open (R31, R57). -/
theorem find_ruleFlip {e : Entry} {ctx : FlipContext} (q : List Entry) (he : e.kind = .flip) (hq : e.kReq = s.coils[e.channel].k)
    (hi : s.chans[e.channel].act = .idle) (hs : ¬ eosClosed s ctx = true)
    (hk : s.coils[e.channel].kMin ≤ kickFor s.coils[e.channel] s.heat[e.channel].q s.coils[e.channel].k) :
    find ((setWaiting e.channel (some ctx) s).setQueue q) e =
      .kick (kickFor s.coils[e.channel] s.heat[e.channel].q s.coils[e.channel].k) (s.inUse + s.coils[e.channel].p) (budgetInForce s) := by
  have same : (setWaiting e.channel (some ctx) s).chans[e.channel] = { s.chans[e.channel] with waiting := some ctx } := getElem_set_same _ _ _
  have found : find ((setWaiting e.channel (some ctx) s).setQueue q) e = findFlip ((setWaiting e.channel (some ctx) s).setQueue q) e ctx :=
    find_flip he (by rw [State.setQueue_chans, same]; exact hi) (by rw [State.setQueue_chans, same])
  rw [← hq] at hk ⊢
  exact found.trans (findFlip_kick (s := (setWaiting e.channel (some ctx) s).setQueue q) hs hk)

variable (ha : s.rules[n].action = .flip c eos mode allowance)
include ha

theorem ruleFlip_refused {why : Reason} (hp : s.passDue = false) (hw : flipRefusal s c = some why) :
    arbitrate (makeRequest n s) = ruleRefused n why s := by
  have refused : makeRequest n s = refuse (.rule n) why s := by simp only [makeRequest, ha, hw]
  rw [refused, arbitrate_refuse_rule hp]

theorem ruleFlip_joins (hw : flipRefusal s c = none) (hq : s.queue = []) :
    makeRequest n s =
      ((setWaiting c (some (contextOf n s.rules[n] eos mode allowance)) s).setQueue
        [ruleJoins n c .flip .flip s.coils[c].k s]).callPass := by
  simp only [makeRequest, ha, hw, submitFlip, submit, hq]
  rfl

section
variable (hw : flipRefusal s c = none) (hc : Calm s) (hp : s.passDue = false) (hr : s.node.relay = true)
include hw hc hp hr

theorem ruleFlip_busy (hi : s.chans[c].act ≠ .idle) :
    arbitrate (makeRequest n s) = { setWaiting c (some (contextOf n s.rules[n] eos mode allowance)) s with
      queue := [{ ruleJoins n c .flip .flip s.coils[c].k s with wait := .channelBusy }] } := by
  have busy : (setWaiting c (some (contextOf n s.rules[n] eos mode allowance)) s).chans[c].act ≠ .idle := by
    rw [setWaiting_chans, getElem_set_same]; exact hi
  rw [ruleFlip_joins ha hw hc.1]
  exact alone_waits (s := setWaiting c _ s) hc hp hr (find_busy busy)

section
variable (hi : s.chans[c].act = .idle) (hs : ¬ eosClosed s (contextOf n s.rules[n] eos mode allowance) = true)
  (hk : s.coils[c].kMin ≤ kickFor s.coils[c] s.heat[c].q s.coils[c].k)
include hi hs hk

theorem ruleFlip_over (hb : budgetInForce s < s.inUse + s.coils[c].p) :
    arbitrate (makeRequest n s) = { setWaiting c (some (contextOf n s.rules[n] eos mode allowance)) s with
      queue := [{ ruleJoins n c .flip .flip s.coils[c].k s with wait := .budget }] } := by
  rw [ruleFlip_joins ha hw hc.1]
  exact alone_over (s := setWaiting c _ s) hc hp hr (find_ruleFlip _ rfl rfl hi hs hk) hb

theorem ruleFlip_granted (hb : s.inUse + s.coils[c].p ≤ budgetInForce s) :
    let given := kickFor s.coils[c] s.heat[c].q s.coils[c].k
    arbitrate (makeRequest n s) = { s with
      chans := s.chans.set c {
        act := .kicking { kind := .flip (contextOf n s.rules[n] eos mode allowance) allowance none, source := .rule n,
                          persistent := s.rules[n].persistent, began := s.now, charged := 0 } given (s.now + given * 1000)
        waiting := none }
      guards := s.guards.set c { s.guards[c] with verdict := .noneYet, shortRun := 0, leakRun := 0 }
      inUse := s.inUse + s.coils[c].p } := by
  intro given
  let ctx := contextOf n s.rules[n] eos mode allowance
  let e := ruleJoins n c .flip .flip s.coils[c].k s
  let w := (setWaiting c (some ctx) s).setQueue [e]
  have same : w.chans[c] = { s.chans[c] with waiting := some ctx } := getElem_set_same _ _ _
  have waits : w.chans[c].waiting = some ctx := by rw [same]
  have idle : w.chans[c].driven = false := by rw [same]; exact not_driven_of_idle hi
  have found : find w e = .kick given (s.inUse + s.coils[c].p) (budgetInForce s) := find_ruleFlip _ rfl rfl hi hs hk
  have granted : grantKick e given w = grantFlipKick c ctx e given w := grantKick_flip rfl waits
  have again : ∀ x, w.chans.set c x = s.chans.set c x := by simp [w, setWaiting, State.setChan, State.setQueue]
  rw [ruleFlip_joins ha hw hc.1, alone_granted (s := setWaiting c _ s) hc hp hr found hb]
  refine (congrArg (State.setQueue []) (granted.trans (grantFlipKick_starts given idle))).trans ?_
  rw [again]
  obtain ⟨hq, -⟩ := hc
  obtain ⟨⟩ := s
  subst hq
  rfl

end

end

end

end Sys2Proof.Machine
end

section
/-! SUPPORT. The Step and Add requests of a rule that fires alone, and an edge's rules together (R86 to R88, R93, R109, R110, R120). -/

namespace Sys2Proof.Machine

set_option Elab.async false

/-! ### A train is allocated (R93, R94) -/

section
variable {s₀ s t : State} {k : TrainNo}

/-- Offering a pulse leaves every train on its course. -/
theorem SameCourses.offer (h : SameCourses s₀ s) (k : TrainNo) : SameCourses s₀ (offer k s) := by
  simp only [Machine.offer]
  split
  · exact h
  · rename_i x hx
    have asked : ∀ {a u}, submit (stepEntry s k x) s = (a, u) → u.trains = s.trains := fun e => by rw [← submit_trains (stepEntry s k x) s, e]
    split
    · rename_i u e
      have same := asked e
      exact (h.of_trains (t := u.setHeld (u.held ++ [k])) same).setTrain (x := x) ((congrArg (·[k]) same).trans hx) rfl
    · rename_i u _ e
      exact h.of_trains (asked e)

/-- A train that enters WAIT stands in its context on its course. -/
theorem sameCourses_enterWait (k : TrainNo) (x : Train) (s : State) : SameCourses (s.setTrain k (some x)) (enterWait k x s) := by
  refine SameCourses.offer (fun j => ?_) k
  rw [State.setTrain_trains, State.setTrain_trains]
  by_cases hj : j = k
  · subst hj; rw [getElem_set_same, getElem_set_same]; rfl
  · rw [getElem_set_other _ _ hj, getElem_set_other _ _ hj]

theorem setTrain_course {x : Train} (h : SameCourses (s.setTrain k (some x)) t) : ∃ y, t.trains[k] = some y ∧ y.course = x.course :=
  h.of_some (getElem_set_same _ _ _)

/-- The train that starts for a step (R93, R101). -/
theorem startUnit_course (k : TrainNo) (u : UnitNo) (d : Dir) (c : Chan) (m : Nat) (s : State) :
    ∃ y, (startUnit k u d c m s).trains[k] = some y ∧ y.course = (.counter u, c, d, m) := by
  cases hs : settleUntil s s.units[u] d with
  | some ends => simp only [startUnit, hs]; exact ⟨_, getElem_set_same _ _ _, rfl⟩
  | none => simp only [startUnit, hs]; exact setTrain_course (sameCourses_enterWait k _ s)

end

/-! ### The Step of a rule (R86, R120) -/

section
variable {n : RuleNo} {u : UnitNo} {count : Int} {s : State}

theorem startRefusal_none {c : Chan} (he : s.coils[c].enabled = true) (hl : s.chans[c].isLocked = false) : startRefusal s c = none := by
  simp only [startRefusal, he, hl, Bool.not_true, Bool.false_eq_true, if_false]

theorem channelOf_of_val {x : CounterUnit} {c : Chan} {d : Dir} (h : (if d = .up then x.up else x.down).toNat = c.val) :
    x.channelOf d = some c := by
  cases d <;> exact refOf_of_val h

/-- A step for a unit without a train, on a channel that takes one, starts it (R93, R120). -/
theorem stepFromLimit_starts {who : Asker} {d : Dir} {m : Nat} {c : Chan} {k : TrainNo} (ht : trainOf s (.counter u) = none)
    (hc : s.units[u].channelOf d = some c) (hr : startRefusal s c = none) (hk : firstFree s = some k) :
    stepFromLimit who u d m s = startUnit k u d c m s := by
  have free : stepRefusal s u d m = none := by simp only [stepRefusal, ht, hc, hr, hk]; rfl
  simp only [stepFromLimit, free, takeStep, ht, hc, hk]

variable (ha : s.rules[n].action = .step u count)
include ha

theorem ruleStep_of_zero (h : count = 0) : makeRequest n s = s := by simp only [makeRequest, ha, if_pos h]

theorem ruleStep_requests (h : count ≠ 0) : makeRequest n s = requestStep (.rule n) u count s := by
  simp only [makeRequest, ha, if_neg h]

theorem ruleStep_unused (h : count ≠ 0) (hp : s.passDue = false) (hu : s.units[u].inUse = false) :
    arbitrate (makeRequest n s) = ruleRefused n .range s := by
  rw [ruleStep_requests ha h, requestStep_unused hu, arbitrate_refuse_rule hp]

theorem ruleStep_at_limit (h : count ≠ 0) (hp : s.passDue = false) (hu : s.units[u].inUse = true)
    (hl : s.closedByte (s.units[u].limit (stepDir count)) = true) :
    arbitrate (makeRequest n s) = { ruleRefused n .atLimit s with
      latches := s.latches ||| 0x802
      units := s.units.set u { s.units[u] with position := some (if stepDir count = .up then s.units[u].maximum else 0) } } := by
  have due : (atLimit u (stepDir count) s).passDue = false := hp
  have latches : s.latches ||| latchMask .atLimit ||| 2 = s.latches ||| 0x802 := by rw [BitVec.or_assoc]; rfl
  rw [ruleStep_requests ha h, requestStep_at_limit hu hl, arbitrate_refuse_rule due, ← latches]
  rfl

theorem ruleStep_starts {c : Chan} {k : TrainNo} (h : count ≠ 0) (hu : s.units[u].inUse = true)
    (hl : s.closedByte (s.units[u].limit (stepDir count)) = false) (ht : trainOf s (.counter u) = none)
    (hc : s.units[u].channelOf (stepDir count) = some c) (hr : startRefusal s c = none) (hk : firstFree s = some k) :
    ∃ y, (arbitrate (makeRequest n s)).trains[k] = some y ∧ y.course = (.counter u, c, stepDir count, count.natAbs) := by
  rw [ruleStep_requests ha h, requestStep_from_limit hu hl, stepFromLimit_starts ht hc hr hk]
  obtain ⟨y, hy, course⟩ := startUnit_course k u (stepDir count) c count.natAbs s
  obtain ⟨z, hz, same⟩ := (SameCourses.refl _).arbitrate.of_some hy
  exact ⟨z, hz, same.trans course⟩

end

/-! ### FREE contexts (R93) -/

section
variable {s t : State} {k : TrainNo}

/-- Whether a context is FREE. -/
def freeIn (s : State) (k : TrainNo) : Bool := s.trains[k].isNone

theorem freeTrains_eq (s : State) : freeTrains s = ((List.finRange 12).filter (freeIn s)).length := rfl

theorem freeTrains_of_same (h : SameCourses s t) : freeTrains t = freeTrains s := by
  have each : freeIn t = freeIn s := funext fun j => by
    rw [freeIn, ← Option.isNone_map (f := Train.course), h j, Option.isNone_map, freeIn]
  rw [freeTrains_eq, freeTrains_eq, each]

theorem firstFree_of_pos (h : 0 < freeTrains s) : ∃ k, firstFree s = some k := by
  rw [← Option.isSome_iff_exists, firstFree, List.find?_isSome]
  obtain ⟨k, hk⟩ := List.exists_mem_of_length_pos h
  exact ⟨k, List.mem_filter.mp hk⟩

/-- A context taken is one FREE context fewer. -/
theorem freeTrains_taken (hk : s.trains[k] = none) (x : Train) : freeTrains (s.setTrain k (some x)) + 1 = freeTrains s := by
  obtain ⟨a, b, all, before, after⟩ := cut_at (List.mem_finRange k) (List.nodup_finRange 12)
  have rest : ∀ l : List TrainNo, (∀ j ∈ l, j ≠ k) → l.filter (freeIn (s.setTrain k (some x))) = l.filter (freeIn s) := fun l hl =>
    List.filter_congr fun j hj => by rw [freeIn, State.setTrain_trains, getElem_set_other _ _ (hl j hj), freeIn]
  have here : freeIn (s.setTrain k (some x)) k = false := by rw [freeIn, State.setTrain_trains, getElem_set_same]; rfl
  have there : freeIn s k = true := by rw [freeIn, hk]; rfl
  simp only [freeTrains_eq, all, List.filter_append, List.length_append, List.filter_cons, rest a before, rest b after, here, there,
    if_true, Bool.false_eq_true, if_false, List.length_cons]
  omega

end

/-! ### The trains of a bank's reels (R93, R110) -/

section
variable {b : BankNo} {r : Nat} {c : Chan} {m : Nat} {s : State} {k : TrainNo}

/-- The course of a reel's train. -/
def reelCourse (b : BankNo) (r : Nat) (c : Chan) (m : Nat) : Owner × Chan × Dir × Nat :=
  (.reel b r, c, .up, m)

theorem kept_allocReel (b : BankNo) (r : Nat) (c : Chan) (m : Nat) (s : State) : Kept s (allocReel b r c m s) := by
  simp only [allocReel]
  repeat' split
  · exact Kept.refl s
  · exact kept_setTrain _ _ s
  · exact kept_enterWait _ _ s

/-- A reel's train stands in the first FREE context, and the other contexts are on their courses. -/
theorem allocReel_takes (hk : firstFree s = some k) :
    ∃ x : Train, x.course = reelCourse b r c m ∧ SameCourses (s.setTrain k (some x)) (allocReel b r c m s) := by
  simp only [allocReel, hk]
  split
  · exact ⟨_, rfl, .refl _⟩
  · exact ⟨_, rfl, sameCourses_enterWait k _ s⟩

/-- A reel's turn in the allocation of its bank. -/
def allocTurn (b : BankNo) (plan : Nat → Nat) (s : State) (r : Nat) : State :=
  match s.banks[b].reels[r]? with
  | some x => allocReel b r x.channel (plan r) s
  | none => s

theorem allocBank_eq (b : BankNo) (plan : Nat → Nat) (s : State) :
    allocBank b plan s = (List.range s.banks[b].reels.length).foldl (allocTurn b plan) s := rfl

theorem kept_allocTurn (b : BankNo) (plan : Nat → Nat) (s : State) (r : Nat) : Kept s (allocTurn b plan s r) := by
  rw [allocTurn]
  split
  · exact kept_allocReel _ _ _ _ s
  · exact Kept.refl s

theorem kept_allocBank (b : BankNo) (plan : Nat → Nat) (s : State) : Kept s (allocBank b plan s) :=
  foldl_invariant (P := Kept s) (fun t r h => h.trans (kept_allocTurn b plan t r)) _ (Kept.refl s)

/-- Every train of the one state is on its course in the other. -/
def CoursesStand (s t : State) : Prop := ∀ (k : TrainNo) (x : Train), s.trains[k] = some x → ∃ y, t.trains[k] = some y ∧ y.course = x.course

/-- A FREE context of the one state holds a reel's train in the other. -/
def ReelTaken (b : BankNo) (r : Nat) (c : Chan) (m : Nat) (s t : State) : Prop :=
  ∃ (k : TrainNo) (y : Train), s.trains[k] = none ∧ t.trains[k] = some y ∧ y.course = reelCourse b r c m

/-- With contexts enough for the reels each takes one, and no other train changes its course. -/
theorem foldl_allocTurn (plan : Nat → Nat) (l : List Nat) {s : State} (hl : ∀ r ∈ l, r < s.banks[b].reels.length)
    (hf : l.length ≤ freeTrains s) :
    CoursesStand s (l.foldl (allocTurn b plan) s) ∧
      ∀ r ∈ l, ∀ x : Reel, s.banks[b].reels[r]? = some x → ReelTaken b r x.channel (plan r) s (l.foldl (allocTurn b plan) s) := by
  induction l generalizing s with
  | nil => exact ⟨fun k x hx => ⟨x, hx, rfl⟩, fun r hr => absurd hr List.not_mem_nil⟩
  | cons r l ih =>
    obtain ⟨k, hk⟩ := firstFree_of_pos (s := s) (Nat.lt_of_lt_of_le (Nat.succ_pos _) hf)
    have free := firstFree_free hk
    obtain ⟨x, hx⟩ : ∃ x, s.banks[b].reels[r]? = some x := ⟨_, List.getElem?_eq_getElem (hl r List.mem_cons_self)⟩
    obtain ⟨y, course, same⟩ := allocReel_takes (b := b) (r := r) (c := x.channel) (m := plan r) hk
    have turn : allocTurn b plan s r = allocReel b r x.channel (plan r) s := by simp only [allocTurn, hx]
    have banks : (allocTurn b plan s r).banks = s.banks := (kept_allocTurn b plan s r).banks
    rw [List.foldl_cons]
    rw [← turn] at same
    generalize allocTurn b plan s r = u at same banks
    have other : ∀ j : TrainNo, j ≠ k → u.trains[j].map Train.course = s.trains[j].map Train.course := fun j hj => by
      rw [same j, State.setTrain_trains, getElem_set_other _ _ hj]
    have fewer : freeTrains u + 1 = freeTrains s := by rw [freeTrains_of_same same, freeTrains_taken free]
    obtain ⟨stand, taken⟩ := ih (s := u) (fun j hj => by rw [banks]; exact hl j (List.mem_cons_of_mem _ hj))
      (by rw [List.length_cons] at hf; omega)
    refine ⟨fun j z hz => ?_, fun j hj z hz => ?_⟩
    · have apart : j ≠ k := fun e => by rw [e, free] at hz; cases hz
      have on := other j apart
      rw [hz, Option.map_some, Option.map_eq_some_iff] at on
      obtain ⟨w, hw, hwc⟩ := on
      obtain ⟨v, hv, hvc⟩ := stand j w hw
      exact ⟨v, hv, hvc.trans hwc⟩
    · rcases List.mem_cons.mp hj with rfl | hj
      · obtain ⟨w, hw, hwc⟩ := setTrain_course same
        obtain ⟨v, hv, hvc⟩ := stand k w hw
        rw [hx] at hz
        cases hz
        exact ⟨k, v, free, hv, hvc.trans (hwc.trans course)⟩
      · obtain ⟨i, v, hi, hv, hvc⟩ := taken j hj z (by rw [banks]; exact hz)
        have apart : i ≠ k := fun e => by
          obtain ⟨w, hw, -⟩ := setTrain_course same
          rw [e, hw] at hi
          cases hi
        have on := other i apart
        rw [hi, Option.map_none, eq_comm, Option.map_eq_none_iff] at on
        exact ⟨i, v, on, hv, hvc⟩

end

/-! ### The Add of a rule (R87, R109) -/

section
variable {n : RuleNo} {b : BankNo} {v : Nat} {s : State}

theorem addRefusal_range (h : 10 ^ s.banks[b].reels.length ≤ v) : addRefusal s b v = some .range := if_pos h

theorem addRefusal_busy (h : v < 10 ^ s.banks[b].reels.length) (hz : s.banks[b].state = .zeroing) : addRefusal s b v = some .busy :=
  (if_neg (Nat.not_le.mpr h)).trans (if_pos hz)

theorem addRefusal_unknown (h : v < 10 ^ s.banks[b].reels.length) (hz : s.banks[b].state ≠ .zeroing)
    (hu : ∃ x ∈ s.banks[b].reels, x.position = none) : addRefusal s b v = some .unknown := by
  obtain ⟨x, hx, hn⟩ := hu
  have unknown : s.banks[b].reels.any (·.position.isNone) = true := List.any_eq_true.mpr ⟨x, hx, by rw [hn]; rfl⟩
  exact (if_neg (Nat.not_le.mpr h)).trans ((if_neg hz).trans (if_pos unknown))

/-- A bank without trains has none of a reel. -/
theorem trainOf_reel_none (h : bankTrains s b = []) (r : Nat) : trainOf s (.reel b r) = none := by
  cases hk : trainOf s (.reel b r) with
  | none => rfl
  | some k =>
    obtain ⟨x, hx, ho⟩ := trainOf_eq_some hk
    have held : k ∈ bankTrains s b := mem_bankTrains.mpr ⟨x, r, hx, ho⟩
    rw [h] at held
    cases held

theorem addRefusal_none (h : v < 10 ^ s.banks[b].reels.length) (hi : s.banks[b].state = .idle) (ht : bankTrains s b = [])
    (hf : s.banks[b].reels.length ≤ freeTrains s)
    (hr : ∀ x ∈ s.banks[b].reels, x.position ≠ none ∧ s.coils[x.channel].enabled = true ∧ s.chans[x.channel].isLocked = false) :
    addRefusal s b v = none := by
  have known : s.banks[b].reels.any (·.position.isNone) = false := List.any_eq_false.mpr fun x hx => by
    obtain ⟨hp, -, -⟩ := hr x hx
    rwa [Option.isNone_iff_eq_none]
  have enabled : s.banks[b].reels.any (fun x => !s.coils[x.channel].enabled) = false := List.any_eq_false.mpr fun x hx => by
    obtain ⟨-, he, -⟩ := hr x hx
    rw [he]; exact Bool.false_ne_true
  have unlocked : s.banks[b].reels.any (fun x => s.chans[x.channel].isLocked) = false := List.any_eq_false.mpr fun x hx => by
    obtain ⟨-, -, hl⟩ := hr x hx
    rw [hl]; exact Bool.false_ne_true
  simp only [addRefusal, if_neg (Nat.not_le.mpr h), hi, known, trainOf_reel_none ht, enabled, unlocked, Option.bind_none]
  simpa using hf

theorem takeAdd_idle (hi : s.banks[b].state = .idle) :
    takeAdd b v s = allocBank b (digit v) (s.setBank b { s.banks[b] with state := .adding }) := if_pos hi

variable (ha : s.rules[n].action = .add b v)
include ha

theorem ruleAdd_of_zero (h : v = 0) : makeRequest n s = s := by simp only [makeRequest, ha, if_pos h]

theorem ruleAdd_refused {why : Reason} (h : v ≠ 0) (hp : s.passDue = false) (hw : addRefusal s b v = some why) :
    arbitrate (makeRequest n s) = ruleRefused n why s := by
  have refused : makeRequest n s = refuse (.rule n) why s := by simp only [makeRequest, ha, if_neg h, requestAdd, hw]
  rw [refused, arbitrate_refuse_rule hp]

theorem ruleAdd_takes (h : v ≠ 0) (hi : s.banks[b].state = .idle) (hw : addRefusal s b v = none) :
    makeRequest n s = allocBank b (digit v) (s.setBank b { s.banks[b] with state := .adding }) := by
  simp only [makeRequest, ha, if_neg h, requestAdd, hw]
  exact takeAdd_idle hi

/-- An add on an IDLE bank gives each reel its train of its digit's pulses (R110). -/
theorem ruleAdd_allocates (h : v ≠ 0) (hi : s.banks[b].state = .idle) (hw : addRefusal s b v = none)
    (hf : s.banks[b].reels.length ≤ freeTrains s) :
    let t := arbitrate (makeRequest n s)
    t.banks = s.banks.set b { s.banks[b] with state := .adding } ∧
      ∀ (j : Nat) (x : Reel), s.banks[b].reels[j]? = some x → ReelTaken b j x.channel (digit v j) s t := by
  intro t
  let u := s.setBank b { s.banks[b] with state := .adding }
  have adding : u.banks[b] = { s.banks[b] with state := .adding } := getElem_set_same _ _ _
  have reels : u.banks[b].reels = s.banks[b].reels := by rw [adding]
  have run : t = arbitrate (allocBank b (digit v) u) := congrArg arbitrate (ruleAdd_takes ha h hi hw)
  have many : (List.range u.banks[b].reels.length).length ≤ freeTrains u := by rw [List.length_range, reels]; exact hf
  obtain ⟨-, taken⟩ := foldl_allocTurn (digit v) (List.range u.banks[b].reels.length) (fun r hr => List.mem_range.mp hr) many
  rw [← allocBank_eq] at taken
  rw [run]
  refine ⟨((kept_allocBank b (digit v) u).trans (kept_arbitrate _)).banks, fun j x hx => ?_⟩
  have within : j ∈ List.range u.banks[b].reels.length := by
    rw [List.mem_range, reels]
    exact (List.getElem?_eq_some_iff.mp hx).1
  obtain ⟨k, y, free, hy, course⟩ := taken j within x (by rw [reels]; exact hx)
  obtain ⟨z, hz, same⟩ := (SameCourses.refl (allocBank b (digit v) u)).arbitrate.of_some hy
  exact ⟨k, z, free, hz, same.trans course⟩

end

end Sys2Proof.Machine
end

section
/-! SUPPORT. An edge and its rules together (R66, R69, R80 to R88). -/

namespace Sys2Proof.Machine

set_option Elab.async false

/-- An end of stroke that the Flip does not heed, or that stands open, is not shut. -/
theorem not_eosClosed {s : State} {ctx : FlipContext}
    (h : ctx.mode = .off ∨ ∀ e, ctx.eos = some e → s.inputs[e].closed = false) : ¬ eosClosed s ctx = true := by
  rw [eosClosed_iff]
  rintro ⟨mode, e, named, shut⟩
  rcases h with h | h
  · exact mode h
  · rw [h e named] at shut; cases shut

/-- Settles O45: the delivery of the only edge, the rules' turns, and each action's request to the end of its event. -/
theorem edgesFireTheirRules : Obligations.EdgesFireTheirRules := by
  unfold Obligations.EdgesFireTheirRules
  constructor
  · intro x i first order s reads hr hs ht others hd hl ho
    have reading := debounced_reading hr hs ht
    have run := sampleInputs_of_single (edgesAt_of_long_run hr hs ht others) hd hl ho
    rw [reading] at run
    exact ⟨_, edgeMade_debounced x.levels i s, by rw [edgeMade_input, follow_closed, reading], congrArg Host.Outcome.next run⟩
  intro i close s t firing
  refine ⟨fun n => ⟨rulesEdge_holdoff, rulesEdge_holdoff_kept⟩, rulesEdge_of_none, ?_⟩
  intro n hf ho hp r h turned open_ waits kicked
  have run : t = arbitrate (makeRequest n h) := deliver_of_alone hf ho
  clear_value t
  have due : h.passDue = false := hp
  have refusals : ∀ c : Chan, (∀ why, driveRefusal h c = some why → t = ruleRefused n why h) → turned c := fun c ht =>
    ⟨fun hc => ht _ (driveRefusal_claimed hc), fun hc he => ht _ (driveRefusal_disabled hc he),
      fun hc he hl => ht _ (driveRefusal_locked hc he hl)⟩
  refine ⟨fun c kick ha => ?_, fun c eos mode allowance ha => ?_, fun u count ha => ?_, fun b v ha => ?_⟩
  · have action : h.rules[n].action = .pulse c kick := ha
    refine ⟨refusals c fun why hw => run.trans (rulePulse_refused action due hw), ?_⟩
    rintro ⟨hc, he, hl, calm, relay⟩ asked given limit
    have free : driveRefusal h c = none := driveRefusal_none hc he hl
    exact ⟨fun hi hk hb => run.trans (rulePulse_granted action free calm due relay hi hk hb),
      fun hi hk => run.trans (rulePulse_weak action free calm due relay hi hk),
      fun hi hk hb => run.trans (rulePulse_over action free calm due relay hi hk hb),
      fun hi => run.trans (rulePulse_busy action free calm due relay hi)⟩
  · intro ctx
    have action : h.rules[n].action = .flip c eos mode allowance := ha
    refine ⟨refusals c fun why hw => run.trans (ruleFlip_refused action due (flipRefusal_of_drive hw)), fun hc he hr => ?_, ?_⟩
    · have free : driveRefusal h c = none := driveRefusal_none hc he (not_locked_of_running hr)
      exact run.trans (ruleFlip_refused action due (flipRefusal_busy free hr))
    · rintro ⟨hc, he, hl, calm, relay⟩ given clear left
      have free : driveRefusal h c = none := driveRefusal_none hc he hl
      have taken : h.chans[c].running? = none → flipRefusal h c = none := flipRefusal_none free
      exact ⟨fun hi hs hk hb => run.trans (ruleFlip_granted action (taken (running_of_idle hi)) calm due relay hi (not_eosClosed hs) hk hb),
        fun hi hs hk hb => run.trans (ruleFlip_over action (taken (running_of_idle hi)) calm due relay hi (not_eosClosed hs) hk hb),
        fun hi hr => run.trans (ruleFlip_busy action (taken hr) calm due relay hi)⟩
  · intro x dir limit
    have action : h.rules[n].action = .step u count := ha
    have up : 0 < count ↔ stepDir count = .up := by rw [stepDir]; split <;> simp [*]
    have limits : limit = h.closedByte (h.units[u].limit (stepDir count)) := by
      rw [← limit_eq]
      simp only [← up]
      rfl
    refine ⟨fun hc => ?_, fun hc hu => run.trans (ruleStep_unused action hc due hu), fun hc hu hl => ?_, ?_⟩
    · rw [run, ruleStep_of_zero action hc, arbitrate_of_not_due due]
    · refine run.trans ((ruleStep_at_limit action hc due hu (limits.symm.trans hl)).trans ?_)
      simp only [← up]
      rfl
    · intro c k hc hu hl ht hcv he hk hfirst
      have channel : h.units[u].channelOf (stepDir count) = some c := channelOf_of_val (by simp only [← up]; exact hcv)
      obtain ⟨y, hy, course⟩ := ruleStep_starts action hc hu (limits.symm.trans hl) ht channel (startRefusal_none he hk) hfirst
      simp only [Train.course, Prod.mk.injEq] at course
      obtain ⟨owner, chan, heading, planned⟩ := course
      exact ⟨y, by rw [run]; exact hy, owner, chan, heading, planned⟩
  · intro reels
    have action : h.rules[n].action = .add b v := ha
    refine ⟨fun hv => ?_, fun hv hw => run.trans (ruleAdd_refused action hv due (addRefusal_range hw)),
      fun hw hv hz => run.trans (ruleAdd_refused action hv due (addRefusal_busy hw hz)),
      fun hw hv hz hu => run.trans (ruleAdd_refused action hv due (addRefusal_unknown hw hz hu)), fun hw hv hi ht hfree hr => ?_⟩
    · rw [run, ruleAdd_of_zero action hv, arbitrate_of_not_due due]
    · have taken : addRefusal h b v = none := addRefusal_none hw hi ht hfree hr
      obtain ⟨banks, trains⟩ := ruleAdd_allocates action hv hi taken hfree
      rw [run]
      refine ⟨banks, fun j z hz => ?_⟩
      obtain ⟨k, y, free, hy, course⟩ := trains j z hz
      simp only [Train.course, reelCourse, Prod.mk.injEq] at course
      obtain ⟨owner, chan, -, planned⟩ := course
      exact ⟨k, y, free, hy, owner, chan, planned⟩

end Sys2Proof.Machine
end

section
/-! SUPPORT. The Flip work and the RULE entries of a disarmed group or a replaced rule: its end leaves none, and no pass brings any back
(R15, R77, R79). -/

namespace Sys2Proof.Machine

set_option Elab.async false

/-! ### A channel without the chosen Flip work -/

/-- No flip context that `p` chooses runs on the channel or waits for it. -/
structure Channel.FreeOf (p : FlipContext → Bool) (x : Channel) : Prop where
  running : ∀ ctx : FlipContext, x.running? = some ctx → p ctx = false
  waiting : ∀ ctx : FlipContext, x.waiting = some ctx → p ctx = false

section
variable {p : FlipContext → Bool}

theorem running?_congr {x y : Channel} (h : x.act = y.act) : x.running? = y.running? := by
  rw [Channel.running?, Channel.running?, drive?_congr h]

theorem running?_of_not_driven {x : Channel} (h : x.driven = false) : x.running? = none := by
  cases ha : x.act with
  | kicking d k ends => rw [driven_of_kicking ha] at h; cases h
  | holding d e => rw [driven_of_holding ha] at h; cases h
  | _ => simp only [Channel.running?, Channel.drive?, ha, Option.bind_none]

/-- A context that a test does not find among at most one is not chosen. -/
theorem not_chosen_of_not_any {o : Option FlipContext} (h : ¬ o.any p = true) {ctx : FlipContext} (hc : o = some ctx) : p ctx = false := by
  rw [hc, Option.any_some] at h
  exact Bool.eq_false_iff.mpr h

/-! ### The end of the chosen Flip work -/

/-- The chosen Flip that runs on a channel is brought to an end (R15). -/
theorem endRunning_free (c : Chan) (s : State) (ctx : FlipContext)
    (h : (if s.chans[c].running?.any p then endDrive c s else s).chans[c].running? = some ctx) : p ctx = false := by
  split at h
  · rw [running?_of_not_driven (endDrive_not_driven c s)] at h
    cases h
  · rename_i hn
    exact not_chosen_of_not_any hn h

/-- The chosen Flip that waits for a channel is withdrawn, and the drive goes on (R15). -/
theorem endWaiting_free {c : Chan} {s : State} (h : ∀ ctx, s.chans[c].running? = some ctx → p ctx = false) :
    (if s.chans[c].waiting.any p then withdrawFlip c s else s).chans[c].FreeOf p := by
  split
  · have act : (withdrawFlip c s).chans[c].act = s.chans[c].act := by
      rw [withdrawFlip, setWaiting_act, withdraw_chans]
    have gone : (withdrawFlip c s).chans[c].waiting = none := congrArg Channel.waiting (getElem_set_same _ _ _)
    exact ⟨fun ctx hr => h ctx (running?_congr act ▸ hr), fun ctx hw => by rw [gone] at hw; cases hw⟩
  · rename_i hn
    exact ⟨h, fun _ hw => not_chosen_of_not_any hn hw⟩

theorem endFlipWorkOn_free (c : Chan) (s : State) : (endFlipWorkOn p c s).chans[c].FreeOf p :=
  endWaiting_free (endRunning_free c s)

theorem OnlyOn.endFlipWorkOn (c : Chan) (s : State) : OnlyOn c s (endFlipWorkOn p c s) := by
  have ended : OnlyOn c s (if s.chans[c].running?.any p then Machine.endDrive c s else s) := by
    split
    · exact (OnlyOn.refl c s).endDrive
    · exact OnlyOn.refl c s
  have withdrawn : ∀ t, OnlyOn c s t → OnlyOn c s (if t.chans[c].waiting.any p then Machine.withdrawFlip c t else t) := fun t ht => by
    split
    · exact (ht.withdraw _).setWaiting _
    · exact ht
  exact withdrawn _ ended

/-- No channel has the chosen Flip work. -/
def FlipsFree (p : FlipContext → Bool) (s : State) : Prop := ∀ c : Chan, s.chans[c].FreeOf p

theorem endFlipWork_free (s : State) : FlipsFree p (endFlipWork p s) := fun c => by
  refine forChans_each (P := fun c t => t.chans[c].FreeOf p) endFlipWorkOn_free (fun c c' s hc hs => ?_) s c
  rw [(OnlyOn.endFlipWorkOn c' s c hc.symm).1]
  exact hs

/-- With nothing chosen there is nothing to end. -/
theorem endFlipWork_of_none (hp : ∀ ctx, p ctx = false) (s : State) : endFlipWork p s = s := by
  obtain rfl : p = fun _ => false := funext hp
  have one : ∀ c t, endFlipWorkOn (fun _ => false) c t = t := fun c t => by
    simp only [endFlipWorkOn, Option.any_false, Bool.false_eq_true, if_false]
  exact forChans_invariant (P := fun t => t = s) (fun c t ht => (one c t).trans ht) rfl

/-! ### A pass drives nothing but what ran or waited -/

variable {s t : State}

theorem FlipsFree.of_chans (h : FlipsFree p s) (e : t.chans = s.chans) : FlipsFree p t := fun c => by rw [e]; exact h c

theorem FlipsFree.setChan (h : FlipsFree p s) (c : Chan) {x : Channel} (hx : x.FreeOf p) : FlipsFree p (s.setChan c x) := fun c' => by
  rw [State.setChan_chans]
  by_cases hc : c' = c
  · subst hc; rw [getElem_set_same]; exact hx
  · rw [getElem_set_other _ _ hc]; exact h c'

theorem FlipsFree.setWaiting_none (h : FlipsFree p s) (c : Chan) : FlipsFree p (setWaiting c none s) :=
  h.setChan c ⟨(h c).running, fun _ hw => nomatch hw⟩

theorem FlipsFree.setAct (h : FlipsFree p s) (c : Chan) (a : Activity)
    (ha : ∀ ctx, Channel.running? { s.chans[c] with act := a } = some ctx → p ctx = false) : FlipsFree p (setAct c a s) :=
  (h.setChan c ⟨ha, (h c).waiting⟩).of_chans (setAct_chans c a s)

theorem FlipsFree.setLatchIf (h : FlipsFree p s) (b : Bool) (x : Latch) : FlipsFree p (setLatchIf b x s) :=
  h.of_chans (chans_of_beyondTrains (by simp))

theorem FlipsFree.beginKick (h : FlipsFree p s) (c : Chan) (kind : DriveKind) (e : Entry) (n : Nat)
    (hk : ∀ ctx left limit, kind = .flip ctx left limit → p ctx = false) : FlipsFree p (beginKick c kind e n s) := by
  refine FlipsFree.of_chans (h.setAct c _ fun ctx hr => ?_) rfl
  cases kind with
  | flip ctx' left limit =>
    obtain rfl : ctx' = ctx := Option.some.inj hr
    exact hk _ _ _ rfl
  | pulse => cases hr
  | stepPulse => cases hr

theorem FlipsFree.enterHold (h : FlipsFree p s) (c : Chan) (d : Drive) {ctx : FlipContext} (n : Nat) (l : Option Nat) (heff : Nat)
    (hc : p ctx = false) : FlipsFree p (enterHold c d ctx n l heff s) :=
  FlipsFree.setAct (s := s.setHeat c { s.heat[c] with f := 0 }) h c _ fun ctx' hr => by
    obtain rfl : ctx = ctx' := Option.some.inj hr
    exact hc

theorem FlipsFree.grantKick (h : FlipsFree p s) (e : Entry) (n : Nat) : FlipsFree p (grantKick e n s) := by
  simp only [Machine.grantKick]
  split
  case h_1 =>
    split
    · rename_i ctx hw
      refine (h.setWaiting_none _).beginKick _ _ _ _ fun ctx' left limit hk => ?_
      cases hk
      exact (h e.channel).waiting ctx hw
    · exact h
  case h_2 =>
    split
    · rename_i ctx left limit _ _ _ _ _ ha
      refine (h.of_chans (finalCharge_chans _ _)).beginKick _ _ _ _ fun ctx' left' limit' hk => ?_
      cases hk
      exact (h e.channel).running ctx (running_of_holding ha rfl)
    · exact h
  case h_3 => exact h.beginKick _ _ _ _ fun _ _ _ hk => nomatch hk
  case h_4 =>
    have begun : FlipsFree p (Machine.beginKick e.channel .stepPulse e n s) := h.beginKick _ _ _ _ fun _ _ _ hk => nomatch hk
    split
    · exact begun.of_chans (chans_of_beyondTrains (by simp))
    · exact begun

theorem FlipsFree.grantHold (h : FlipsFree p s) (e : Entry) (heff : Nat) (b : Bool) : FlipsFree p (grantHold e heff b s) := by
  simp only [Machine.grantHold]
  split
  · rename_i ctx hw
    exact ((h.setWaiting_none _).enterHold _ _ _ _ _ ((h e.channel).waiting ctx hw)).setLatchIf _ _
  · exact h

theorem FlipsFree.removeAtPass (h : FlipsFree p s) (e : Entry) (x y : Bool) : FlipsFree p (removeAtPass e x y s) := by
  simp only [Machine.removeAtPass]
  split
  · exact ((h.setLatchIf _ _).setLatchIf _ _).setWaiting_none _
  · exact (h.setLatchIf _ _).setLatchIf _ _

theorem keptByPasses_flipsFree (p : FlipContext → Bool) : KeptByPasses (FlipsFree p) where
  removed e x y _ h _ _ := h.removeAtPass e x y
  kick e n _ _ _ h _ _ _ _ := h.grantKick e n
  hold e heff _ _ x _ h _ _ _ _ := h.grantHold e heff x
  join _ _ h _ _ := h.of_chans (chans_of_beyondTrains (by simp))
  shrink _ _ h _ := h.of_chans rfl
  stay _ _ h _ := h.of_chans rfl
  mark _ _ h := h.of_chans rfl

end

/-! ### The RULE entries -/

theorem rulePulse_of_rule {q : RuleNo → Bool} {e : Entry} {n : RuleNo} (hs : e.source = .rule n) (hc : e.cls = .rule) :
    rulePulse q e = q n := by
  simp only [rulePulse, hs, hc, beq_self_eq_true, Bool.true_and]

theorem rulePulse_of_train {q : RuleNo → Bool} {e : Entry} {k : TrainNo} (hs : e.source = .train k) : rulePulse q e = false := by
  simp only [rulePulse, hs]

theorem rulePulse_of_none {q : RuleNo → Bool} (hq : ∀ n, q n = false) (e : Entry) : rulePulse q e = false := by
  cases hs : e.source with
  | rule n => simp only [rulePulse, hs, hq, Bool.and_false]
  | _ => simp only [rulePulse, hs]

/-- A withdrawal that finds no entry changes nothing. -/
theorem withdraw_of_none {p : Entry → Bool} {s : State} (hp : ∀ e ∈ s.queue, p e = false) : withdraw p s = s := by
  have found : ¬ s.queue.any p = true := by
    rw [List.any_eq_true]
    rintro ⟨e, he, hpe⟩
    rw [hp e he] at hpe
    cases hpe
  rw [withdraw, if_neg found]

theorem rulePulse_congr (q : RuleNo → Bool) {x y : Entry} (h : x.alike y) : rulePulse q x = rulePulse q y := by
  obtain ⟨-, hcls, -, hsource, -⟩ := h
  simp only [rulePulse, hcls, hsource]

theorem rulePulse_ofHeld (q : RuleNo → Bool) {s : State} {e : Entry} (h : e.ofHeld s) : rulePulse q e = false := by
  obtain ⟨k, -, x, -, -, -, -, hs, -⟩ := h
  exact rulePulse_of_train hs

/-! ### Ended work -/

/-- Neither Flip work that `p` chooses nor a RULE entry of a rule that `q` chooses is left. -/
structure WorkEnded (p : FlipContext → Bool) (q : RuleNo → Bool) (s : State) : Prop where
  flips : FlipsFree p s
  entries : ∀ e ∈ s.queue, rulePulse q e = false

section
variable {p : FlipContext → Bool} {q : RuleNo → Bool} {s t : State}

/-- The end of the work of rules: their Flips first, then their waiting Pulses (R77, R79). -/
theorem endWork_ended (p : FlipContext → Bool) (q : RuleNo → Bool) (s : State) :
    WorkEnded p q (withdraw (rulePulse q) (endFlipWork p s)) where
  flips := (endFlipWork_free s).of_chans (withdraw_chans _ _)
  entries e he := by
    rcases mem_withdraw (fun x y hxy => rulePulse_congr q hxy) he with h | h
    · exact h
    · exact rulePulse_ofHeld q h

theorem WorkEnded.arbitrate (h : WorkEnded p q s) : WorkEnded p q (arbitrate s) where
  flips := arbitrate_invariant (keptByPasses_flipsFree p) h.flips
  entries e he := by
    rcases (Drains.refl s).arbitrate.queue e he with ⟨e', he', al⟩ | held
    · exact (rulePulse_congr q al).trans (h.entries e' he')
    · exact rulePulse_ofHeld q held

theorem WorkEnded.same (h : WorkEnded p q s) (hc : t.chans = s.chans) (hq : t.queue = s.queue) : WorkEnded p q t :=
  ⟨h.flips.of_chans hc, hq ▸ h.entries⟩

theorem WorkEnded.flip_not_chosen (h : WorkEnded p q s) (c : Chan) (ctx : FlipContext)
    (hx : s.chans[c].running? = some ctx ∨ s.chans[c].waiting = some ctx) : p ctx = false :=
  hx.elim ((h.flips c).running ctx) ((h.flips c).waiting ctx)

theorem WorkEnded.rule_not_chosen (h : WorkEnded p q s) {e : Entry} {n : RuleNo} (he : e ∈ s.queue) (hs : e.source = .rule n)
    (hc : e.cls = .rule) : q n = false :=
  (rulePulse_of_rule hs hc).symm.trans (h.entries e he)

end

end Sys2Proof.Machine
end

section
/-! SUPPORT. The orders that act on a mask: Arm, Disarm and Acknowledge (R78, R79, R138). -/

namespace Sys2Proof.Machine

set_option Elab.async false

section
variable {f : Head} {s : State}

theorem execArm_eq (hf : Heard f s) (mask : Byte) :
    exec (.arm f mask) s = .next { heard (encodeFrame (.arm f mask)) s with armed := s.armed ||| mask } := by
  obtain ⟨-, -, -, -, hp⟩ := id hf
  change Host.Outcome.next (orderFrame (.arm f mask) f (obeyArm mask) s) = _
  rw [orderFrame_heard hf]
  exact congrArg _ (arbitrate_of_not_due hp)

theorem execAcknowledge_eq (hf : Heard f s) (mask : Half) :
    exec (.acknowledge f mask) s =
      .next { heard (encodeFrame (.acknowledge f mask)) s with latches := s.latches &&& ~~~mask } := by
  obtain ⟨-, -, -, -, hp⟩ := id hf
  change Host.Outcome.next (orderFrame (.acknowledge f mask) f (clearLatches mask) s) = _
  rw [orderFrame_heard hf]
  exact congrArg _ (arbitrate_of_not_due hp)

theorem execDisarm_eq (hf : Heard f s) (mask : Byte) :
    exec (.disarm f mask) s = .next (arbitrate (obeyDisarm mask (heard (encodeFrame (.disarm f mask)) s))) := by
  change Host.Outcome.next (orderFrame (.disarm f mask) f (obeyDisarm mask) s) = _
  rw [orderFrame_heard hf]

end

/-- The arm mask that a Disarm leaves (R79). -/
def disarmed (mask : Byte) (s : State) : State := { s with armed := s.armed &&& ~~~mask }

section
variable (mask : Byte) (s : State)

/-- The rules read at the withdrawal of the RULE entries are those the order found. -/
theorem obeyDisarm_eq :
    obeyDisarm mask s = withdraw (rulePulse fun n => mask.getLsbD s.rules[n].group.val)
      (endFlipWork (fun x => mask.getLsbD x.group.val) (disarmed mask s)) := by
  have rules : (endFlipWork (fun x => mask.getLsbD x.group.val) { s with armed := s.armed &&& ~~~mask }).rules = s.rules :=
    rules_of_beyondDrives (s := disarmed mask s) (by simp [disarmed])
  rw [obeyDisarm, rules, disarmed]

/-- Beyond the drives a Disarm changes the arm mask alone (R79). -/
theorem disarm_beyondDrives : (arbitrate (obeyDisarm mask s)).beyondDrives = (disarmed mask s).beyondDrives := by
  simp [obeyDisarm_eq]

/-- A Disarm leaves no Flip work and no RULE entry of its groups (R79). -/
theorem disarm_ended :
    WorkEnded (fun x => mask.getLsbD x.group.val) (fun n => mask.getLsbD s.rules[n].group.val) (arbitrate (obeyDisarm mask s)) := by
  rw [obeyDisarm_eq]
  exact (endWork_ended _ _ _).arbitrate

/-- An empty mask disarms nothing. -/
theorem obeyDisarm_zero : obeyDisarm 0 s = s := by
  have bits : ∀ i, (0 : Byte).getLsbD i = false := fun _ => BitVec.getLsbD_zero
  have same : disarmed 0 s = s := by
    have armed : s.armed &&& ~~~0#8 = s.armed := by rw [BitVec.not_zero, BitVec.and_allOnes]
    exact congrArg (fun m => { s with armed := m }) armed
  rw [obeyDisarm_eq, same, endFlipWork_of_none fun _ => bits _]
  exact withdraw_of_none fun e _ => rulePulse_of_none (fun _ => bits _) e

end

/-- Settles O21: what Arm and Acknowledge write, and what is left of the work of the groups that a Disarm clears. -/
theorem masksArmDisarmAndAcknowledge : Obligations.MasksArmDisarmAndAcknowledge := by
  unfold Obligations.MasksArmDisarmAndAcknowledge
  refine ⟨fun f s hf => ⟨execArm_eq hf, execAcknowledge_eq hf⟩, fun f mask s hf => ⟨?_, fun hm => ?_⟩⟩
  · let h := heard (encodeFrame (.disarm f mask)) s
    have ended := disarm_ended mask h
    have beyond := disarm_beyondDrives mask h
    have tables : TablesKept (disarmed mask h) (arbitrate (obeyDisarm mask h)) := tablesKept_of_beyondDrives beyond
    exact ⟨_, execDisarm_eq hf mask, armed_of_beyondDrives beyond, ended.flip_not_chosen,
      fun _ _ he hs hc => ended.rule_not_chosen he hs hc, tables, (holdoffs_of_beyondDrives beyond :),
      (node_of_beyondDrives beyond :), (inputs_of_beyondDrives beyond :)⟩
  · obtain ⟨-, -, -, -, hp⟩ := id hf
    subst hm
    rw [execDisarm_eq hf, obeyDisarm_zero]
    exact congrArg _ (arbitrate_of_not_due hp)

end Sys2Proof.Machine
end

section
/-! SUPPORT. The load of a rule (R75 to R77). -/

namespace Sys2Proof.Machine

set_option Elab.async false

/-! ### The action of a record -/

theorem eosOf_eosCode (m : EosMode) : eosOf (eosCode m) = some m := by cases m <;> rfl

theorem eosOf_of_gt {b : Byte} (h : 2 < b.toNat) : eosOf b = none := by
  have other : ∀ n : Byte, n.toNat ≤ 2 → b ≠ n := by
    rintro n hn rfl
    omega
  rw [eosOf, if_neg (other 0 (by decide)), if_neg (other 1 (by decide)), if_neg (other 2 (by decide))]

theorem join24_toNat (a b c : Byte) : (join24 a b c).toNat = a.toNat * 65536 + b.toNat * 256 + c.toNat := by
  rw [join24, BitVec.toNat_append, BitVec.toNat_append, ← Nat.shiftLeft_add_eq_or_of_lt b.isLt,
    ← Nat.shiftLeft_add_eq_or_of_lt c.isLt, Nat.shiftLeft_eq, Nat.shiftLeft_eq]
  omega

/-- The Flip of a record whose channel and end-of-stroke mode exist, if its edge and its end-of-stroke input are as R76 has them. -/
def flipWith (r : RuleRec) (c : Chan) (mode : EosMode) : Option Action :=
  if r.edge ≠ 0 then none
  else if r.p1 = 255 then some (.flip c none mode (min r.p3.toNat 3))
  else if r.p1 = r.trigger then none
  else (refOf 32 r.p1).map fun e => .flip c (some e) mode (min r.p3.toNat 3)

section
variable {r : RuleRec}

theorem actionOf_inert (h : r.action = 0) : actionOf r = some .inert := by
  rw [actionOf, h]; rfl

theorem actionOf_pulse (h : r.action = 1) : actionOf r = (refOf 24 r.p0).map fun c => .pulse c (min r.p1.toNat 250) := by
  rw [actionOf, h]; simp only [clamp_zero]; rfl

theorem actionOf_flip (h : r.action = 2) :
    actionOf r = (refOf 24 r.p0).bind fun c => (eosOf r.p2).bind fun mode => flipWith r c mode := by
  rw [actionOf, h]
  simp only [clamp_zero]
  cases refOf 24 r.p0 <;> cases eosOf r.p2 <;> rfl

theorem actionOf_step (h : r.action = 3) :
    actionOf r = (refOf 4 r.p0).map fun u => .step u (max (-99) (min r.p1.toInt 99)) := by
  rw [actionOf, h]; rfl

theorem actionOf_add (h : r.action = 4) :
    actionOf r = (refOf 4 r.p0).map fun b => .add b (min (r.p1.toNat * 65536 + r.p2.toNat * 256 + r.p3.toNat) 99999) := by
  rw [actionOf, h]; simp only [clamp_zero, join24_toNat]; rfl

theorem actionOf_unknown (h : 4 < r.action.toNat) : actionOf r = none := by
  rw [actionOf]
  split
  · omega
  · omega
  · omega
  · omega
  · omega
  · rfl

/-- An action that R76 allows is read as it is loaded (R75, R76). -/
theorem actionOf_of_loaded {a : Action} (h : ActionLoaded r a) : actionOf r = some a := by
  rcases h with ⟨h, rfl⟩ | ⟨h, c, hc, rfl⟩ | ⟨h, he, c, mode, hc, hm, flip⟩ | ⟨h, u, hu, rfl⟩ | ⟨h, b, hb, rfl⟩
  · exact actionOf_inert h
  · rw [actionOf_pulse h, refOf_of_val hc]; rfl
  · rw [actionOf_flip h, refOf_of_val hc, hm, eosOf_eosCode]
    change flipWith r c mode = some a
    rw [flipWith, if_neg (not_not_intro he)]
    rcases flip with ⟨h₁, rfl⟩ | ⟨ht, e, h₁, rfl⟩
    · rw [if_pos h₁]
    · have named : r.p1 ≠ 255 := by
        intro h
        rw [h] at h₁
        have := e.isLt
        have : (255 : Byte).toNat = 255 := rfl
        omega
      rw [if_neg named, if_neg ht, refOf_of_val h₁]
      rfl
  · rw [actionOf_step h, refOf_of_val hu]; rfl
  · rw [actionOf_add h, refOf_of_val hb]; rfl

theorem flipWith_none (h : r.edge ≠ 0 ∨ (r.p1 ≠ 255 ∧ (r.p1 = r.trigger ∨ 31 < r.p1.toNat))) (c : Chan) (mode : EosMode) :
    flipWith r c mode = none := by
  rw [flipWith]
  rcases h with h | ⟨h, ht | ho⟩
  · rw [if_pos h]
  · rw [if_neg h, if_pos ht, ite_self]
  · rw [if_neg h, refOf_of_ge ho, Option.map_none, ite_self, ite_self]

/-- A Flip whose own fields R76 does not allow is no action. -/
theorem actionOf_flip_none (h : r.action = 2)
    (hr : 2 < r.p2.toNat ∨ r.edge ≠ 0 ∨ (r.p1 ≠ 255 ∧ (r.p1 = r.trigger ∨ 31 < r.p1.toNat))) : actionOf r = none := by
  rw [actionOf_flip h, Option.bind_eq_none_iff]
  intro c _
  rw [Option.bind_eq_none_iff]
  intro mode hm
  rcases hr with hr | hr
  · rw [eosOf_of_gt hr] at hm
    cases hm
  · exact flipWith_none hr c mode

/-- A Pulse or Flip of no channel, and a Step or Add of no unit or bank, is no action. -/
theorem actionOf_no_target
    (h : ((r.action = 1 ∨ r.action = 2) ∧ 23 < r.p0.toNat) ∨ ((r.action = 3 ∨ r.action = 4) ∧ 3 < r.p0.toNat)) :
    actionOf r = none := by
  rcases h with ⟨h | h, ho⟩ | ⟨h | h, ho⟩
  · rw [actionOf_pulse h, refOf_of_ge ho]; rfl
  · rw [actionOf_flip h, refOf_of_ge ho]; rfl
  · rw [actionOf_step h, refOf_of_ge ho]; rfl
  · rw [actionOf_add h, refOf_of_ge ho]; rfl

/-! ### The record as a whole -/

/-- The rule that a load stores, in the manual's own figures (R75, R77). -/
def loadedRule (r : RuleRec) (t : InputNo) (g : GroupNo) (a : Action) : Rule :=
  { trigger := t, onClose := r.edge == 0, action := a, group := g, holdoff := min r.holdoff.toNat 1000,
    persistent := r.persistent != 0 && a.drives }

theorem ruleOf_of_loaded {t : InputNo} {g : GroupNo} {a : Action} (ht : r.trigger.toNat = t.val) (hg : r.group.toNat = g.val)
    (he : r.edge.toNat ≤ 1) (ha : ActionLoaded r a) : ruleOf r = some (loadedRule r t g a) := by
  simp only [ruleOf, refOf_of_val ht, refOf_of_val hg, actionOf_of_loaded ha, if_neg (Nat.not_lt.mpr he), clamp_zero]
  rfl

theorem ruleOf_none (h : 31 < r.trigger.toNat ∨ 7 < r.group.toNat ∨ 1 < r.edge.toNat ∨ actionOf r = none) : ruleOf r = none := by
  rw [ruleOf]
  split
  · rename_i t g a ht hg ha
    rcases h with h | h | h | h
    · rw [refOf_of_ge h] at ht; cases ht
    · rw [refOf_of_ge h] at hg; cases hg
    · rw [if_pos h]
    · rw [h] at ha; cases ha
  · rfl

/-- A record that R76 does not allow is refused with Range: its own number names no rule, or the rest makes none. -/
theorem no_rule_of_not_allowed
    (h : 31 < r.rule.toNat ∨ 31 < r.trigger.toNat ∨ 7 < r.group.toNat ∨ 1 < r.edge.toNat ∨ 4 < r.action.toNat ∨
      ((r.action = 1 ∨ r.action = 2) ∧ 23 < r.p0.toNat) ∨ ((r.action = 3 ∨ r.action = 4) ∧ 3 < r.p0.toNat) ∨
      (r.action = 2 ∧ (r.edge ≠ 0 ∨ 2 < r.p2.toNat ∨ r.p1 = r.trigger ∨ (31 < r.p1.toNat ∧ r.p1 ≠ 255)))) :
    31 < r.rule.toNat ∨ ruleOf r = none := by
  refine or_iff_not_imp_left.mpr fun hn => ruleOf_none (or_iff_not_imp_left.mpr fun ht => ?_)
  rcases h with h | h | h | h | h | h | h | ⟨ha, hflip⟩
  · exact absurd h hn
  · exact absurd h ht
  · exact .inl h
  · exact .inr (.inl h)
  · exact .inr (.inr (actionOf_unknown h))
  · exact .inr (.inr (actionOf_no_target (.inl h)))
  · exact .inr (.inr (actionOf_no_target (.inr h)))
  · refine .inr (.inr (actionOf_flip_none ha ?_))
    rcases hflip with h | h | h | ⟨h, hne⟩
    · exact .inr (.inl h)
    · exact .inl h
    · have named : r.p1 ≠ 255 := by
        intro h255
        rw [← h, h255] at ht
        exact ht (by decide)
      exact .inr (.inr ⟨named, .inl h⟩)
    · exact .inr (.inr ⟨hne, .inr h⟩)

/-! ### The load -/

variable {f : Head} {n : RuleNo} {s : State}

theorem execLoadRule_eq (hf : Heard f s) :
    exec (.loadRule f r) s = .next (arbitrate (storeRule f.tag r (heard (encodeFrame (.loadRule f r)) s))) := by
  change Host.Outcome.next (orderFrame (.loadRule f r) f (storeRule f.tag r) s) = _
  rw [orderFrame_heard hf]

theorem storeRule_range {tag : Byte} (h : 31 < r.rule.toNat ∨ ruleOf r = none) (s : State) :
    storeRule tag r s = turnedAway tag .range s := by
  by_cases hn : 31 < r.rule.toNat
  · exact withRef_of_ge hn s
  · have named : r.rule.toNat = (⟨r.rule.toNat, by omega⟩ : RuleNo).val := rfl
    rw [storeRule, withRef_of_val named, h.resolve_left hn]
    rfl

theorem storeRule_claimed {tag : Byte} {x : Rule} (hn : r.rule.toNat = n.val) (hx : ruleOf r = some x)
    (hc : x.action.channel?.any (claimed s) = true) : storeRule tag r s = turnedAway tag .claimed s := by
  rw [storeRule, withRef_of_val hn, hx]
  exact if_pos hc

theorem storeRule_taken {tag : Byte} {x : Rule} (hn : r.rule.toNat = n.val) (hx : ruleOf r = some x)
    (hc : ¬ x.action.channel?.any (claimed s) = true) :
    storeRule tag r s = ((endRuleWork n s).setHoldoff n none).setRule n x := by
  rw [storeRule, withRef_of_val hn, hx]
  exact if_neg hc

/-- What a taken load leaves before the event ends: the old rule's work ended, its holdoff stopped, the new rule in its place (R77). -/
def ruleReplaced (n : RuleNo) (x : Rule) (s : State) : State := ((endRuleWork n s).setHoldoff n none).setRule n x

/-- A taken load leaves no Flip work and no RULE entry of the old rule (R77). -/
theorem ruleReplaced_ended (n : RuleNo) (x : Rule) (s : State) :
    WorkEnded (fun y => y.rule == n) (fun m => m == n) (arbitrate (ruleReplaced n x s)) := by
  have ended : WorkEnded (fun y => y.rule == n) (fun m => m == n) (endRuleWork n s) := endWork_ended _ _ s
  have stored : WorkEnded (fun y => y.rule == n) (fun m => m == n) (ruleReplaced n x s) :=
    ended.same (by rw [ruleReplaced, State.setRule_chans, State.setHoldoff_chans])
      (by rw [ruleReplaced, State.setRule_queue, State.setHoldoff_queue])
  exact stored.arbitrate

@[simp] theorem beyondDrives_setHoldoff (n : RuleNo) (x : Option Nat) (s : State) :
    (s.setHoldoff n x).beyondDrives = s.beyondDrives.setHoldoff n x := rfl

@[simp] theorem beyondDrives_setRule (n : RuleNo) (x : Rule) (s : State) :
    (s.setRule n x).beyondDrives = s.beyondDrives.setRule n x := rfl

/-- Beyond the drives a taken load changes its rule and its holdoff alone (R77). -/
theorem ruleReplaced_beyondDrives (n : RuleNo) (x : Rule) (s : State) :
    (arbitrate (ruleReplaced n x s)).beyondDrives = ((s.setHoldoff n none).setRule n x).beyondDrives := by
  simp [ruleReplaced, endRuleWork]

theorem loadRule_taken {x : Rule} (hf : Heard f s) (hn : r.rule.toNat = n.val) (hx : ruleOf r = some x)
    (hc : ¬ x.action.channel?.any (claimed s) = true) :
    ∃ t, exec (.loadRule f r) s = .next t ∧ t.rules = s.rules.set n x ∧ t.holdoffs = s.holdoffs.set n none ∧
      (∀ (c : Chan) (y : FlipContext), t.chans[c].running? = some y ∨ t.chans[c].waiting = some y → y.rule ≠ n) ∧
      (∀ e ∈ t.queue, e.cls = .rule → e.source ≠ .rule n) ∧
      t.armed = s.armed ∧ t.coils = s.coils ∧ t.settings = s.settings ∧ t.lamps = s.lamps ∧ t.node = s.node := by
  let h := heard (encodeFrame (.loadRule f r)) s
  have ended := ruleReplaced_ended n x h
  have beyond := ruleReplaced_beyondDrives n x h
  obtain ⟨hcoils, hrules, hsettings, hlamps, -⟩ := tablesKept_of_beyondDrives beyond
  refine ⟨arbitrate (ruleReplaced n x h), ?_, hrules, holdoffs_of_beyondDrives beyond, fun c y hy => ?_, fun e he hcls hs => ?_,
    (armed_of_beyondDrives beyond :), hcoils, hsettings, hlamps, (node_of_beyondDrives beyond :)⟩
  · rw [execLoadRule_eq hf, storeRule_taken (s := h) hn hx hc, ruleReplaced]
  · exact ne_of_beq_false (ended.flip_not_chosen c y hy)
  · have other : (n == n) = false := ended.rule_not_chosen he hs hcls
    rw [beq_self_eq_true] at other
    cases other

end

/-- Settles O33: the two refusals of R76 in their order, then the old rule's work ended and the new rule in its place. -/
theorem ruleLoadReplacesTheRule : Obligations.RuleLoadReplacesTheRule := by
  unfold Obligations.RuleLoadReplacesTheRule
  constructor
  · intro f r s hf bad
    obtain ⟨-, -, -, -, hp⟩ := id hf
    rw [execLoadRule_eq hf, storeRule_range (no_rule_of_not_allowed bad)]
    exact congrArg _ (arbitrate_of_not_due hp)
  · intro f r n t₀ g a s hf hn ht hg he ha
    obtain ⟨-, -, -, -, hp⟩ := id hf
    have record : ruleOf r = some (loadedRule r t₀ g a) := ruleOf_of_loaded ht hg he ha
    refine ⟨fun taken => ?_, fun free => loadRule_taken hf hn record ?_⟩
    · have named := (Option.any_eq_true _ _).mpr taken
      rw [execLoadRule_eq hf, storeRule_claimed (s := heard (encodeFrame (.loadRule f r)) s) hn record named]
      exact congrArg _ (arbitrate_of_not_due hp)
    · rw [Option.any_eq_true]
      rintro ⟨c, hc, claims⟩
      rw [free c hc] at claims
      cases claims

end Sys2Proof.Machine
end

section
/-! SUPPORT. What the end of an event leaves of a train: its setting up, which grants and joinings do not touch, and its next pulse, which is granted
at most once (R46, R94, R95). -/

namespace Sys2Proof.Machine

set_option Elab.async false

/-! ### The setting up of a train -/

/-- A context but for what grants and joinings change. -/
def Train.setup (x : Train) : Train := { x with state := .wait, issued := 0, interval := none, inFlight := false, held := false }

/-- The setting up of the train in a context. -/
def setupAt (k : TrainNo) (s : State) : Option Train := s.trains[k].map Train.setup

section
variable {s t : State} {k j : TrainNo} {x y : Train}

theorem setupAt_of_some (h : s.trains[k] = some x) : setupAt k s = some x.setup := by rw [setupAt, h, Option.map_some]

theorem train_of_setupAt (h : setupAt k s = some y) : ∃ x, s.trains[k] = some x ∧ x.setup = y := Option.map_eq_some_iff.mp h

theorem setupAt_congr (h : t.trains = s.trains) : setupAt k t = setupAt k s := by rw [setupAt, setupAt, h]

theorem setupAt_setTrain (hx : s.trains[j] = some x) (hy : y.setup = x.setup) : setupAt k (s.setTrain j (some y)) = setupAt k s := by
  rw [setupAt, State.setTrain_trains]
  by_cases hk : k = j
  · subst hk; rw [getElem_set_same, setupAt_of_some hx, Option.map_some, hy]
  · rw [getElem_set_other _ _ hk, setupAt]

theorem setupAt_joinHeld (hp : s.queue.length < Config.queueSize) : setupAt k (joinHeld j s) = setupAt k s := by
  cases ht : s.trains[j] with
  | none => rw [joinHeld_of_none ht]
  | some x =>
    obtain ⟨q, b, e, -⟩ := joinHeld_of_some ht hp
    rw [e]
    exact setupAt_setTrain (y := { x with held := false }) ht rfl

theorem setupAt_trainGranted : setupAt k (trainGranted j s) = setupAt k s := by
  simp only [trainGranted]; split
  · rfl
  · rename_i x hx
    exact setupAt_setTrain hx rfl

theorem keptByPasses_setupAt (k : TrainNo) (z : Option Train) : KeptByPasses fun s => setupAt k s = z where
  removed e x y s h _ _ := (setupAt_congr (removeAtPass_trains e x y s)).trans h
  kick e n _ _ s h _ _ _ _ := by
    rcases grantKick_trains e n s with ht | ⟨j, t, -, -, ht, hg⟩
    · exact (setupAt_congr ht).trans h
    · rw [hg, setupAt_trainGranted, setupAt_congr ht, h]
  hold e n _ _ x s h _ _ _ _ := (setupAt_congr (grantHold_trains e n x s)).trans h
  join _ _ h _ hp := (setupAt_joinHeld hp).trans h
  shrink _ _ h _ := h
  stay _ _ h _ := h
  mark _ _ h := h

/-- The end of an event leaves the setting up of every train (R94). -/
theorem setupAt_arbitrate : setupAt k (arbitrate s) = setupAt k s := arbitrate_invariant (keptByPasses_setupAt k _) rfl

/-- What an offer leaves of its request: the train waits with its entry, or is held where the queue has no place (R45, R94). -/
theorem offer_cases (h : s.trains[k] = some x) :
    offer k s = (submit (stepEntry s k x) s).2 ∨
    offer k s = ((submit (stepEntry s k x) s).2.setHeld ((submit (stepEntry s k x) s).2.held ++ [k])).setTrain k
      (some { x with held := true }) := by
  simp only [offer, h]
  generalize submit (stepEntry s k x) s = r
  obtain ⟨answer, u⟩ := r
  cases answer with
  | full => exact .inr rfl
  | merged | joined => exact .inl rfl

theorem setupAt_offer : setupAt k (offer j s) = setupAt k s := by
  cases hx : s.trains[j] with
  | none => simp only [offer, hx]
  | some x =>
    have same := submit_trains (stepEntry s j x) s
    have held (l : List TrainNo) : ((submit (stepEntry s j x) s).2.setHeld l).trains[j] = some x := by
      rw [State.setHeld_trains, same]; exact hx
    rcases offer_cases hx with h | h <;> rw [h]
    · exact setupAt_congr same
    · exact (setupAt_setTrain (y := { x with held := true }) (held _) rfl).trans (setupAt_congr same)

theorem setupAt_enterWait (k : TrainNo) (x : Train) (s : State) : setupAt k (enterWait k x s) = some x.setup := by
  rw [enterWait, setupAt_offer, setupAt, State.setTrain_trains, getElem_set_same]
  rfl

/-- A train that a setting up leaves in its context to the end of the event. -/
theorem arbitrate_setup (h : setupAt k s = some y) : ∃ z, (arbitrate s).trains[k] = some z ∧ z.setup = y :=
  train_of_setupAt (setupAt_arbitrate.trans h)

end

/-! ### The next pulse of a train -/

/-- A train with its next pulse granted at a moment (R94, R95). -/
def Train.grantedAt (now : Nat) (x : Train) : Train :=
  { x with state := .pulse, issued := x.issued + 1, inFlight := true,
           interval := some (now + intervalFor x.profile (x.issued + 1) x.planned * 1000) }

/-- A train whose every request is for its channel stands as it asked for its pulse, or has been granted it, at the present moment, and drives the
channel. -/
structure PulseAsked (k : TrainNo) (x : Train) (now : Nat) (s : State) : Prop where
  moment : s.now = now
  requests : ∀ e ∈ s.queue, e.source = .train k → e.channel = x.channel
  train : (∃ b, s.trains[k] = some { x with held := b }) ∨
    s.chans[x.channel].isKicking = true ∧ ∃ b, s.trains[k] = some { x.grantedAt now with held := b }

section
variable {s t : State} {k j : TrainNo} {x y : Train} {e : Entry} {now : Nat}

theorem trainGranted_of_some (h : s.trains[k] = some x) : trainGranted k s = s.setTrain k (some (x.grantedAt s.now)) := by
  simp only [trainGranted, h]
  rfl

/-- Nothing is granted on a channel that is KICKING, and nothing removed (R56). -/
theorem not_kicking_of_found {c : Chan} (hf : ∀ w, find s e ≠ .ineligible w) (hc : e.channel = c) : s.chans[c].isKicking = false := by
  subst hc
  cases ha : s.chans[e.channel].act with
  | kicking d n ends =>
    refine absurd (find_busy ?_) (hf .channelBusy)
    rw [Channel.isHolding, ha]
    split <;> simp
  | _ => rw [Channel.isKicking, ha]

theorem PulseAsked.keep (h : PulseAsked k x now s) (hn : t.now = s.now)
    (hq : ∀ e ∈ t.queue, e.source = .train k → e.channel = x.channel)
    (ht : ∀ y, s.trains[k] = some y → ∃ b, t.trains[k] = some { y with held := b })
    (hc : s.chans[x.channel].isKicking = true → t.chans[x.channel].isKicking = true) : PulseAsked k x now t where
  moment := hn.trans h.moment
  requests := hq
  train := by
    rcases h.train with ⟨b, hb⟩ | ⟨kicks, b, hb⟩
    · obtain ⟨b', hb'⟩ := ht _ hb
      exact .inl ⟨b', hb'⟩
    · obtain ⟨b', hb'⟩ := ht _ hb
      exact .inr ⟨hc kicks, b', hb'⟩

/-- A finding acted on that leaves the queue and the train alone. -/
theorem PulseAsked.found (h : PulseAsked k x now s) (hf : ∀ w, find s e ≠ .ineligible w) (kept : Kept s t) (hq : t.queue = s.queue)
    (ht : t.trains[k] = s.trains[k]) (o : OnlyOn e.channel s t) : PulseAsked k x now t := by
  refine h.keep kept.now (hq ▸ h.requests) (fun y hy => ⟨y.held, ht.trans hy⟩) fun kicks => ?_
  have apart : x.channel ≠ e.channel := fun he => by
    rw [not_kicking_of_found hf he.symm] at kicks
    cases kicks
  obtain ⟨same, -, -⟩ := o x.channel apart
  rwa [same]

theorem grantKick_step (n : Nat) (hk : e.kind = .stepPulse) (hs : e.source = .train k) :
    grantKick e n s = trainGranted k (beginKick e.channel .stepPulse e n s) := by
  simp only [grantKick, hk, hs]

theorem beginKick_kicks {c : Chan} (hc : e.channel = c) (kind : DriveKind) (n : Nat) (s : State) :
    (beginKick e.channel kind e n s).chans[c].isKicking = true := by
  subst hc
  rw [beginKick, State.setGuard_chans, setAct_chans, getElem_set_same]
  rfl

/-- The grant of a train's own request (R94). -/
theorem PulseAsked.grant (h : PulseAsked k x now s) (he : e ∈ s.queue) (hf : ∀ w, find s e ≠ .ineligible w) (n : Nat)
    (hk : e.kind = .stepPulse) (hs : e.source = .train k) : PulseAsked k x now (grantKick e n s) := by
  have channel := h.requests e he hs
  have waits : ∃ b, s.trains[k] = some { x with held := b } := h.train.resolve_right fun ⟨kicks, _⟩ => by
    rw [not_kicking_of_found hf channel] at kicks
    cases kicks
  obtain ⟨b, hb⟩ := waits
  have begun : (beginKick e.channel .stepPulse e n s).trains[k] = some { x with held := b } := by rw [beginKick_trains]; exact hb
  have moment : (beginKick e.channel .stepPulse e n s).now = now := (kept_beginKick _ _ _ _ s).now.trans h.moment
  rw [grantKick_step n hk hs, trainGranted_of_some begun, moment]
  refine ⟨moment, fun e' he' => h.requests e' ?_, .inr ⟨?_, b, getElem_set_same _ _ _⟩⟩
  · rwa [State.setTrain_queue, beginKick_queue] at he'
  · rw [State.setTrain_chans]
    exact beginKick_kicks channel _ n s

theorem keptByPasses_pulseAsked (k : TrainNo) (x : Train) (now : Nat) : KeptByPasses (PulseAsked k x now) where
  removed e a b s h _ hf := h.found (e := e) (fun w => by rw [hf]; simp) (kept_removeAtPass e a b s) (removeAtPass_queue e a b s)
    (by rw [removeAtPass_trains]) ((OnlyOn.refl e.channel s).removeAtPass e a b)
  kick e n _ _ s h he _ hf _ := by
    have found : ∀ w, find s e ≠ .ineligible w := fun w => by rw [hf]; simp
    by_cases own : e.kind = .stepPulse ∧ e.source = .train k
    · exact h.grant he found n own.1 own.2
    · refine h.found found (kept_grantKick e n s) (grantKick_queue e n s) ?_ ((OnlyOn.refl e.channel s).grantKick e n)
      rcases grantKick_trains e n s with ht | ⟨j, t, hk, hs, ht, hg⟩
      · rw [ht]
      · rw [hg, trainGranted_other t fun same => own ⟨hk, by rw [same]; exact hs⟩, ht]
  hold e n _ _ a s h _ _ hf _ := h.found (e := e) (fun w => by rw [hf]; simp) (kept_grantHold e n a s) (grantHold_queue e n a s)
    (by rw [grantHold_trains]) ((OnlyOn.refl e.channel s).grantHold e n a)
  join j s h _ hp := by
    have chans : (joinHeld j s).chans = s.chans := chans_of_beyondTrains (by simp)
    cases hj : s.trains[j] with
    | none => rw [joinHeld_of_none hj]; exact h
    | some y =>
      obtain ⟨q, b, eq, entries⟩ := joinHeld_of_some hj hp
      refine h.keep (kept_joinHeld j s).now (fun e he hs => ?_) (fun z hz => ?_) fun kicks => by rwa [chans]
      · rw [eq] at he
        rcases entries e he with rfl | ⟨e', he', hc, -, -, hs', -⟩
        · have own : j = k := Source.train.inj hs
          subst own
          rcases h.train with ⟨b, hb⟩ | ⟨-, b, hb⟩ <;> (rw [hj] at hb; cases hb; rfl)
        · exact hc.trans (h.requests e' he' (hs'.symm.trans hs))
      · rw [eq]
        by_cases own : k = j
        · subst own
          rw [hj] at hz
          cases hz
          exact ⟨false, getElem_set_same _ _ _⟩
        · exact ⟨z.held, (getElem_set_other _ _ own).trans hz⟩
  shrink _ _ h _ := ⟨h.moment, h.requests, h.train⟩
  stay q s h hq := ⟨h.moment, fun e he hs => by
    obtain ⟨e', he', w, rfl⟩ := hq e he
    exact h.requests e' he' hs, h.train⟩
  mark _ _ h := ⟨h.moment, h.requests, h.train⟩

theorem PulseAsked.arbitrate (h : PulseAsked k x now s) : PulseAsked k x now (arbitrate s) :=
  arbitrate_invariant (keptByPasses_pulseAsked k x now) h

/-- An entry after a request is the request's own or stood in the queue before it, but for its merges. -/
theorem mem_submit (e : Entry) (s : State) {x : Entry} (hx : x ∈ (submit e s).2.queue) : x = e ∨ ∃ y ∈ s.queue, x.alike y := by
  rcases submit_cases e s with ⟨-, h⟩ | ⟨-, -, h⟩ | ⟨c, -, -, -, h⟩ | ⟨-, -, -, h⟩ <;> rw [h] at hx
  · obtain ⟨y, hy, rfl⟩ := List.mem_map.mp hx
    refine .inr ⟨y, hy, ?_⟩
    split
    · exact ⟨rfl, rfl, rfl, rfl, rfl⟩
    · exact y.alike_refl
  · exact ((mem_insertEntry e x s.queue).mp hx).imp_right fun hx => ⟨x, hx, x.alike_refl⟩
  · refine ((mem_insertEntry e x _).mp hx).imp_right fun hx => ⟨x, ?_, x.alike_refl⟩
    rw [dropYoungest, List.mem_reverse] at hx
    exact List.mem_reverse.mp (List.mem_of_mem_eraseP hx)
  · exact .inr ⟨x, hx, x.alike_refl⟩

/-- A train that offers its next pulse stays in its context, and its request is all that the queue is given. -/
theorem offer_of_some (h : s.trains[k] = some x) :
    (offer k s).queue = (submit (stepEntry s k x) s).2.queue ∧ ∃ b, (offer k s).trains[k] = some { x with held := b } := by
  rcases offer_cases h with hs | hs <;> rw [hs]
  · exact ⟨rfl, x.held, by rw [submit_trains]; exact h⟩
  · exact ⟨rfl, true, getElem_set_same _ _ _⟩

/-- A train that enters WAIT while no entry is of its context asks for its pulse. -/
theorem enterWait_asks (k : TrainNo) (x : Train) {s : State} (hq : ∀ e ∈ s.queue, e.source ≠ .train k) :
    PulseAsked k { x with state := .wait } s.now (enterWait k x s) := by
  obtain ⟨queue, stands⟩ := offer_of_some (s := s.setTrain k (some { x with state := .wait })) (getElem_set_same _ _ _)
  refine ⟨(kept_enterWait k x s).now, fun e he hs => ?_, .inl stands⟩
  rw [enterWait, queue] at he
  rcases mem_submit _ _ he with rfl | ⟨y, hy, -, -, -, same, -⟩
  · rfl
  · exact absurd (same.symm.trans hs) (hq y hy)

end

end Sys2Proof.Machine
end

section
/-! SUPPORT. Orders that are heard in LIVE and name a thing, and the Run order: a bare train started or extended, and its refusals (R93 to R95, R99,
R103, R156, R169). -/

namespace Sys2Proof.Machine

set_option Elab.async false

/-! ### Orders that call for no pass, and orders in LIVE -/

section
variable {i : Instr} {f : Head} {act : State → State} {s t : State}

/-- What a heard order makes of the state ends its event where it calls for no pass (R55, R156). -/
theorem orderFrame_of_not_due (hf : Heard f s) (ht : act (heard (encodeFrame i) s) = t) (hp : t.passDue = false) :
    orderFrame i f act s = t := by
  rw [orderFrame_heard hf, ht, arbitrate_of_not_due hp]

variable {tag b : Byte} {n : Nat} {obey : Fin n → State → State}

theorem inLive_withRef_of_val {j : Fin n} (h : s.node.st = .live) (hb : b.toNat = j.val) :
    inLive tag (withRef tag n b obey) s = obey j s := by
  rw [inLive, if_pos h, withRef_of_val hb]

theorem inLive_withRef_of_ge (h : s.node.st = .live) (hb : n ≤ b.toNat) :
    inLive tag (withRef tag n b obey) s = turnedAway tag .range s := by
  rw [inLive, if_pos h, withRef_of_ge hb]

end

/-! ### The extension of a train (R98, R99) -/

section
variable {s : State} {k : TrainNo} {x : Train} {m : Nat}

theorem extend_overflow (hx : s.trains[k] = some x) (h : 1023 < x.planned + m) : extend k m s = none := by
  have exceeds : Config.maxPlanned < x.planned + m := h
  simp only [extend, hx, if_pos exceeds]

theorem extend_running (hx : s.trains[k] = some x) (h : x.planned + m ≤ 1023) (hv : x.state ≠ .verify) :
    extend k m s = some (s.setTrain k (some { x with planned := x.planned + m })) := by
  have within : ¬ Config.maxPlanned < x.planned + m := Nat.not_lt.mpr h
  simp only [extend, hx, if_neg within, if_neg hv]

end

/-! ### The Run order -/

section
variable {tag ch n : Byte} {si fi : Half} {d k : Byte} {c : Chan} {s : State}

theorem obeyRun_range (hl : s.node.st = .live) (hc : 23 < ch.toNat) : obeyRun tag ch n si fi d k s = turnedAway tag .range s :=
  inLive_withRef_of_ge hl hc

theorem obeyRun_refused {why : Reason} (hl : s.node.st = .live) (hc : ch.toNat = c.val) (hr : driveRefusal s c = some why) :
    obeyRun tag ch n si fi d k s = turnedAway tag why s := by
  rw [obeyRun, inLive_withRef_of_val hl hc, hr]
  rfl

theorem obeyRun_taken (hl : s.node.st = .live) (hc : ch.toNat = c.val) (hr : driveRefusal s c = none) :
    obeyRun tag ch n si fi d k s = runOn tag c (max 1 n.toNat) (profileOf si fi d k) s := by
  rw [obeyRun, inLive_withRef_of_val hl hc, hr, clamp_byte]

variable {t : TrainNo} {m : Nat} {p : Profile}

theorem runOn_busy (hn : trainOn s c = none) (hf : firstFree s = none) : runOn tag c m p s = turnedAway tag .busy s := by
  simp only [runOn, hn, hf, refuseOrder_eq]

theorem runOn_overflow {x : Train} (ht : trainOn s c = some t) (hx : s.trains[t] = some x) (h : 1023 < x.planned + m) :
    runOn tag c m p s = turnedAway tag .overflow s := by
  simp only [runOn, ht, extend_overflow hx h, refuseOrder_eq]

theorem runOn_extends {x : Train} (ht : trainOn s c = some t) (hx : s.trains[t] = some x) (h : x.planned + m ≤ 1023)
    (hv : x.state ≠ .verify) : runOn tag c m p s = s.setTrain t (some { x with planned := x.planned + m }) := by
  simp only [runOn, ht, extend_running hx h hv]

/-- The profile of a Run order, as clamped (R95). -/
theorem profileOf_eq (si fi : Half) (d k : Byte) :
    profileOf si fi d k = { start := max 10 (min si.toNat 500), floor := max 10 (min fi.toNat (max 10 (min si.toNat 500))),
                            ramp := d.toNat, idle := min k.toNat 7 } := by
  rw [profileOf, clamp_zero]
  rfl

/-- The bare train that a Run order starts (R103). -/
def bareTrain (c : Chan) (m : Nat) (p : Profile) : Train :=
  { state := .wait, owner := .bare, channel := c, planned := m, profile := p }

/-- A train started without a request of its context outstanding waits at the end of the event, or its first pulse has been granted (R94, R95). -/
theorem started_waits_or_pulses {x y : Train} (hq : ∀ e ∈ s.queue, e.source ≠ .train t)
    (hy : (arbitrate (enterWait t x s)).trains[t] = some y) (h₀ : x.issued = 0) (hi : x.interval = none) :
    (y.state = .wait ∧ y.issued = 0 ∧ y.interval = none) ∨
    (y.state = .pulse ∧ y.issued = 1 ∧ y.inFlight = true ∧ y.interval = some (s.now + intervalFor y.profile 1 y.planned * 1000)) := by
  rcases (enterWait_asks t x hq).arbitrate.train with ⟨b, hb⟩ | ⟨-, b, hb⟩ <;> (rw [hb] at hy; cases hy)
  · exact .inl ⟨rfl, h₀, hi⟩
  · exact .inr ⟨rfl, congrArg (· + 1) h₀, rfl, by simp only [Train.grantedAt, h₀, Nat.zero_add]⟩

end

/-- Settles O22: the checks of R103 in order, a train in the first FREE context followed to the end of the event, and the extension of the one there is. -/
theorem runStartsOrExtendsABareTrain : Obligations.RunStartsOrExtendsABareTrain := by
  unfold Obligations.RunStartsOrExtendsABareTrain
  intro f ch n si fi d k s hf hl h count
  have live : h.node.st = .live := hl
  obtain ⟨-, -, -, -, due⟩ := id hf
  have ends {t : State} (ht : obeyRun f.tag ch n si fi d k h = t) (hp : t.passDue = false) : exec (.run f ch n si fi d k) s = .next t :=
    congrArg _ (orderFrame_of_not_due hf ht hp)
  refine ⟨fun hc => ends (obeyRun_range live hc) due, fun c hc => ?_⟩
  have refused {why : Reason} (hr : driveRefusal h c = some why) : exec (.run f ch n si fi d k) s = .next (turnedAway f.tag why h) :=
    ends (obeyRun_refused live hc hr) due
  refine ⟨fun hcl => refused (driveRefusal_claimed hcl), fun hcl he => refused (driveRefusal_disabled hcl he),
    fun hcl he hk => refused (driveRefusal_locked hcl he (isLocked_iff.mp hk)), fun hcl he hk => ?_⟩
  have free : driveRefusal s c = none := driveRefusal_none hcl he (isLocked_eq_false_iff.mp hk)
  have taken := obeyRun_taken (tag := f.tag) (n := n) (si := si) (fi := fi) (d := d) (k := k) (s := h) live hc free
  refine ⟨fun t₀ hn ht => ?start, fun hn ht => ends (taken.trans (runOn_busy hn ht)) due, fun t₀ x ht hx _ =>
    ⟨fun exceeds => ends (taken.trans (runOn_overflow ht hx exceeds)) due,
      fun fits hv => ends (taken.trans (runOn_extends (s := h) ht hx fits hv)) due⟩⟩
  case start =>
    let x := bareTrain c count (profileOf si fi d k)
    obtain ⟨y, hy, setup⟩ := arbitrate_setup (setupAt_enterWait t₀ x h)
    have kept : Kept h (arbitrate (enterWait t₀ x h)) := (kept_enterWait t₀ x h).trans (kept_arbitrate _)
    have planned : y.planned = count := (congrArg Train.planned setup :)
    have profile : y.profile = profileOf si fi d k := (congrArg Train.profile setup :)
    refine ⟨_, y, execRun_started hf hl hc free hn ht, hy, (congrArg Train.owner setup :), (congrArg Train.channel setup :),
      planned, by rw [profile, profileOf_eq], by rw [profile, profileOf_eq], by rw [profile, profileOf_eq], by rw [profile, profileOf_eq],
      kept.tables, kept.banks, kept.units, kept.node, fun hq _ => ?_⟩
    rw [← planned]
    exact started_waits_or_pulses (s := h) hq hy rfl rfl

end Sys2Proof.Machine
end

section
/-! SUPPORT. The Cancel order (R104, R105, R115, R123). -/

namespace Sys2Proof.Machine

set_option Elab.async false

section
variable {tag number : Byte} {c : Chan} {u : UnitNo} {b : BankNo} {k : TrainNo} {s : State}

/-! ### The target of the order -/

theorem obeyCancel_channel (hc : number.toNat = c.val) :
    obeyCancel tag 0 number s = if claimed s c then turnedAway tag .claimed s else cancelOf (trainOn s c) s := by
  rw [obeyCancel]
  exact withRef_of_val hc s

theorem obeyCancel_unit (hu : number.toNat = u.val) : obeyCancel tag 1 number s = cancelOf (trainOf s (.counter u)) s := withRef_of_val hu s

theorem obeyCancel_bank (hb : number.toNat = b.val) : obeyCancel tag 2 number s = cancelBank b s := withRef_of_val hb s

theorem obeyCancel_range {target : Byte}
    (h : 2 < target.toNat ∨ (target = 0 ∧ 23 < number.toNat) ∨ ((target = 1 ∨ target = 2) ∧ 3 < number.toNat)) :
    obeyCancel tag target number s = turnedAway tag .range s := by
  rcases h with h | ⟨rfl, h⟩ | ⟨rfl | rfl, h⟩
  · rw [obeyCancel]
    split
    · omega
    · omega
    · omega
    · rfl
  · rw [obeyCancel]
    exact withRef_of_ge h s
  · exact withRef_of_ge h s
  · exact withRef_of_ge h s

/-! ### What a cancelling leaves of the models -/

theorem cancelOf_none {o : Option TrainNo} (h : o = none) : cancelOf o s = s := by rw [h, cancelOf]

theorem cancelTrain_of_bare {x : Train} (hx : s.trains[k] = some x) (ho : x.owner = .bare) : cancelTrain k s = freeTrain k s := by
  simp only [cancelTrain, hx, ho]

/-- A unit whose train is cancelled loses its pending opposite count and its position (R123). -/
theorem cancelTrain_unit {x : Train} (hx : s.trains[k] = some x) (ho : x.owner = .counter u) :
    (cancelTrain k s).units[u].opposite = 0 ∧ (cancelTrain k s).units[u].position = none := by
  simp only [cancelTrain, hx, ho, State.setUnit_units, getElem_set_same, and_self]

theorem cancelBank_of_none (h : bankTrains s b = []) : cancelBank b s = s := by
  rw [cancelBank, if_pos (List.isEmpty_iff.mpr h)]

theorem cancelBank_of_some (h : bankTrains s b ≠ []) :
    cancelBank b s = (freeBank b s).setBank b { (s.banks[b]).forgotten with state := .idle } := by
  rw [cancelBank, if_neg (mt List.isEmpty_iff.mp h), ← (kept_freeBank b s).banks]

theorem forgotten_position {x : Bank} {r : Reel} (h : r ∈ x.forgotten.reels) : r.position = none := by
  obtain ⟨_, -, rfl⟩ := List.mem_map.mp h
  rfl

end

/-- Settles O23: a cancelled context is gone and stays gone to the end of the event, and its unit or bank is as R115 and R123 leave it. -/
theorem cancelFreesTrains : Obligations.CancelFreesTrains := by
  unfold Obligations.CancelFreesTrains
  intro f number s hf h
  obtain ⟨-, -, -, -, due⟩ := id hf
  have runs {target : Byte} {t : State} (ht : obeyCancel f.tag target number (h target) = t) :
      exec (.cancel f target number) s = .next (arbitrate t) := congrArg _ ((orderFrame_heard hf).trans (congrArg arbitrate ht))
  have ends {target : Byte} {t : State} (ht : obeyCancel f.tag target number (h target) = t) (hp : t.passDue = false) :
      exec (.cancel f target number) s = .next t := congrArg _ (orderFrame_of_not_due hf ht hp)
  have unclaimed {c : Chan} (hc : number.toNat = c.val) (hcl : claimed s c = false) :
      obeyCancel f.tag 0 number (h 0) = cancelOf (trainOn s c) (h 0) :=
    (obeyCancel_channel hc).trans (if_neg (Bool.eq_false_iff.mp hcl))
  refine ⟨?bare, ?unit, ?bank, fun c hc => ⟨fun hcl => ends ((obeyCancel_channel hc).trans (if_pos hcl)) due, fun hcl hn => ?none⟩,
    fun u hu hn => ends ((obeyCancel_unit hu).trans (cancelOf_none hn)) due,
    fun b hb hn => ends ((obeyCancel_bank hb).trans (cancelBank_of_none hn)) due, fun target hr => ends (obeyCancel_range hr) due⟩
  case none => exact ends ((unclaimed hc hcl).trans (cancelOf_none hn)) due
  case bare =>
    intro c t₀ x hc hcl ht hx ho
    have freed : obeyCancel f.tag 0 number (h 0) = freeTrain t₀ (h 0) := by
      rw [unclaimed hc hcl, ht]
      exact cancelTrain_of_bare hx ho
    have kept : Kept (h 0) (arbitrate (freeTrain t₀ (h 0))) := (kept_freeTrain t₀ _).trans (kept_arbitrate _)
    obtain ⟨free, quiet, unheld⟩ := ((Drains.refl _).arbitrate).gone (freeTrain_gone t₀ (h 0))
    exact ⟨_, runs freed, free, unheld, quiet, kept.tables, kept.units, kept.banks⟩
  case unit =>
    intro u t₀ hu ht
    obtain ⟨x, hx, ho⟩ := trainOf_eq_some ht
    have cancelled : obeyCancel f.tag 1 number (h 1) = cancelTrain t₀ (h 1) := by
      rw [obeyCancel_unit hu]
      exact congrArg (cancelOf · (h 1)) ht
    obtain ⟨free, quiet, unheld⟩ := ((Drains.refl _).arbitrate).gone (cancelTrain_gone (s := h 1) hx)
    obtain ⟨opposite, position⟩ := cancelTrain_unit (s := h 1) hx ho
    have units := (kept_arbitrate (cancelTrain t₀ (h 1))).units
    exact ⟨_, runs cancelled, free, unheld, quiet, by rw [units]; exact opposite, by rw [units]; exact position,
      tablesKept_of_beyondDrives (s := h 1) (by simp)⟩
  case bank =>
    intro b hb hn
    have cancelled := (obeyCancel_bank (tag := f.tag) hb).trans (cancelBank_of_some (s := h 2) hn)
    let u := (freeBank b (h 2)).setBank b { ((h 2).banks[b]).forgotten with state := .idle }
    have bank : (arbitrate u).banks[b] = { (s.banks[b]).forgotten with state := .idle } := by
      rw [(kept_arbitrate u).banks]
      exact getElem_set_same _ _ _
    refine ⟨_, runs cancelled, fun k hk => ?_, by rw [bank], fun r hr => ?_, by rw [bank]; rfl,
      tablesKept_of_beyondDrives (s := h 2) ((beyondDrives_arbitrate u).trans (kept_freeBank b _).beyondDrives)⟩
    · obtain ⟨free, -, unheld⟩ := (((Drains.refl _).setBank b _).arbitrate).gone (freeBank_gone (s := h 2) hk)
      exact ⟨free, unheld⟩
    · rw [bank] at hr
      exact forgotten_position hr

end Sys2Proof.Machine
end

section
/-! SUPPORT. A step at its unit: why it is refused, the train it starts, and its netting with the train that runs and the pending opposite count
(R99 to R101, R120, R121). -/

namespace Sys2Proof.Machine

set_option Elab.async false

section
variable {s : State} {u : UnitNo} {d : Dir} {m : Nat} {k : TrainNo} {y : Train} {c : Chan} {who : Asker}

/-! ### The refusals of a step (R120) -/

theorem limit_stepDir (x : CounterUnit) (n : Int) : x.limit (stepDir n) = if 0 < n then x.top else x.zero := by
  rw [stepDir]; split <;> rfl

theorem channelOf_stepDir {x : CounterUnit} {n : Int} (h : (if 0 < n then x.up else x.down).toNat = c.val) :
    x.channelOf (stepDir n) = some c := by
  rw [stepDir]
  split at h <;> rename_i hn
  · rw [if_pos hn]; exact refOf_of_val h
  · rw [if_neg hn]; exact refOf_of_val h

theorem stepFromLimit_refused {why : Reason} (h : stepRefusal s u d m = some why) : stepFromLimit who u d m s = refuse who why s := by
  simp only [stepFromLimit, h]

section
variable (ht : trainOf s (.counter u) = none) (hc : s.units[u].channelOf d = some c)
include ht hc

theorem stepRefusal_of_start {why : Reason} (h : startRefusal s c = some why) : stepRefusal s u d m = some why := by
  simp only [stepRefusal, ht, hc, h]

theorem stepRefusal_busy (h : startRefusal s c = none) (hk : firstFree s = none) : stepRefusal s u d m = some .busy := by
  simp only [stepRefusal, ht, hc, h, hk]
  rfl

end

theorem startRefusal_disabled (h : s.coils[c].enabled = false) : startRefusal s c = some .disabled := by
  simp only [startRefusal, h, Bool.not_false, if_true]

theorem startRefusal_locked (h : s.coils[c].enabled = true) (hl : s.chans[c].isLocked = true) : startRefusal s c = some .locked := by
  simp only [startRefusal, h, hl, Bool.not_true, Bool.false_eq_true, if_false, if_true]

section
variable (ht : trainOf s (.counter u) = some k) (hy : s.trains[k] = some y)
include ht hy

theorem stepFromLimit_overflow (hd : y.dir = d) (h : 1023 < y.planned + (m - s.units[u].opposite)) :
    stepFromLimit who u d m s = refuse who .overflow s := by
  have exceeds : Config.maxPlanned < y.planned + (m - s.units[u].opposite) := h
  refine stepFromLimit_refused ?_
  simp only [stepRefusal, ht, stepOverflows, hy, beq_iff_eq.mpr hd, decide_eq_true exceeds, Bool.and_self, if_true]

/-- A step that would not overflow its unit's train is netted against it (R121). -/
theorem stepFromLimit_nets (h : y.dir = d → y.planned + (m - s.units[u].opposite) ≤ 1023) :
    stepFromLimit who u d m s = netStep k u d m s := by
  have fits : (y.dir == d && decide (Config.maxPlanned < y.planned + (m - s.units[u].opposite))) = false := by
    rw [Bool.and_eq_false_iff]
    by_cases hd : y.dir = d
    · exact .inr (decide_eq_false (Nat.not_lt.mpr (h hd)))
    · exact .inl (beq_eq_false_iff_ne.mpr hd)
  simp only [stepFromLimit, stepRefusal, takeStep, ht, stepOverflows, hy, fits, Bool.false_eq_true, if_false]

end

/-! ### The netting of a step (R100) -/

section
variable (hy : s.trains[k] = some y)
include hy

theorem netStep_paid (hd : y.dir = d) (hm : m ≤ s.units[u].opposite) :
    netStep k u d m s = s.setUnit u { s.units[u] with opposite := s.units[u].opposite - m } := by
  simp only [netStep, hy, if_pos hd.symm, if_pos hm]

theorem netStep_extends (hd : y.dir = d) (hm : s.units[u].opposite < m) (hp : y.planned + (m - s.units[u].opposite) ≤ 1023)
    (hv : y.state ≠ .verify) :
    netStep k u d m s = (s.setUnit u { s.units[u] with opposite := 0 }).setTrain k
      (some { y with planned := y.planned + (m - s.units[u].opposite) }) := by
  simp only [netStep, hy, if_pos hd.symm, if_neg (Nat.not_le.mpr hm), extended]
  rw [extend_running (s := s.setUnit u _) hy hp hv, Option.getD_some]

theorem netStep_pending (hd : y.dir ≠ d) (hp : 0 < s.units[u].opposite) :
    netStep k u d m s = s.setUnit u { s.units[u] with opposite := min 99 (s.units[u].opposite + m) } := by
  simp only [netStep, hy, if_neg hd.symm, if_pos hp]

theorem netStep_shortens (hd : y.dir ≠ d) (hp : s.units[u].opposite = 0) (hm : m < y.planned - y.issued) :
    netStep k u d m s = s.setTrain k (some { y with planned := y.planned - m }) := by
  simp only [netStep, hy, if_neg hd.symm, hp, Nat.lt_irrefl, if_false, if_pos hm]

theorem netStep_ends (hd : y.dir ≠ d) (hp : s.units[u].opposite = 0) (hm : y.planned - y.issued ≤ m) :
    netStep k u d m s = endAtIssued k (s.setUnit u { s.units[u] with opposite := m - (y.planned - y.issued) }) := by
  simp only [netStep, hy, if_neg hd.symm, hp, Nat.lt_irrefl, if_false, if_neg (Nat.not_lt.mpr hm)]

theorem endAtIssued_of_pulsing (hs : y.state = .pulse ∨ y.state = .gap) :
    endAtIssued k s = s.setTrain k (some { y with planned := y.issued }) := by
  simp only [endAtIssued, hy]
  rcases hs with hs | hs <;> rw [hs]

/-- A unit's train that has not been granted its pulse ends at once where it is brought to its end (R100, R101). -/
theorem endAtIssued_of_unit (hs : y.state = .wait ∨ y.state = .settle) (ho : y.owner = .counter u) :
    endAtIssued k s = endTrain k (s.setTrain k (some { y with planned := y.issued })) := by
  rcases hs with hs | hs
  · exact endAtIssued_of_waiting_unit hy hs ho
  · simp only [endAtIssued, hy, hs]

/-- A unit's train ends: its context is freed, its end recorded, and the pending opposite count starts its train (R97, R101). -/
theorem endTrain_of_unit (ho : y.owner = .counter u) :
    endTrain k s = startOpposite u y.dir.flipped (recordEnd u y (freeTrain k s)) := by
  simp only [endTrain, hy, ho]

end

/-! ### The train of the other direction (R101) -/

theorem flipped_of_ne : ∀ {d d' : Dir}, d' ≠ d → d'.flipped = d
  | .up, .down, _ => rfl
  | .down, .up, _ => rfl
  | .up, .up, h => absurd rfl h
  | .down, .down, h => absurd rfl h

theorem firstFree_of_free (h : s.trains[k] = none) : ∃ j, firstFree s = some j := by
  rw [← Option.isSome_iff_exists, firstFree, List.find?_isSome]
  exact ⟨k, List.mem_finRange k, by rw [h]; rfl⟩

theorem startOpposite_of_none (h : s.units[u].opposite = 0) : startOpposite u d s = s := by
  simp only [startOpposite, h, if_true]

/-- A unit with its pending opposite count taken. -/
def oppositeTaken (u : UnitNo) (s : State) : State := s.setUnit u { s.units[u] with opposite := 0 }

theorem oppositeTaken_opposite (u : UnitNo) (s : State) : (oppositeTaken u s).units[u].opposite = 0 := by
  rw [oppositeTaken, State.setUnit_units, getElem_set_same]

/-- A pending opposite count is taken, and starts its train where there is a channel that takes one and a context for it. -/
theorem startOpposite_cases (h : s.units[u].opposite ≠ 0) :
    (startOpposite u d s = oppositeTaken u s ∧
      ∀ c j, s.units[u].channelOf d = some c → firstFree s = some j → startRefusal s c ≠ none) ∨
    ∃ c j, s.units[u].channelOf d = some c ∧ firstFree s = some j ∧
      startOpposite u d s = startUnit j u d c s.units[u].opposite (oppositeTaken u s) := by
  have channel : (oppositeTaken u s).units[u].channelOf d = s.units[u].channelOf d := by
    rw [oppositeTaken, State.setUnit_units, getElem_set_same]
    rfl
  have free : firstFree (oppositeTaken u s) = firstFree s := rfl
  have refusal (c : Chan) : startRefusal (oppositeTaken u s) c = startRefusal s c := rfl
  obtain ⟨r, hr⟩ : ∃ r, startOpposite u d s = r := ⟨_, rfl⟩
  rw [hr]
  rw [startOpposite, if_neg h] at hr
  change (match (oppositeTaken u s).units[u].channelOf d, firstFree (oppositeTaken u s) with
    | some c, some j => if (startRefusal (oppositeTaken u s) c).isSome then oppositeTaken u s
        else startUnit j u d c s.units[u].opposite (oppositeTaken u s)
    | _, _ => oppositeTaken u s) = r at hr
  simp only [channel, free, refusal] at hr
  cases hc : s.units[u].channelOf d with
  | none => exact .inl ⟨by rw [← hr, hc], fun _ _ h => nomatch h⟩
  | some c =>
    cases hj : firstFree s with
    | none => exact .inl ⟨by rw [← hr, hc, hj], fun _ _ _ h => nomatch h⟩
    | some j =>
      cases hs : startRefusal s c with
      | some why =>
        simp only [hc, hj, hs, Option.isSome_some, if_true] at hr
        exact .inl ⟨hr.symm, fun c' _ h _ => by cases h; rw [hs]; exact nofun⟩
      | none =>
        simp only [hc, hj, hs, Option.isSome_none, Bool.false_eq_true, if_false] at hr
        exact .inr ⟨c, j, rfl, rfl, hr.symm⟩

theorem startOpposite_opposite (u : UnitNo) (d : Dir) (s : State) : (startOpposite u d s).units[u].opposite = 0 := by
  by_cases h : s.units[u].opposite = 0
  · rw [startOpposite_of_none h, h]
  · rcases startOpposite_cases h with ⟨hs, -⟩ | ⟨c, j, -, -, hs⟩ <;> rw [hs]
    · exact oppositeTaken_opposite u s
    · rw [(kept_startUnit _ _ _ _ _ _).units]; exact oppositeTaken_opposite u s

/-! ### The train that a step starts (R93, R101) -/

theorem setupAt_startUnit (k : TrainNo) (u : UnitNo) (d : Dir) (c : Chan) (m : Nat) (s : State) :
    setupAt k (startUnit k u d c m s) = some { state := .wait, owner := .counter u, channel := c, dir := d, planned := m,
                                               profile := s.units[u].profile, settle := settleUntil s s.units[u] d } := by
  cases h : settleUntil s s.units[u] d with
  | some ends =>
    simp only [startUnit, h, setupAt, State.setTrain_trains, getElem_set_same]
    rfl
  | none =>
    simp only [startUnit, h]
    exact setupAt_enterWait k _ s

/-- A fresh end of the other direction is waited out (R101). -/
theorem startUnit_settles {d' : Dir} {ended : Nat} (hl : s.units[u].last = some (d', ended)) (hd : d' ≠ d)
    (hn : s.now < ended + s.units[u].settle * 1000) :
    startUnit k u d c m s = s.setTrain k (some
      { state := .settle, owner := .counter u, channel := c, dir := d, planned := m, profile := s.units[u].profile,
        settle := some (ended + s.units[u].settle * 1000) }) := by
  have waits : settleUntil s s.units[u] d = some (ended + s.units[u].settle * 1000) := by
    simp only [settleUntil, hl]
    exact if_pos ⟨hd, hn⟩
  simp only [startUnit, waits]

end

end Sys2Proof.Machine
end

section
/-! SUPPORT. The Step order: the train of a unit started, extended, netted or turned (R99 to R101, R120, R121). -/

namespace Sys2Proof.Machine

set_option Elab.async false

/-! ### A train ended before its pulse (R100, R101) -/

/-- A unit's train ended with the rest of a step left pending. -/
def turnedBack (k : TrainNo) (u : UnitNo) (y : Train) (rest : Nat) (s : State) : State :=
  recordEnd u { y with planned := y.issued }
    (freeTrain k ((s.setUnit u { s.units[u] with opposite := rest }).setTrain k (some { y with planned := y.issued })))

section
variable {s : State} {u : UnitNo} {d : Dir} {m : Nat} {k : TrainNo} {y : Train} {c : Chan}

/-- A record of a train's end changes nothing of its unit but the settle record. -/
theorem recordEnd_unit (u : UnitNo) (x : Train) (s : State) : ∃ l, (recordEnd u x s).units[u] = { s.units[u] with last := l } := by
  rw [recordEnd]
  split
  · exact ⟨_, getElem_set_same _ _ _⟩
  · exact ⟨_, rfl⟩

theorem turnedBack_unit (k : TrainNo) (u : UnitNo) (y : Train) (rest : Nat) (s : State) :
    ∃ l, (turnedBack k u y rest s).units[u] = { s.units[u] with opposite := rest, last := l } := by
  obtain ⟨l, hl⟩ := recordEnd_unit u { y with planned := y.issued }
    (freeTrain k ((s.setUnit u { s.units[u] with opposite := rest }).setTrain k (some { y with planned := y.issued })))
  refine ⟨l, hl.trans ?_⟩
  rw [(kept_freeTrain k _).units, State.setTrain_units, State.setUnit_units, getElem_set_same]

theorem turnedBack_gone (k : TrainNo) (u : UnitNo) (y : Train) (rest : Nat) (s : State) : Gone k (turnedBack k u y rest s) :=
  ((Drains.refl _).recordEnd u _).gone (freeTrain_gone k _)

theorem turnedBack_startRefusal (rest : Nat) (c : Chan) (s : State) : startRefusal (turnedBack k u y rest s) c = startRefusal s c := by
  have same : (turnedBack k u y rest s).beyondTrains = s.beyondTrains := by simp [turnedBack]
  rw [startRefusal, startRefusal, chans_of_beyondTrains same, coils_of_beyondDrives (beyondDrives_of_beyondTrains same)]

/-- A step against a train without a pulse of its own left, which waits or settles, turns the unit (R100, R101). -/
theorem netStep_turns (hy : s.trains[k] = some y) (ho : y.owner = .counter u) (hd : y.dir ≠ d) (hp : s.units[u].opposite = 0)
    (hm : y.planned - y.issued ≤ m) (hs : y.state = .wait ∨ y.state = .settle) :
    netStep k u d m s = startOpposite u d (turnedBack k u y (m - (y.planned - y.issued)) s) := by
  rw [netStep_ends hy hd hp hm, endAtIssued_of_unit (s := s.setUnit u _) hy hs ho]
  exact (endTrain_of_unit (y := { y with planned := y.issued }) (getElem_set_same _ _ _) ho).trans
    (congrArg (fun d => startOpposite u d (turnedBack k u y _ s)) (flipped_of_ne hd))

/-- A step that nothing is left of ends the train and no more. -/
theorem turned_gone (h : m = 0) : Gone k (arbitrate (startOpposite u d (turnedBack k u y m s))) := by
  obtain ⟨l, unit⟩ := turnedBack_unit k u y m s
  rw [startOpposite_of_none (by rw [unit]; exact h)]
  exact ((Drains.refl _).arbitrate).gone (turnedBack_gone k u y m s)

/-- The rest of a step starts the train of the other direction in a context that is FREE, the ended train's if no other is. -/
theorem turned_starts (hm : m ≠ 0) (hc : s.units[u].channelOf d = some c) (hr : startRefusal s c = none) :
    ∃ (j : TrainNo) (z : Train),
      (arbitrate (startOpposite u d (turnedBack k u y m s))).trains[j] = some z ∧ z.course = (.counter u, c, d, m) := by
  obtain ⟨l, unit⟩ := turnedBack_unit k u y m s
  have channel : (turnedBack k u y m s).units[u].channelOf d = some c := by rw [unit]; exact hc
  have pending : (turnedBack k u y m s).units[u].opposite = m := by rw [unit]
  obtain ⟨j, free⟩ := firstFree_of_free (turnedBack_gone k u y m s).1
  rcases startOpposite_cases (d := d) (by rw [pending]; exact hm) with ⟨-, stuck⟩ | ⟨c', j', hc', -, run⟩
  · exact absurd ((turnedBack_startRefusal m c s).trans hr) (stuck c j channel free)
  · obtain ⟨z, hz, course⟩ := startUnit_course j' u d c' m (oppositeTaken u (turnedBack k u y m s))
    rw [pending] at run
    rw [run]
    obtain ⟨w, hw, same⟩ := (SameCourses.refl _).arbitrate.of_some hz
    rw [channel] at hc'
    cases hc'
    exact ⟨j', w, hw, same.trans course⟩

end

/-! ### The order at its unit -/

section
variable {tag ub count : Byte} {u : UnitNo} {s : State}

theorem obeyStep_range (hl : s.node.st = .live) (hu : 3 < ub.toNat) : obeyStep tag ub count s = turnedAway tag .range s :=
  inLive_withRef_of_ge hl hu

theorem obeyStep_of_zero (hl : s.node.st = .live) (hu : ub.toNat = u.val) (hn : stepCount count = 0) : obeyStep tag ub count s = s := by
  rw [obeyStep, inLive_withRef_of_val hl hu, if_pos hn]

theorem obeyStep_requests (hl : s.node.st = .live) (hu : ub.toNat = u.val) (hn : stepCount count ≠ 0) :
    obeyStep tag ub count s = requestStep (.order tag) u (stepCount count) s := by
  rw [obeyStep, inLive_withRef_of_val hl hu, if_neg hn]

theorem stepDir_up (n : Int) {α : Type} (a b : α) : (if stepDir n = .up then a else b) = if 0 < n then a else b := by
  rw [stepDir]
  split <;> rfl

theorem stepOrder_at_limit {n : Int} (hu : s.units[u].inUse = true) (hl : s.closedByte (s.units[u].limit (stepDir n)) = true) :
    requestStep (.order tag) u n s = { turnedAway tag .atLimit s with
      latches := s.latches ||| 0x802
      units := s.units.set u { s.units[u] with position := some (if 0 < n then s.units[u].maximum else 0) } } := by
  have latches : s.latches ||| latchMask .atLimit ||| 2 = s.latches ||| 0x802 := by rw [BitVec.or_assoc]; rfl
  rw [requestStep_at_limit hu hl, ← latches, ← stepDir_up]
  rfl

end

/-- Settles O26: the refusals of R120 in order, a new train followed to the end of the event, and each way R100 nets a step. -/
theorem stepStartsOrChangesTheUnitsTrain : Obligations.StepStartsOrChangesTheUnitsTrain := by
  unfold Obligations.StepStartsOrChangesTheUnitsTrain
  constructor
  · intro f ub count s hf hl hu
    obtain ⟨-, -, -, -, due⟩ := id hf
    exact congrArg _ (orderFrame_of_not_due hf (obeyStep_range hl hu) due)
  intro f ub count u s hf hl hu h n m x dir limit
  have live : h.node.st = .live := hl
  obtain ⟨-, -, -, -, due⟩ := id hf
  have ends {t : State} (ht : obeyStep f.tag ub count h = t) (hp : t.passDue = false) : exec (.step f ub count) s = .next t :=
    congrArg _ (orderFrame_of_not_due hf ht hp)
  have runs {t : State} (ht : obeyStep f.tag ub count h = t) : exec (.step f ub count) s = .next (arbitrate t) :=
    congrArg _ ((orderFrame_heard hf).trans (congrArg arbitrate ht))
  have requests (hn : n ≠ 0) : obeyStep f.tag ub count h = requestStep (.order f.tag) u n h := obeyStep_requests live hu hn
  have limits : limit = h.closedByte (x.limit dir) := congrArg h.closedByte (limit_stepDir x n).symm
  have away (hn : n ≠ 0) (hx : x.inUse = true) (ho : limit = false) :
      obeyStep f.tag ub count h = stepFromLimit (.order f.tag) u dir m h :=
    (requests hn).trans (requestStep_from_limit (s := h) hx (limits.symm.trans ho))
  refine ⟨fun hn => ends (obeyStep_of_zero live hu hn) due, fun hn hx => ends ((requests hn).trans (requestStep_unused (s := h) hx)) due,
    fun hn hx ho => ends ((requests hn).trans (stepOrder_at_limit (s := h) hx (limits.symm.trans ho))) due,
    ?refused, ?started, ?netted, ?pending⟩
  case refused =>
    intro c hn hx ho ht hc
    have turned {why : Reason} (hr : stepRefusal h u dir m = some why) : exec (.step f ub count) s = .next (turnedAway f.tag why h) :=
      ends ((away hn hx ho).trans (stepFromLimit_refused hr)) due
    have channel : x.channelOf dir = some c := channelOf_stepDir hc
    exact ⟨fun he => turned (stepRefusal_of_start (s := h) ht channel (startRefusal_disabled he)),
      fun he hk => turned (stepRefusal_of_start (s := h) ht channel (startRefusal_locked he hk)),
      fun he hk hf => turned (stepRefusal_busy (s := h) ht channel (startRefusal_none he hk) hf)⟩
  case started =>
    intro c k hn hx ho ht hc he hk hf
    have starts : obeyStep f.tag ub count h = startUnit k u dir c m h :=
      (away hn hx ho).trans (stepFromLimit_starts (s := h) ht (channelOf_stepDir hc) (startRefusal_none he hk) hf)
    obtain ⟨y, hy, setup⟩ := arbitrate_setup (setupAt_startUnit k u dir c m h)
    have kept : Kept h (arbitrate (startUnit k u dir c m h)) := (kept_startUnit k u dir c m h).trans (kept_arbitrate _)
    refine ⟨_, y, runs starts, hy, (congrArg Train.owner setup :), (congrArg Train.channel setup :), (congrArg Train.dir setup :),
      (congrArg Train.planned setup :), (congrArg Train.profile setup :), kept.units, kept.tables, fun d e hlast hd hnow => ?_⟩
    have settles := startUnit_settles (s := h) (u := u) (k := k) (c := c) (m := m) hlast hd hnow
    rw [settles, arbitrate_of_not_due (by exact due), State.setTrain_trains, getElem_set_same] at hy
    cases hy
    exact ⟨rfl, rfl, rfl⟩
  case netted =>
    intro k y hn hx ho ht hy hp
    have clear : h.units[u].opposite = 0 := hp
    have whole : m - h.units[u].opposite = m := by rw [clear, Nat.sub_zero]
    have unpaid : h.units[u].opposite < m := by rw [clear]; exact Int.natAbs_pos.mpr hn
    have nets (hm : y.dir = dir → y.planned + m ≤ 1023) : obeyStep f.tag ub count h = netStep k u dir m h :=
      (away hn hx ho).trans (stepFromLimit_nets (s := h) ht hy (by rwa [whole]))
    refine ⟨fun hd hv hm => ?extension, fun hd hm => ?overflows, fun hd hm => ?shortens, fun hd hm hs => ?cuts,
      fun hd hm hs => ?turns⟩
    case extension =>
      have extended := netStep_extends (s := h) (u := u) hy hd unpaid (by rwa [whole]) hv
      rw [whole] at extended
      exact ends ((nets fun _ => hm).trans extended) due
    case overflows =>
      have refused := stepFromLimit_overflow (who := .order f.tag) (s := h) (m := m) ht hy hd (by rwa [whole])
      exact ends ((away hn hx ho).trans refused) due
    case shortens => exact ends ((nets fun e => absurd e hd).trans (netStep_shortens (s := h) hy hd hp hm)) due
    case cuts =>
      have cut := endAtIssued_of_pulsing (s := h.setUnit u { x with opposite := m - (y.planned - y.issued) }) hy hs
      exact ends ((nets fun e => absurd e hd).trans ((netStep_ends (s := h) hy hd hp hm).trans cut)) due
    case turns =>
      have turned := netStep_turns (s := h) hy (owner_of_trainOf ht hy) hd hp hm hs
      have tables : TablesKept h (arbitrate (netStep k u dir m h)) :=
        tablesKept_of_beyondDrives ((beyondDrives_arbitrate _).trans (beyondDrives_of_beyondTrains (by simp)))
      rw [turned] at tables
      refine ⟨_, runs ((nets fun e => absurd e hd).trans turned), ?_, tables, fun hm => ?_, fun c hm hc he hk => ?_⟩
      · rw [(kept_arbitrate _).units]
        exact startOpposite_opposite u dir _
      · obtain ⟨free, quiet, -⟩ := turned_gone (s := h) (u := u) (d := dir) (k := k) (y := y) (Nat.sub_eq_zero_of_le (Nat.le_of_eq hm))
        exact ⟨free, quiet⟩
      · obtain ⟨j, z, hz, course⟩ := turned_starts (s := h) (u := u) (d := dir) (k := k) (y := y) (Nat.sub_ne_zero_of_lt hm)
          (channelOf_stepDir hc) (startRefusal_none he hk)
        simp only [Train.course, Prod.mk.injEq] at course
        obtain ⟨owner, channel, heading, planned⟩ := course
        exact ⟨j, z, hz, owner, channel, heading, planned⟩
  case pending =>
    intro k y hn hx ho ht hy hp hplanned
    have nets (hm : y.dir = dir → y.planned + (m - x.opposite) ≤ 1023) : obeyStep f.tag ub count h = netStep k u dir m h :=
      (away hn hx ho).trans (stepFromLimit_nets (s := h) ht hy hm)
    refine ⟨fun hd => ends ((nets fun e => absurd e hd).trans (netStep_pending (s := h) hy hd hp)) due,
      fun hd hm => ends ((nets fun _ => ?_).trans (netStep_paid (s := h) hy hd hm)) due,
      fun hd hm hfit hv => ends ((nets fun _ => hfit).trans (netStep_extends (s := h) hy hd hm hfit hv)) due,
      fun hd hm => ends ((away hn hx ho).trans (stepFromLimit_overflow (s := h) ht hy hd hm)) due⟩
    rwa [Nat.sub_eq_zero_of_le hm]

end Sys2Proof.Machine
end

section
/-! SUPPORT. A pulse offered in a calm state: granted at once, or waiting with its reason (R11, R30, R40, R53, R56, R58, R94, R95). -/

namespace Sys2Proof.Machine

set_option Elab.async false

/-- A pulse of a train can be granted at once: the relay is closed, the channel IDLE, the full kick allowed and the draw fitting (R30, R53, R56). -/
def PulseFits (x : Train) (s : State) : Prop :=
  s.node.relay = true ∧ s.chans[x.channel].act = .idle ∧
    kickFor s.coils[x.channel] s.heat[x.channel].q s.coils[x.channel].k = s.coils[x.channel].k ∧
    s.inUse + s.coils[x.channel].p ≤ budgetInForce s - s.settings.reserve

/-- The wait reason of a pulse that cannot be granted at once (R40, R56, R58). -/
def pulseWait (x : Train) (s : State) : Wait :=
  if s.node.relay = false then .notReached else if s.chans[x.channel].act ≠ .idle then .channelBusy
  else if kickFor s.coils[x.channel] s.heat[x.channel].q s.coils[x.channel].k = s.coils[x.channel].k then .budget else .heatWait

/-- The state in which a train has entered WAIT and no event is due. -/
def waitEntered (k : TrainNo) (x : Train) (s : State) : State := { s.setTrain k (some { x with state := .wait }) with passDue := false }

/-- The state in which the request of a train that has entered WAIT is all that waits, with the wait reason given. -/
def asking (k : TrainNo) (x : Train) (w : Wait) (s : State) : State :=
  { waitEntered k x s with queue := [{ stepEntry s k x with wait := w }] }

section
variable {k : TrainNo} {x : Train} {s : State}

/-- What a pulse granted at once leaves (R94, R95). -/
theorem pulseOffered_of_fits {y : Train} {t : State} (h : PulseFits x s) (hs : y.state = .pulse) (hn : y.issued = x.issued + 1)
    (hf : y.inFlight = true) (hi : y.interval = some (s.now + intervalFor x.profile (x.issued + 1) x.planned * 1000))
    (hq : t.queue = []) (hu : t.inUse = s.inUse + s.coils[x.channel].p)
    (ha : t.chans[x.channel].act =
      .kicking { kind := .stepPulse, source := .train k, persistent := false, began := s.now, charged := 0 } s.coils[x.channel].k
        (s.now + s.coils[x.channel].k * 1000)) : PulseOffered k x y s.now s t :=
  ⟨fun _ => ⟨hs, hn, hf, hq, hu, ha, hi⟩, fun hno => absurd h hno⟩

/-- What a pulse that waits leaves (R40). -/
theorem pulseOffered_of_waits (h : ¬ PulseFits x s) :
    PulseOffered k x { x with state := .wait } s.now s (asking k x (pulseWait x s) s) :=
  ⟨fun hfits => absurd hfits h, fun _ => ⟨rfl, rfl, rfl, rfl⟩⟩

/-- What a pass finds for a train's request on an IDLE channel (R30, R56). -/
theorem find_asked (q : List Entry) (ha : s.chans[x.channel].act = .idle) :
    find ((waitEntered k x s).setQueue q) (stepEntry s k x) =
      if kickFor s.coils[x.channel] s.heat[x.channel].q s.coils[x.channel].k = s.coils[x.channel].k then
        .kick (kickFor s.coils[x.channel] s.heat[x.channel].q s.coils[x.channel].k) (s.inUse + s.coils[x.channel].p)
          (budgetInForce s - s.settings.reserve)
      else .ineligible .heatWait :=
  find_stepPulse (e := stepEntry s k x) (s := (waitEntered k x s).setQueue q) rfl ha

section
variable (hc : Calm s)
include hc

/-- In a calm state a train's request joins alone (R94). -/
theorem enterWait_joins : enterWait k x s = ((waitEntered k x s).setQueue [stepEntry s k x]).callPass := by
  obtain ⟨hq, -⟩ := hc
  let w : Train := { x with state := .wait }
  let u := s.setTrain k (some w)
  have stands : u.trains[k] = some w := getElem_set_same _ _ _
  have empty : u.queue = [] := hq
  have joined : submit (stepEntry u k w) u = (.joined, (u.setQueue [stepEntry u k w]).callPass) := by
    rw [submit_joined (by rw [empty]; simp) (by rw [empty]; exact Nat.succ_pos _), empty]
    rfl
  change offer k u = _
  simp only [offer, stands, joined]
  rfl

/-- A pulse offered while the relay is open waits for a pass to reach it (R60). -/
theorem offered_open (hr : s.node.relay = false) : arbitrate (enterWait k x s) = asking k x .notReached s := by
  have unheld : ((waitEntered k x s).setQueue [stepEntry s k x]).callPass.held = [] := hc.2
  rw [enterWait_joins hc, arbitrate_unheld unheld rfl]
  exact pass_open hr

variable (hr : s.node.relay = true)
include hr

theorem offered_busy (ha : s.chans[x.channel].act ≠ .idle) : arbitrate (enterWait k x s) = asking k x .channelBusy s := by
  rw [enterWait_joins hc]
  exact alone_waits (s := waitEntered k x s) hc rfl hr (find_busy ha)

variable (ha : s.chans[x.channel].act = .idle)
include ha

theorem offered_hot (hk : kickFor s.coils[x.channel] s.heat[x.channel].q s.coils[x.channel].k ≠ s.coils[x.channel].k) :
    arbitrate (enterWait k x s) = asking k x .heatWait s := by
  rw [enterWait_joins hc]
  exact alone_waits (s := waitEntered k x s) hc rfl hr ((find_asked _ ha).trans (if_neg hk))

variable (hk : kickFor s.coils[x.channel] s.heat[x.channel].q s.coils[x.channel].k = s.coils[x.channel].k)
include hk

theorem offered_over (hb : budgetInForce s - s.settings.reserve < s.inUse + s.coils[x.channel].p) :
    arbitrate (enterWait k x s) = asking k x .budget s := by
  rw [enterWait_joins hc]
  exact alone_over (s := waitEntered k x s) hc rfl hr ((find_asked _ ha).trans (if_pos hk)) hb

/-- A pulse granted at once: its train, its kick and its draw (R94, R95). -/
theorem offered_granted (hb : s.inUse + s.coils[x.channel].p ≤ budgetInForce s - s.settings.reserve) :
    arbitrate (enterWait k x s) = { waitEntered k x s with
      queue := []
      trains := (waitEntered k x s).trains.set k (some (x.grantedAt s.now))
      chans := s.chans.set x.channel { s.chans[x.channel] with
        act := .kicking { kind := .stepPulse, source := .train k, persistent := false, began := s.now, charged := 0 }
          s.coils[x.channel].k (s.now + s.coils[x.channel].k * 1000) }
      guards := s.guards.set x.channel { s.guards[x.channel] with verdict := .noneYet, shortRun := 0, leakRun := 0 }
      inUse := s.inUse + s.coils[x.channel].p } := by
  let e := stepEntry s k x
  let u := (waitEntered k x s).setQueue [e]
  have idle : u.chans[x.channel].driven = false := not_driven_of_idle ha
  have stands : (beginKick x.channel .stepPulse e s.coils[x.channel].k u).trains[k] = some { x with state := .wait } := by
    rw [beginKick_trains]
    exact getElem_set_same _ _ _
  have found := (find_asked (k := k) [e] ha).trans (if_pos hk)
  rw [hk] at found
  rw [enterWait_joins hc, alone_granted (s := waitEntered k x s) hc rfl hr found hb, grantKick_step (k := k) _ rfl rfl]
  change (trainGranted k (beginKick x.channel .stepPulse e s.coils[x.channel].k u)).setQueue [] = _
  rw [trainGranted_of_some stands, beginKick_starts idle]
  rfl

end

/-- A pulse offered in a calm state, to the end of the event (R11, R94, R95). -/
theorem enterWait_offers (k : TrainNo) (x : Train) (hc : Calm s) :
    ∃ y, (arbitrate (enterWait k x s)).trains[k] = some y ∧ y.setup = x.setup ∧ (y.state = .wait → y.interval = x.interval) ∧
      PulseOffered k x y s.now s (arbitrate (enterWait k x s)) := by
  have waits (hn : ¬ PulseFits x s) (h : arbitrate (enterWait k x s) = asking k x (pulseWait x s) s) :
      ∃ y, (arbitrate (enterWait k x s)).trains[k] = some y ∧ y.setup = x.setup ∧ (y.state = .wait → y.interval = x.interval) ∧
        PulseOffered k x y s.now s (arbitrate (enterWait k x s)) := by
    rw [h]
    exact ⟨_, getElem_set_same _ _ _, rfl, fun _ => rfl, pulseOffered_of_waits hn⟩
  by_cases hr : s.node.relay = true
  case neg =>
    have down : s.node.relay = false := Bool.eq_false_iff.mpr hr
    refine waits (fun h => hr h.1) ?_
    rw [pulseWait, if_pos down]
    exact offered_open hc down
  have closed : ¬ s.node.relay = false := fun h => Bool.false_ne_true (h.symm.trans hr)
  by_cases ha : s.chans[x.channel].act = .idle
  case neg =>
    refine waits (fun h => ha h.2.1) ?_
    rw [pulseWait, if_neg closed, if_pos ha]
    exact offered_busy hc hr ha
  by_cases hk : kickFor s.coils[x.channel] s.heat[x.channel].q s.coils[x.channel].k = s.coils[x.channel].k
  case neg =>
    refine waits (fun h => hk h.2.2.1) ?_
    rw [pulseWait, if_neg closed, if_neg (not_not.mpr ha), if_neg hk]
    exact offered_hot hc hr ha hk
  by_cases hb : s.inUse + s.coils[x.channel].p ≤ budgetInForce s - s.settings.reserve
  case neg =>
    refine waits (fun h => hb h.2.2.2) ?_
    rw [pulseWait, if_neg closed, if_neg (not_not.mpr ha), if_pos hk]
    exact offered_over hc hr ha hk (Nat.not_le.mp hb)
  rw [offered_granted hc hr ha hk hb]
  refine ⟨x.grantedAt s.now, getElem_set_same _ _ _, rfl, nofun, pulseOffered_of_fits ⟨hr, ha, hk, hb⟩ rfl rfl rfl rfl rfl rfl ?_⟩
  exact congrArg Channel.act (getElem_set_same _ _ _)

end

end Sys2Proof.Machine
end

section
/-! SUPPORT. The interval timer and the direction settle timer of a train (R94, R95, R97, R98, R101, R113). -/

namespace Sys2Proof.Machine

set_option Elab.async false

/-! ### The check of a reel (R113) -/

section
variable {s : State} {b : BankNo} {r : Nat} {reel : Reel} {p : Fin 10} {inFlight : Bool}

/-- A reel's check finds nothing where the zero switch agrees with a known position, or there is nothing to check. -/
theorem reelCheck_passes (h : ∀ (reel : Reel) (p : Fin 10), s.banks[b].reels[r]? = some reel → reel.position = some p →
    s.banks[b].state = .adding → inFlight = false → s.inputs[reel.zero].closed = decide (p = 0)) : reelCheck b r inFlight s = s := by
  cases hr : s.banks[b].reels[r]? with
  | none => simp only [reelCheck, hr]
  | some reel =>
    cases hp : reel.position with
    | none => simp only [reelCheck, hr, hp]
    | some p =>
      simp only [reelCheck, hr, hp]
      refine if_neg fun ⟨hs, hf, hne⟩ => hne ?_
      have still : inFlight = false := by simpa using hf
      exact h reel p hr hp hs still

theorem reelCheck_fails (hr : s.banks[b].reels[r]? = some reel) (hp : reel.position = some p) (hs : s.banks[b].state = .adding)
    (hf : inFlight = false) (hz : s.inputs[reel.zero].closed ≠ decide (p = 0)) : reelCheck b r inFlight s = mismatch b r s := by
  have still : (!inFlight) = true := by rw [hf]; rfl
  simp only [reelCheck, hr, hp]
  exact if_pos ⟨hs, still, hz⟩

end

/-! ### The interval timer -/

/-- The state at an interval timer's expiry, the timer stopped. -/
def intervalStopped (k : TrainNo) (x : Train) (ends : Nat) (s : State) : State :=
  (s.reach ends).setTrain k (some { x with interval := none })

/-- The Unit Logic's check of a reel whose train's interval has expired (R113). -/
def intervalChecked (x : Train) (s : State) : State :=
  match x.owner with
  | .reel b r => reelCheck b r x.inFlight s
  | _ => s

/-- What a reel's check at the expiry of its train's interval asks of a known reel of an ADDING bank. -/
def CheckPasses (x : Train) (s : State) : Prop :=
  ∀ (b : BankNo) (r : Nat) (reel : Reel) (p : Fin 10), x.owner = .reel b r → s.banks[b].reels[r]? = some reel →
    reel.position = some p → s.banks[b].state = .adding → x.inFlight = false → s.inputs[reel.zero].closed = decide (p = 0)

section
variable {s : State} {k : TrainNo} {x : Train} {ends : Nat} {b : BankNo} {r : Nat} {u : UnitNo}

theorem intervalExpiry_eq (hx : s.trains[k] = some x) (hi : x.interval = some ends) :
    exec (.intervalExpiry k) s = .next (arbitrate (intervalCompared k (intervalChecked x (intervalStopped k x ends s)))) := by
  change Host.Outcome.next (intervalOver k s) = _
  simp only [intervalOver, hx, hi]
  rfl

theorem intervalChecked_passes (h : CheckPasses x s) : intervalChecked x s = s := by
  cases ho : x.owner with
  | reel b r =>
    rw [intervalChecked, ho]
    exact reelCheck_passes fun reel p hr hp hs hf => h b r reel p ho hr hp hs hf
  | counter | bare => rw [intervalChecked, ho]

theorem intervalStopped_train (k : TrainNo) (x : Train) (ends : Nat) (s : State) :
    (intervalStopped k x ends s).trains[k] = some { x with interval := none } := getElem_set_same _ _ _

/-! The comparison of n with N (R97). -/

theorem intervalCompared_goes_on (hx : s.trains[k] = some x) (h : x.issued < x.planned) : intervalCompared k s = enterWait k x s := by
  simp only [intervalCompared, hx, if_pos h]

theorem intervalCompared_ends (hx : s.trains[k] = some x) (h : x.planned ≤ x.issued) (ho : ∀ b r, x.owner ≠ .reel b r) :
    intervalCompared k s = endTrain k s := by
  cases hw : x.owner with
  | reel b r => exact absurd hw (ho b r)
  | counter | bare => simp only [intervalCompared, hx, if_neg (Nat.not_lt.mpr h), hw]

/-- A reel's train with no pulse left goes to VERIFY, and its bank waits for it (R98). -/
theorem intervalCompared_verifies (hx : s.trains[k] = some x) (h : x.planned ≤ x.issued) (ho : x.owner = .reel b r) :
    intervalCompared k s = s.setTrain k (some { x with state := .verify, verify := .running (s.now + x.profile.start * 1000) }) := by
  simp only [intervalCompared, hx, if_neg (Nat.not_lt.mpr h), ho]
  exact bankTest_waits (b := b) (r := r) (getElem_set_same _ _ _) rfl nofun

/-! The rows. -/

section
variable (hx : s.trains[k] = some x) (hi : x.interval = some ends)
include hx hi

theorem intervalExpiry_offers (hp : CheckPasses x s) (h : x.issued < x.planned) :
    exec (.intervalExpiry k) s = .next (arbitrate (enterWait k { x with interval := none } (intervalStopped k x ends s))) := by
  rw [intervalExpiry_eq hx hi, intervalChecked_passes (s := intervalStopped k x ends s) hp]
  exact congrArg (fun a => Host.Outcome.next (arbitrate a)) (intervalCompared_goes_on (intervalStopped_train k x ends s) h)

theorem intervalExpiry_verifies (hc : Calm s) (hp : CheckPasses x s) (h : x.planned ≤ x.issued) (ho : x.owner = .reel b r) :
    exec (.intervalExpiry k) s = .next { (intervalStopped k x ends s).setTrain k (some { x with
      state := .verify, interval := none, verify := .running (max s.now ends + x.profile.start * 1000) }) with passDue := false } := by
  rw [intervalExpiry_eq hx hi, intervalChecked_passes (s := intervalStopped k x ends s) hp,
    intervalCompared_verifies (intervalStopped_train k x ends s) h ho, arbitrate_calm (by exact hc)]
  rfl

theorem intervalExpiry_ends (h : x.planned ≤ x.issued) (ho : ∀ b r, x.owner ≠ .reel b r) :
    exec (.intervalExpiry k) s = .next (arbitrate (endTrain k (intervalStopped k x ends s))) := by
  have unchecked : intervalChecked x (intervalStopped k x ends s) = intervalStopped k x ends s :=
    intervalChecked_passes fun b r _ _ hr => absurd hr (ho b r)
  rw [intervalExpiry_eq hx hi, unchecked]
  exact congrArg (fun a => Host.Outcome.next (arbitrate a)) (intervalCompared_ends (intervalStopped_train k x ends s) h ho)

end

theorem endTrain_of_bare (hx : s.trains[k] = some x) (ho : x.owner = .bare) : endTrain k s = freeTrain k s := by
  simp only [endTrain, hx, ho]

/-- A unit's train that ends having issued a pulse, with no opposite count pending, is gone and recorded (R101). -/
theorem endTrain_recorded (hx : s.trains[k] = some x) (ho : x.owner = .counter u) (hn : 0 < x.issued) (hp : s.units[u].opposite = 0) :
    Gone k (endTrain k s) ∧ (endTrain k s).units[u] = { s.units[u] with last := some (x.dir, s.now) } := by
  refine ⟨endTrain_gone hx ho hp, ?_⟩
  have freed := kept_freeTrain k s
  have recorded : recordEnd u x (freeTrain k s) = (freeTrain k s).setUnit u { s.units[u] with last := some (x.dir, s.now) } := by
    rw [recordEnd, if_pos hn, freed.units, freed.now]
  have unit : (recordEnd u x (freeTrain k s)).units[u] = { s.units[u] with last := some (x.dir, s.now) } := by
    rw [recorded, State.setUnit_units, getElem_set_same]
  rw [endTrain_of_unit hx ho, startOpposite_of_none (by rw [unit]; exact hp), unit]

/-! ### The direction settle timer -/

theorem trainSettleExpiry_eq (hx : s.trains[k] = some x) (hs : x.settle = some ends) :
    exec (.trainSettleExpiry k) s = .next (arbitrate (enterWait k { x with settle := none } (s.reach ends))) := by
  change Host.Outcome.next (trainSettleOver k s) = _
  simp only [trainSettleOver, hx, hs]

end

/-- Settles O54: each expiry reduced to an offer, followed to the end of the event, or to the end of its train. -/
theorem intervalsAndSettleTimersRunTheTrains : Obligations.IntervalsAndSettleTimersRunTheTrains := by
  unfold Obligations.IntervalsAndSettleTimersRunTheTrains
  constructor
  case left =>
    intro k x ends s hx hi hc passes
    have calm : Calm (intervalStopped k x ends s) := hc
    refine ⟨fun hp h => ?offers, fun h ho => ?bare, fun u h hn ho hp => ?unit, fun b r hp h ho => ?reel⟩
    case offers =>
      obtain ⟨y, hy, setup, timer, offered⟩ := enterWait_offers k { x with interval := none } calm
      exact ⟨_, y, intervalExpiry_offers hx hi hp h, hy, (congrArg Train.planned setup :), (congrArg Train.owner setup :),
        (congrArg Train.channel setup :), timer, offered⟩
    case bare =>
      have freed := endTrain_of_bare (intervalStopped_train k x ends s) ho
      obtain ⟨free, -⟩ := ((Drains.refl _).arbitrate).gone (freeTrain_gone k (intervalStopped k x ends s))
      exact ⟨_, intervalExpiry_ends hx hi h (by rw [ho]; exact nofun), by rw [freed]; exact free⟩
    case unit =>
      obtain ⟨gone, unit⟩ := endTrain_recorded (intervalStopped_train k x ends s) ho hn hp
      obtain ⟨free, -⟩ := ((Drains.refl _).arbitrate).gone gone
      exact ⟨_, intervalExpiry_ends hx hi h (by rw [ho]; exact nofun), free, by rw [(kept_arbitrate _).units]; exact unit⟩
    case reel => exact ⟨_, intervalExpiry_verifies hx hi hc hp h ho, rfl, getElem_set_same _ _ _⟩
  case right =>
    intro k x ends s hx hs hc
    obtain ⟨y, hy, setup, -, offered⟩ := enterWait_offers (s := s.reach ends) k { x with settle := none } hc
    exact ⟨_, y, trainSettleExpiry_eq hx hs, hy, (congrArg Train.settle setup :), (congrArg Train.planned setup :), offered⟩

end Sys2Proof.Machine
end

section
/-! SUPPORT. What a check or the settling of a reel leaves of its bank, and the bank's return to IDLE (R98, R113, R114, R117). -/

namespace Sys2Proof.Machine

set_option Elab.async false

/-! ### Owners -/

section
variable {s t : State} {k : TrainNo} {x y : Train} {b : BankNo} {r : Nat}

theorem SameCourses.owner_test (h : SameCourses s t) (p : Owner → Bool) (j : TrainNo) :
    t.trains[j].any (fun x => p x.owner) = s.trains[j].any fun x => p x.owner := by
  have test (o : Option Train) : o.any (fun x => p x.owner) = (o.map Train.course).any fun c => p c.1 := by cases o <;> rfl
  rw [test, test, h j]

theorem SameCourses.trainOf (h : SameCourses s t) (o : Owner) : trainOf t o = trainOf s o := by
  have same := h.owner_test (· == o)
  simp only [Machine.trainOf, same]

theorem SameCourses.bankTrains (h : SameCourses s t) (b : BankNo) : bankTrains t b = bankTrains s b := by
  have same := h.owner_test fun o => match o with
    | .reel b' _ => b' == b
    | _ => false
  exact List.filter_congr fun j _ => same j

/-! ### A failed check (R113) -/

/-- A failed check of a reel whose train has had its last pulse granted or waits for its interval. -/
theorem mismatch_of_pulsing (ht : trainOf s (.reel b r) = some k) (hx : s.trains[k] = some x) (hs : x.state = .pulse ∨ x.state = .gap) :
    mismatch b r s = setLatch .reelMismatch ((setReel b r none s).setTrain k (some { x with planned := x.issued })) := by
  have trains := setReel_trains b r none s
  have owner : trainOf (setReel b r none s) (.reel b r) = some k := (SameCourses.of_trains (.refl s) trains).trainOf _ ▸ ht
  simp only [mismatch, owner]
  rw [limitEnd_of_pulsing (by rw [trains]; exact hx) hs]

/-- A failed check of a reel whose train is in VERIFY ends nothing of it (R102). -/
theorem mismatch_of_verifying (ht : trainOf s (.reel b r) = some k) (hx : s.trains[k] = some x) (hs : x.state = .verify) :
    mismatch b r s = setLatch .reelMismatch (setReel b r none s) := by
  have trains := setReel_trains b r none s
  have owner : trainOf (setReel b r none s) (.reel b r) = some k := (SameCourses.of_trains (.refl s) trains).trainOf _ ▸ ht
  have stands : (setReel b r none s).trains[k] = some x := by rw [trains]; exact hx
  simp only [mismatch, owner, limitEnd, stands, if_pos (Or.inr hs)]

/-- A reel that fails its check becomes Unknown, and ReelMismatch is set. -/
theorem mismatch_reel {reel : Reel} (h : s.reelAt b r = some reel) :
    (mismatch b r s).reelAt b r = some { reel with position := none } ∧ (mismatch b r s).latches.getLsbD 8 = true := by
  have unknown := reelAt_setReel_same none h
  constructor
  · simp only [mismatch]
    split
    · exact (reelAt_of_banks (limitEnd_banks _ _)).trans unknown
    · exact unknown
  · simp [mismatch, latchMask, latchBit]

/-! ### The bank's return to IDLE (R114, R117) -/

/-- Every reel of a bank at work is finished, and no kick runs on its channels. -/
def BankReady (b : BankNo) (s : State) : Prop :=
  s.banks[b].state ≠ .idle ∧ (∀ z ∈ s.banks[b].reels, s.chans[z.channel].isKicking = false) ∧
    ∀ k ∈ bankTrains s b, ∀ y, s.trains[k] = some y → y.finished = true

/-- The bank returned to IDLE: a zeroing that leaves every reel at 0 sets the rollover count to 0. -/
def Bank.returned (x : Bank) : Bank :=
  { x with state := .idle, rollover := if x.state == .zeroing && x.reels.all (fun r => r.position == some 0) then 0 else x.rollover }

theorem bankTest_eq (b : BankNo) (s : State) :
    (BankReady b s ∧ bankTest b s = (freeBank b s).setBank b s.banks[b].returned) ∨ (¬ BankReady b s ∧ bankTest b s = s) := by
  have quiet : (!bankKicking s s.banks[b]) = true ↔ ∀ z ∈ s.banks[b].reels, s.chans[z.channel].isKicking = false := by
    simp [bankKicking]
  have done : (bankTrains s b).all (fun t => s.trains[t].all Train.finished) = true ↔
      ∀ k ∈ bankTrains s b, ∀ y, s.trains[k] = some y → y.finished = true := by
    simp [List.all_eq_true, Option.all_eq_true]
  have ready : (s.banks[b].state ≠ .idle ∧ (!bankKicking s s.banks[b]) = true ∧
      (bankTrains s b).all (fun t => s.trains[t].all Train.finished) = true) ↔ BankReady b s := by rw [quiet, done]; rfl
  by_cases h : BankReady b s
  · exact .inl ⟨h, if_pos (ready.mpr h)⟩
  · exact .inr ⟨h, if_neg (mt ready.mp h)⟩

end

end Sys2Proof.Machine
end

section
/-! SUPPORT. The checks of reels at their intervals' and verify timers' expiries (R98, R113, R114, R117). -/

namespace Sys2Proof.Machine

set_option Elab.async false

/-! ### The interval timer of a reel that fails its check -/

section
variable {s : State} {k : TrainNo} {x : Train} {b : BankNo} {r : Nat} {reel : Reel} {p : Fin 10} {ends : Nat}

theorem sameCourses_intervalStopped (hx : s.trains[k] = some x) : SameCourses s (intervalStopped k x ends s) :=
  (SameCourses.of_trains (.refl s) (t := s.reach ends) rfl).setTrain hx rfl

/-- A reel that fails its check at its train's interval: it is Unknown, and its train goes to VERIFY with no further pulse (R98, R113). -/
theorem intervalExpiry_fails (ht : trainOf s (.reel b r) = some k) (hx : s.trains[k] = some x) (hi : x.interval = some ends)
    (hf : x.inFlight = false) (hr : s.banks[b].reels[r]? = some reel) (hp : reel.position = some p) (ha : s.banks[b].state = .adding)
    (hs : x.state = .pulse ∨ x.state = .gap) (hc : Calm s) (hz : s.inputs[reel.zero].closed ≠ decide (p = 0)) :
    ∃ t, exec (.intervalExpiry k) s = .next t ∧ t.reelAt b r = some { reel with position := none } ∧ t.latches.getLsbD 8 = true ∧
      ∃ y, t.trains[k] = some y ∧ y.planned = x.issued ∧ y.issued = x.issued ∧ y.state = .verify := by
  let u := intervalStopped k x ends s
  have owner := owner_of_trainOf ht hx
  have there : trainOf u (.reel b r) = some k := ((sameCourses_intervalStopped hx).trainOf _).trans ht
  have checked : intervalChecked x u = mismatch b r u := by
    rw [intervalChecked, owner]
    exact reelCheck_fails (s := u) hr hp ha hf hz
  have failed := mismatch_of_pulsing there (intervalStopped_train k x ends s) hs
  have calm : Calm (mismatch b r u) := by rw [failed]; exact ((Drains.refl u).setReel b r none).calm hc
  have stands : (mismatch b r u).trains[k] = some { x with interval := none, planned := x.issued } := by
    rw [failed]
    exact getElem_set_same _ _ _
  obtain ⟨unknown, latch⟩ := mismatch_reel (s := u) (b := b) hr
  have run : exec (.intervalExpiry k) s = .next (arbitrate (intervalCompared k (mismatch b r u))) := by
    rw [intervalExpiry_eq hx hi, checked]
  generalize mismatch b r u = v at run stands calm unknown latch
  rw [intervalCompared_verifies stands (Nat.le_refl _) owner, arbitrate_calm (by exact calm)] at run
  exact ⟨_, run, unknown, latch, _, getElem_set_same _ _ _, rfl, rfl, rfl⟩

end

/-! ### The work at a verify timer's expiry -/

/-- Only positions of a bank's reels and latches differ, as far as the bank's return to IDLE is concerned. -/
structure Repositioned (b : BankNo) (s t : State) : Prop where
  trains : t.trains = s.trains
  chans : t.chans = s.chans
  state : t.banks[b].state = s.banks[b].state
  rollover : t.banks[b].rollover = s.banks[b].rollover
  channels : t.banks[b].reels.map Reel.channel = s.banks[b].reels.map Reel.channel

section
variable {s t w : State} {k : TrainNo} {x : Train} {b : BankNo} {r : Nat} {reel : Reel} {inFlight : Bool} {ends : Nat}

theorem Repositioned.refl (b : BankNo) (s : State) : Repositioned b s s := ⟨rfl, rfl, rfl, rfl, rfl⟩

theorem Repositioned.setLatch (h : Repositioned b s t) (l : Latch) : Repositioned b s (setLatch l t) :=
  ⟨h.trains, h.chans, h.state, h.rollover, h.channels⟩

theorem repositioned_setReel (b : BankNo) (r : Nat) (p : Option (Fin 10)) (s : State) : Repositioned b s (setReel b r p s) := by
  cases hr : s.banks[b].reels[r]? with
  | none => simp only [setReel, hr]; exact .refl b s
  | some z =>
    obtain ⟨within, here⟩ := List.getElem?_eq_some_iff.mp hr
    simp only [setReel, hr]
    refine ⟨rfl, rfl, ?_, ?_, ?_⟩ <;> rw [State.setBank_banks, getElem_set_same]
    have same : Reel.channel { z with position := p } = (s.banks[b].reels.map Reel.channel)[r]'(by rwa [List.length_map]) := by
      rw [List.getElem_map, here]
    rw [List.map_set, same, List.set_getElem_self]

theorem repositioned_settleZero (b : BankNo) (r : Nat) (s : State) : Repositioned b s (settleZero b r s) := by
  simp only [settleZero]
  repeat' split
  · exact .refl b s
  · exact .refl b s
  · exact (repositioned_setReel b r none s).setLatch _
  · exact (Repositioned.refl b s).setLatch _
  · exact repositioned_setReel b r (some 0) s

theorem reelCheck_cases (b : BankNo) (r : Nat) (inFlight : Bool) (s : State) :
    reelCheck b r inFlight s = s ∨ reelCheck b r inFlight s = mismatch b r s := by
  simp only [reelCheck]
  repeat' split
  · exact .inl rfl
  · exact .inl rfl
  · exact .inr rfl
  · exact .inl rfl

/-- The work at the verify expiry of a train in VERIFY moves reels and no train. -/
theorem repositioned_verifyReel (ht : trainOf s (.reel b r) = some k) (hx : s.trains[k] = some x) (hs : x.state = .verify) :
    Repositioned b s (verifyReel b r inFlight s) := by
  rw [verifyReel]
  split
  · exact repositioned_settleZero b r s
  · rcases reelCheck_cases b r inFlight s with h | h <;> rw [h]
    · exact .refl b s
    · rw [mismatch_of_verifying ht hx hs]
      exact (repositioned_setReel b r none s).setLatch _

theorem verifyExpiry_eq (hx : s.trains[k] = some x) (ho : x.owner = .reel b r) (hv : x.verify = .running ends) :
    exec (.verifyExpiry k) s =
      .next (arbitrate (bankTest b (markVerified k (verifyReel b r x.inFlight (s.reach ends))))) := by
  change Host.Outcome.next (verifyOver k s) = _
  simp only [verifyOver, hx, hv, ho]

theorem markVerified_of_some (hx : s.trains[k] = some x) : markVerified k s = s.setTrain k (some { x with verify := .expired }) := by
  simp only [markVerified, hx]

theorem markVerified_reelAt (k : TrainNo) (s : State) : (markVerified k s).reelAt b r = s.reelAt b r := by
  rw [markVerified]
  split <;> rfl

/-- To the end of a verify expiry the reel stands as the Unit Logic's work left it, and no latch is cleared. -/
theorem verified_reel (k : TrainNo) (s : State) : (arbitrate (bankTest b (markVerified k s))).reelAt b r = s.reelAt b r := by
  rw [reelAt_of_banks (kept_arbitrate _).banks, reelAt_bankTest, markVerified_reelAt]

theorem verified_latches (b : BankNo) (k : TrainNo) {s : State} {i : Nat} (h : s.latches.getLsbD i = true) :
    (arbitrate (bankTest b (markVerified k s))).latches.getLsbD i = true := by
  refine (((Drains.refl _).bankTest b).arbitrate).latches i ?_
  rw [markVerified]
  split <;> exact h

/-- A verified train goes with its bank's return to IDLE, or stands with its timer expired. -/
theorem verified_train (hx : s.trains[k] = some x) (ho : x.owner = .reel b r) :
    (arbitrate (bankTest b (markVerified k s))).trains[k] = none ∨
      ∃ y, (arbitrate (bankTest b (markVerified k s))).trains[k] = some y ∧ y.verify = .expired := by
  have stands : (markVerified k s).trains[k] = some { x with verify := .expired } := by
    rw [markVerified_of_some hx]
    exact getElem_set_same _ _ _
  rcases bankTest_eq b (markVerified k s) with ⟨-, h⟩ | ⟨-, h⟩ <;> rw [h]
  · have gone := freeBank_gone (mem_bankTrains.mpr ⟨_, r, stands, ho⟩)
    obtain ⟨free, -⟩ := (((Drains.refl _).setBank b _).arbitrate).gone gone
    exact .inl free
  · obtain ⟨y, hy, setup⟩ := arbitrate_setup (setupAt_of_some stands)
    exact .inr ⟨y, hy, (congrArg Train.verify setup :)⟩

/-! ### When a verify expiry returns the bank to IDLE (R114, R117) -/

theorem finished_iff {y : Train} : y.finished = true ↔ y.issued = y.planned ∧ y.inFlight = false ∧ y.verify = .expired := by
  simp [Train.finished, and_assoc]

/-- Every other train of a bank is finished. -/
def OthersFinished (b : BankNo) (k : TrainNo) (s : State) : Prop :=
  ∀ (k' : TrainNo) (y : Train), k' ∈ bankTrains s b → k' ≠ k → s.trains[k'] = some y →
    y.issued = y.planned ∧ y.inFlight = false ∧ y.verify = .expired

/-- No kick runs on the channels of a bank's reels. -/
def BankStill (b : BankNo) (s : State) : Prop := ∀ z ∈ s.banks[b].reels, s.chans[z.channel].isKicking = false

theorem Repositioned.still (h : Repositioned b s t) : BankStill b t ↔ BankStill b s := by
  have by_channel (u : State) : BankStill b u ↔ ∀ c ∈ u.banks[b].reels.map Reel.channel, u.chans[c].isKicking = false := by
    rw [List.forall_mem_map]; rfl
  rw [by_channel, by_channel, h.channels, h.chans]

theorem sameCourses_verified (h : w.trains = s.trains) (hx : s.trains[k] = some x) : SameCourses s (markVerified k w) := by
  have hw : w.trains[k] = some x := by rw [h]; exact hx
  rw [markVerified_of_some hw]
  exact (SameCourses.of_trains (.refl s) h).setTrain hw rfl

theorem bankReady_verified (h : Repositioned b s w) (hx : s.trains[k] = some x) (ho : x.owner = .reel b r)
    (hs : s.banks[b].state ≠ .idle) :
    BankReady b (markVerified k w) ↔ x.issued = x.planned ∧ x.inFlight = false ∧ BankStill b s ∧ OthersFinished b k s := by
  have hw : w.trains[k] = some x := by rw [h.trains]; exact hx
  have marked := markVerified_of_some hw
  have stands : (markVerified k w).trains[k] = some { x with verify := .expired } := by rw [marked]; exact getElem_set_same _ _ _
  have beside (j : TrainNo) (hj : j ≠ k) : (markVerified k w).trains[j] = s.trains[j] := by
    rw [marked, ← h.trains]
    exact getElem_set_other _ _ hj
  have still : BankStill b (markVerified k w) ↔ BankStill b s := by rw [marked]; exact h.still
  have own : k ∈ bankTrains s b := mem_bankTrains.mpr ⟨x, r, hx, ho⟩
  rw [← still, BankReady, (sameCourses_verified h.trains hx).bankTrains]
  constructor
  · rintro ⟨-, quiet, all⟩
    obtain ⟨done, unlaunched, -⟩ := finished_iff.mp (all k own _ stands)
    exact ⟨done, unlaunched, quiet, fun j y hj hne hy => finished_iff.mp (all j hj y ((beside j hne).trans hy))⟩
  · rintro ⟨done, unlaunched, quiet, others⟩
    refine ⟨by rw [marked]; exact fun e => hs (h.state.symm.trans e), quiet, fun j hj y hy => finished_iff.mpr ?_⟩
    by_cases hne : j = k
    · subst hne
      rw [stands] at hy
      cases hy
      exact ⟨done, unlaunched, rfl⟩
    · exact others j y hj hne ((beside j hne).symm.trans hy)

theorem markVerified_banks (k : TrainNo) (s : State) : (markVerified k s).banks = s.banks := by
  rw [markVerified]
  split <;> rfl

/-- The bank's return to IDLE frees its contexts (R114, R117). -/
theorem verified_returns (h : BankReady b (markVerified k w)) :
    (arbitrate (bankTest b (markVerified k w))).banks[b] = w.banks[b].returned ∧
      ∀ j ∈ bankTrains (markVerified k w) b, (arbitrate (bankTest b (markVerified k w))).trains[j] = none := by
  obtain ⟨-, run⟩ := (bankTest_eq b (markVerified k w)).resolve_right fun hn => hn.1 h
  rw [run]
  constructor
  · rw [(kept_arbitrate _).banks, State.setBank_banks, getElem_set_same, markVerified_banks]
  · intro j hj
    obtain ⟨free, -⟩ := (((Drains.refl _).setBank b _).arbitrate).gone (freeBank_gone hj)
    exact free

/-- A bank that is not finished keeps its state, and its train its context. -/
theorem verified_stays (hx : w.trains[k] = some x) (h : ¬ BankReady b (markVerified k w)) :
    (arbitrate (bankTest b (markVerified k w))).banks = w.banks ∧
      ∃ y, (arbitrate (bankTest b (markVerified k w))).trains[k] = some y ∧ y.verify = .expired := by
  obtain ⟨-, run⟩ := (bankTest_eq b (markVerified k w)).resolve_left fun hr => h hr.1
  have stands : (markVerified k w).trains[k] = some { x with verify := .expired } := by
    rw [markVerified_of_some hx]
    exact getElem_set_same _ _ _
  rw [run]
  obtain ⟨y, hy, setup⟩ := arbitrate_setup (setupAt_of_some stands)
  exact ⟨(kept_arbitrate _).banks.trans (markVerified_banks k w), y, hy, (congrArg Train.verify setup :)⟩

/-! ### What the Unit Logic's work makes of the reel -/

/-- A zeroing reel settled by its position and its zero switch (R117). -/
theorem settleZero_reel (h : s.reelAt b r = some reel) :
    ∃ z, (settleZero b r s).reelAt b r = some z ∧
      (s.inputs[reel.zero].closed = true → reel.position ≠ none → z = reel) ∧
      (s.inputs[reel.zero].closed = true → reel.position = none → z = { reel with position := some 0 }) ∧
      (s.inputs[reel.zero].closed = false → z = { reel with position := none }) ∧
      (s.inputs[reel.zero].closed = false → reel.position ≠ none → (settleZero b r s).latches.getLsbD 8 = true) ∧
      (s.inputs[reel.zero].closed = false → reel.position = none → (settleZero b r s).latches.getLsbD 9 = true) := by
  have hr : s.banks[b].reels[r]? = some reel := h
  have reads : s.closed reel.zero = s.inputs[reel.zero].closed := rfl
  rw [← reads]
  cases hz : s.closed reel.zero with
  | false =>
    cases hp : reel.position with
    | none =>
      have run : settleZero b r s = setLatch .reelStuck s := by simp only [settleZero, hr, hp, hz]
      have same : ({ reel with position := none } : Reel) = reel := by rw [← hp]
      rw [run]
      exact ⟨reel, h, nofun, nofun, fun _ => same.symm, fun _ hne => absurd rfl hne, fun _ _ => by simp [latchMask, latchBit]⟩
    | some p =>
      have run : settleZero b r s = setLatch .reelMismatch (setReel b r none s) := by simp only [settleZero, hr, hp, hz]
      rw [run]
      exact ⟨_, reelAt_setReel_same none h, nofun, nofun, fun _ => rfl, fun _ _ => by simp [latchMask, latchBit], nofun⟩
  | true =>
    cases hp : reel.position with
    | none =>
      have run : settleZero b r s = setReel b r (some 0) s := by simp only [settleZero, hr, hp, hz]
      rw [run]
      exact ⟨_, reelAt_setReel_same (some 0) h, fun _ hne => absurd rfl hne, fun _ _ => rfl, nofun, nofun, nofun⟩
    | some p =>
      have run : settleZero b r s = s := by simp only [settleZero, hr, hp, hz]
      rw [run]
      exact ⟨reel, h, fun _ _ => rfl, nofun, nofun, nofun, nofun⟩

/-- A reel of an ADDING bank checked against its zero switch (R113). -/
theorem reelCheck_reel (h : s.reelAt b r = some reel) (ha : s.banks[b].state = .adding) :
    ∃ z, (reelCheck b r inFlight s).reelAt b r = some z ∧
      (inFlight = true ∨ reel.position = none ∨
        (∃ p : Fin 10, reel.position = some p ∧ s.inputs[reel.zero].closed = decide (p = 0)) → z = reel) ∧
      ∀ p : Fin 10, inFlight = false → reel.position = some p → s.inputs[reel.zero].closed ≠ decide (p = 0) →
        z = { reel with position := none } ∧ (reelCheck b r inFlight s).latches.getLsbD 8 = true := by
  by_cases fails : ∃ p : Fin 10, inFlight = false ∧ reel.position = some p ∧ s.inputs[reel.zero].closed ≠ decide (p = 0)
  · obtain ⟨p, hf, hp, hz⟩ := fails
    obtain ⟨unknown, latch⟩ := mismatch_reel h
    rw [reelCheck_fails h hp ha hf hz]
    refine ⟨_, unknown, ?_, fun _ _ _ _ => ⟨rfl, latch⟩⟩
    rintro (e | e | ⟨p', e, agrees⟩)
    · rw [hf] at e; cases e
    · rw [hp] at e; cases e
    · rw [hp] at e
      cases e
      exact absurd agrees hz
  · have passes : reelCheck b r inFlight s = s := reelCheck_passes fun reel' p hr hp _ hf => by
      have same : reel' = reel := Option.some.inj (hr.symm.trans h)
      subst same
      by_contra hz
      exact fails ⟨p, hf, hp, hz⟩
    rw [passes]
    exact ⟨reel, h, fun _ => rfl, fun p hf hp hz => absurd ⟨p, hf, hp, hz⟩ fails⟩

end

/-- Settles O55: the check at an interval, the two kinds of work at a verify expiry, and when the expiry returns the bank to IDLE. -/
theorem reelsAreCheckedAndZeroed : Obligations.ReelsAreCheckedAndZeroed := by
  unfold Obligations.ReelsAreCheckedAndZeroed
  refine ⟨?interval, ?zeroing, ?adding, ?bank⟩
  case interval =>
    intro k x b r reel p ends s ht hx hi hf hr hp ha hs hn hc
    refine ⟨fun hz => ?fails, fun hz => ?passes⟩
    case fails =>
      obtain ⟨t, run, unknown, latch, y, hy, planned, issued, state⟩ := intervalExpiry_fails ht hx hi hf hr hp ha hs hc hz
      exact ⟨t, y, _, run, unknown, rfl, latch, hy, planned, issued, state⟩
    case passes =>
      have owner := owner_of_trainOf ht hx
      have passes : CheckPasses x s := fun b' r' reel' p' ho hr' hp' _ _ => by
        rw [owner] at ho
        cases ho
        rw [hr] at hr'
        cases hr'
        rw [hp] at hp'
        cases hp'
        exact hz
      rcases Nat.lt_or_eq_of_le hn with more | done
      · have calm : Calm (intervalStopped k x ends s) := hc
        obtain ⟨y, hy, setup, -, offered⟩ := enterWait_offers k { x with interval := none } calm
        have banks := ((kept_enterWait k { x with interval := none } (intervalStopped k x ends s)).trans (kept_arbitrate _)).banks
        exact ⟨_, y, intervalExpiry_offers hx hi passes more, banks, hy,
          fun _ => ⟨(congrArg Train.planned setup :), (congrArg Train.owner setup :), offered⟩, fun e => absurd e (Nat.ne_of_lt more)⟩
      · exact ⟨_, _, intervalExpiry_verifies hx hi hc passes (Nat.le_of_eq done.symm) owner, rfl, getElem_set_same _ _ _,
          fun more => absurd done (Nat.ne_of_lt more), fun _ => rfl⟩
  case zeroing =>
    intro k x b r reel ends s hx ho hv hr hs
    let u := s.reach ends
    have work : verifyReel b r x.inFlight u = settleZero b r u := if_pos hs
    have run := verifyExpiry_eq hx ho hv
    rw [work] at run
    obtain ⟨z, hz, agrees, home, lost, mismatched, stuck⟩ := settleZero_reel (s := u) hr
    have train : (settleZero b r u).trains[k] = some x := by rw [(repositioned_settleZero b r u).trains]; exact hx
    exact ⟨_, z, run, (verified_reel k _).trans hz, agrees, home, lost, fun hc hp => verified_latches b k (mismatched hc hp),
      fun hc hp => verified_latches b k (stuck hc hp), verified_train train ho⟩
  case adding =>
    intro k x b r reel ends s hx ho hv hr hs
    let u := s.reach ends
    have adds : ¬ u.banks[b].state = .zeroing := by rw [show u.banks[b].state = .adding from hs]; exact nofun
    have work : verifyReel b r x.inFlight u = reelCheck b r x.inFlight u := if_neg adds
    have run := verifyExpiry_eq hx ho hv
    rw [work] at run
    obtain ⟨z, hz, passes, fails⟩ := reelCheck_reel (inFlight := x.inFlight) (s := u) hr hs
    refine ⟨_, z, run, (verified_reel k _).trans hz, passes, fun p hf hp hc => ?_⟩
    obtain ⟨unknown, latch⟩ := fails p hf hp hc
    exact ⟨unknown, verified_latches b k latch⟩
  case bank =>
    intro k x b r reel ends s ht hx hv hst hr hs others still
    let w := verifyReel b r x.inFlight (s.reach ends)
    have owner := owner_of_trainOf ht hx
    have work : Repositioned b (s.reach ends) w := repositioned_verifyReel ht hx hst
    have moved : Repositioned b s w := ⟨work.trains, work.chans, work.state, work.rollover, work.channels⟩
    have ready : BankReady b (markVerified k w) ↔ x.issued = x.planned ∧ x.inFlight = false ∧ still ∧ others :=
      bankReady_verified moved hx owner hs
    refine ⟨fun done unlaunched quiet rest => ?returns, fun unfinished => ?stays⟩
    case returns =>
      obtain ⟨bank, freed⟩ := verified_returns (ready.mpr ⟨done, unlaunched, quiet, rest⟩)
      rw [(sameCourses_verified moved.trains hx).bankTrains] at freed
      refine ⟨_, verifyExpiry_eq hx owner hv, by rw [bank]; rfl, freed, ?_⟩
      rw [bank, Bank.returned, moved.state, moved.rollover]
    case stays =>
      have train : w.trains[k] = some x := by rw [moved.trains]; exact hx
      have busy : ¬ BankReady b (markVerified k w) := fun h => by
        obtain ⟨done, unlaunched, quiet, rest⟩ := ready.mp h
        rcases unfinished with h | h | h | h
        · exact h done
        · rw [unlaunched] at h; cases h
        · exact h quiet
        · exact h rest
      obtain ⟨banks, y, hy, verified⟩ := verified_stays train busy
      exact ⟨_, y, verifyExpiry_eq hx owner hv, by rw [banks]; exact moved.state, hy, verified, by rw [banks]; exact moved.rollover⟩

end Sys2Proof.Machine
end
